-- ==== Sys2Proof/Word.lean ====
section
/-!
DEFINITION. The words of the block: bytes, register words, and the plain containers the state is built of.
-/

namespace Sys2Proof

/-- A byte of a packet, a reply or a memory. -/
abbrev Byte := BitVec 8

/-- One 32-bit word of the module register space (R617). -/
abbrev Word := BitVec 32

/-- A sparse table: rows of (number, row), numbers strictly rising, no row equal to the table's
resting row. What an unlisted number holds is stated where the table is read. -/
abbrev Tab (α : Type) := List (Nat × α)

/-- The largest value of a 32-bit counter; counters saturate there (R147, R543, R581, R605). -/
def counterMax : Nat := 0xFFFFFFFF

/-- One more event on a saturating 32-bit counter. -/
def satInc (n : Nat) : Nat := if n < counterMax then n + 1 else counterMax

/-- `k` more events on a saturating 32-bit counter. -/
def satAdd (n k : Nat) : Nat := if n + k < counterMax then n + k else counterMax

/-- Reads bit `i` of a number. -/
def bitAt (v i : Nat) : Bool := v / 2 ^ i % 2 = 1

/-- Bits `hi` down to `lo` of a number. -/
def bitsOf (v hi lo : Nat) : Nat := v / 2 ^ lo % 2 ^ (hi + 1 - lo)

/-- A field of value `v`, cut to `w` bits, placed at bit `lo` of a register word. -/
def fieldAt (lo w v : Nat) : Nat := (v % 2 ^ w) * 2 ^ lo

/-- A one-bit field at bit `lo`. -/
def flagAt (lo : Nat) (b : Bool) : Nat := if b then 2 ^ lo else 0

/-- The `n` little-endian bytes of a value (R8). -/
def leBytes : Nat → Nat → List Byte
  | 0, _ => []
  | n + 1, v => BitVec.ofNat 8 v :: leBytes n (v / 256)

/-- The value of little-endian bytes (R8). -/
def leNat : List Byte → Nat
  | [] => 0
  | b :: bs => b.toNat + 256 * leNat bs

/-- An integer as an `n`-bit two's complement number. -/
def twosOf (n : Nat) (v : Int) : Nat := (v % (2 ^ n : Int)).toNat

/-- The integer that an `n`-bit two's complement number stands for. -/
def twosVal (n : Nat) (v : Nat) : Int :=
  if v % 2 ^ n < 2 ^ (n - 1) then (v % 2 ^ n : Nat) else ((v % 2 ^ n : Nat) : Int) - 2 ^ n

end Sys2Proof
end

