-- ==== Sys2Proof/Config.lean ====
section
/-!
DEFINITION. What the spec leaves open: free values, constants without a body. No proof can see what they are.
-/

namespace Sys2Proof

/-- The code of a job state in QUERY_JOB's byte 8: Table 5.20 names the byte, no table gives its codes. The argument
is the state's row in Table 5.8. [log 31 DESIGN CHOICE] -/
opaque Config.jobStateCode : Nat → BitVec 8

/-- A value the spec leaves open, fresh at every draw: the argument is the model's own counter of draws.
[log 16 DESIGN CHOICE] -/
opaque Config.free : Nat → BitVec 64

/-- The bits of an EWP function that the silicon stepping and the engine firmware fix within the accuracy of Table 6.13
(R223): function (1 recip, 2 rsqrt, 3 exp2, 4 log2, 5 tanh, 6 sigmoid, 7 sin, 8 cos), FP32 operand. [log 46 DESIGN CHOICE] -/
opaque Config.ewp : Nat → Nat → BitVec 32

/-- The Colour stage inputs 1 and 2 of a mono stream (Table 12.3 gives it one channel): FP32. [log 74 DEDUCED] -/
opaque Config.monoInput : Nat → BitVec 32

/-- The phase p of the Level stage for channel c of a stream without a colour filter array (Table 12.3). [log 74 DEDUCED] -/
opaque Config.levelPhase : Nat → BitVec 2

/-- Byte k of a decode status with a count of pictures, the flags COMPLETE (bit 0), CONCEALED (bit 1), MISSING (bit 2) and a
count of damage records: R423 names what the 32 bytes hold, no table gives their places. [log 78 DESIGN CHOICE] -/
opaque Config.decodeStatus : Nat → Nat → Nat → Nat → BitVec 8

/-- A field of a point record whose source the packet template does not name (R411): 0 intensity, 1 channel, 2 time offset.
[log 75 DEDUCED] -/
opaque Config.pointField : Nat → BitVec 16

/-- The bits of atan2(y, x) on FP32 codes, which the stepping and the engine firmware fix within 2 ulp (R436). -/
opaque Config.atan2 : Nat → Nat → BitVec 32

/-- What a transmit map of integer type sends for a value that is not a number (R457), by type. -/
opaque Config.nanRaw : Nat → BitVec 32

/-- The value of a wrapped table whose position, taken from POS0 in steps, has no finite FP64 value (R468).
[log 90 DESIGN CHOICE] -/
opaque Config.wrapRaw : Nat → BitVec 64

/-- The value, by position, of a copy of a friction or cogging table that nothing has loaded (R468 and R469 give none).
[log 90 DESIGN CHOICE] -/
opaque Config.tableUnset : Nat → BitVec 64

/-- BEAT_COUNT of a die whose rails are good, by die and time: the beats since the die's last reset (R234), which the
model's commands do not count. [log 118 DESIGN CHOICE] -/
opaque Config.beatCount : Nat → Nat → BitVec 64

/-- FACTOR_MACS of a resident problem (R473 names it and gives no formula), from the counts of L by column.
[log 92 DESIGN CHOICE] -/
opaque Config.factorMacs : List Nat → Nat

/-- ENTRY[i][k] of the voltage table of a die (Table 16.4), in mV: set at test, per part. Die, temperature point, pace point.
[log 104 DESIGN CHOICE] -/
opaque Config.voltageEntry : Nat → Nat → Nat → BitVec 16

/-- DIE_ID of a die's voltage table (Table 16.4). [log 104 DESIGN CHOICE] -/
opaque Config.dieId : Nat → BitVec 64

/-- The input energy, in picojoules, that the efficiency table of R82 gives for a rail energy in picojoules.
[log 19 DEDUCED] -/
opaque Config.inputEnergy : Nat → Nat

/-- The bytes of one entry of the safety log as READ_SAFETY_LOG writes them: R582 says what an entry holds, no table gives its
layout. Time, area, detail, flask, class, state. [log 110 DESIGN CHOICE] -/
opaque Config.safetyEntry : Nat → Nat → Nat → Nat → Nat → Nat → List (BitVec 8)

end Sys2Proof
end

