-- ==== Sys2Proof/Machine/Operands.lean ====
section
/-!
DEFINITION. Numbers as the engines handle them (spec 06_core_arithmetic.md): stored formats, exact values, rounding,
the operations of the Element-wise Pipeline and of FP64, and numeric descriptors.
-/

namespace Sys2Proof.Machine

/-! ### Order and roots -/

/-- Puts an element before the first one that it may precede. -/
def insertBy {α : Type} (le : α → α → Bool) (x : α) : List α → List α
  | [] => [x]
  | y :: ys => if le x y then x :: y :: ys else y :: insertBy le x ys

/-- A list in the order of `le`; elements that `le` does not tell apart keep their order. -/
def sortBy {α : Type} (l : List α) (le : α → α → Bool) : List α := l.foldr (insertBy le) []

/-- The `k` lowest binary digits of a root, by trial from the highest. -/
def rootFrom (n : Nat) : Nat → Nat → Nat
  | 0, r => r
  | k + 1, r => rootFrom n k (if (r + 2 ^ k) * (r + 2 ^ k) ≤ n then r + 2 ^ k else r)

/-- The greatest number whose square is at most `n`. -/
def rootOf (n : Nat) : Nat := rootFrom n (n.log2 / 2 + 1) 0

/-! ### Exact values -/

/-- A value: NaN, an infinity, or (−1)^neg × m × 2^e. [log 45 DEDUCED] -/
inductive Num where
  | nan
  | inf (neg : Bool)
  | fin (neg : Bool) (m : Nat) (e : Int)
deriving DecidableEq, Repr

def Num.zero : Num := .fin false 0 0

/-- The integer of a finite value in units of 2^u, for u at most its exponent. -/
def scaled (neg : Bool) (m : Nat) (e u : Int) : Int :=
  let v : Int := m * 2 ^ (e - u).toNat
  if neg then -v else v

/-- A finite value from an integer in units of 2^u; zero takes the sign given. -/
def ofScaled (v u : Int) (zeroNeg : Bool) : Num := if v = 0 then .fin zeroNeg 0 0 else .fin (v < 0) v.natAbs u

/-- Exact sum; a zero sum is +0 unless both terms are negative zeros. -/
def Num.add : Num → Num → Num
  | .nan, _ => .nan
  | _, .nan => .nan
  | .inf a, .inf b => if a = b then .inf a else .nan
  | .inf a, _ => .inf a
  | _, .inf b => .inf b
  | .fin a m e, .fin b n f =>
    let u := min e f
    ofScaled (scaled a m e u + scaled b n f u) u (a && b && m = 0 && n = 0)

/-- Exact product. -/
def Num.mul : Num → Num → Num
  | .nan, _ => .nan
  | _, .nan => .nan
  | .inf a, .inf b => .inf (a != b)
  | .inf a, .fin b n _ => if n = 0 then .nan else .inf (a != b)
  | .fin a m _, .inf b => if m = 0 then .nan else .inf (a != b)
  | .fin a m e, .fin b n f => .fin (a != b) (m * n) (e + f)

def Num.neg : Num → Num
  | .nan => .nan
  | .inf a => .inf (!a)
  | .fin a m e => .fin (!a) m e

def Num.abs : Num → Num
  | .nan => .nan
  | .inf _ => .inf false
  | .fin _ m e => .fin false m e

/-- Times 2^k, exact. -/
def Num.shift (k : Int) : Num → Num
  | .fin a m e => .fin a m (e + k)
  | x => x

/-- Order of two values that are not NaN; zeros are equal (R200). -/
def Num.lt : Num → Num → Bool
  | .nan, _ => false
  | _, .nan => false
  | .inf a, .inf b => a && !b
  | .inf a, _ => a
  | _, .inf b => !b
  | .fin a m e, .fin b n f => let u := min e f; decide (scaled a m e u < scaled b n f u)

def Num.isNan : Num → Bool | .nan => true | _ => false
def Num.isFin : Num → Bool | .fin .. => true | _ => false
def Num.isZero : Num → Bool | .fin _ 0 _ => true | _ => false
def Num.ofInt (v : Int) : Num := ofScaled v 0 false

/-! ### Stored formats (Table 6.4) -/

/-- [log 45 DEDUCED] -/
inductive Fmt where
  | e4m3 | e5m2 | int8 | bf16 | fp32 | fp64
deriving DecidableEq, Repr

/-- The FORMAT code of Table 6.5. -/
def Fmt.ofCode : Nat → Fmt
  | 0 => .e4m3 | 1 => .e5m2 | 2 => .int8 | 3 => .bf16 | _ => .fp32

/-- Width of M, bias, width of E, bytes. -/
def Fmt.mbits : Fmt → Nat
  | .e4m3 => 3 | .e5m2 => 2 | .int8 => 7 | .bf16 => 7 | .fp32 => 23 | .fp64 => 52
def Fmt.ebits : Fmt → Nat
  | .e4m3 => 4 | .e5m2 => 5 | .int8 => 0 | .bf16 => 8 | .fp32 => 8 | .fp64 => 11
def Fmt.bias : Fmt → Nat
  | .e4m3 => 7 | .e5m2 => 15 | .int8 => 0 | .bf16 => 127 | .fp32 => 127 | .fp64 => 1023
def Fmt.bytes : Fmt → Nat
  | .e4m3 => 1 | .e5m2 => 1 | .int8 => 1 | .bf16 => 2 | .fp32 => 4 | .fp64 => 8
/-- The code of the largest finite value. -/
def Fmt.maxCode : Fmt → Nat
  | .e4m3 => 0x7E | .e5m2 => 0x7B | .int8 => 0x7F | .bf16 => 0x7F7F | .fp32 => 0x7F7FFFFF | .fp64 => 0x7FEFFFFFFFFFFFFF
/-- The canonical NaN (R201). -/
def Fmt.nanCode : Fmt → Nat
  | .e4m3 => 0x7F | .e5m2 => 0x7E | .int8 => 0 | .bf16 => 0x7FC0 | .fp32 => 0x7FC00000 | .fp64 => 0x7FF8000000000000
/-- The code of +infinity; E4M3 and INT8 have none. -/
def Fmt.infCode : Fmt → Nat
  | .e4m3 => 0x7E | .e5m2 => 0x7C | .int8 => 0x7F | .bf16 => 0x7F80 | .fp32 => 0x7F800000 | .fp64 => 0x7FF0000000000000
/-- The sign bit. -/
def Fmt.sign (f : Fmt) : Nat := 2 ^ (8 * f.bytes - 1)

/-- The value of a stored code (R200). -/
def Fmt.decode (f : Fmt) (c : Nat) : Num :=
  if f = .int8 then Num.ofInt (twosVal 8 c)
  else
    let neg := decide (c / f.sign % 2 = 1)
    let mag := c % f.sign
    let e := mag / 2 ^ f.mbits
    let m := mag % 2 ^ f.mbits
    if f = .e4m3 ∧ mag = 0x7F then .nan
    else if f ≠ .e4m3 ∧ e = 2 ^ f.ebits - 1 then (if m = 0 then .inf neg else .nan)
    else if e = 0 then .fin neg m (1 - (f.bias : Int) - f.mbits)
    else .fin neg (m + 2 ^ f.mbits) ((e : Int) - f.bias - f.mbits)

/-- How a value between two neighbours is rounded: to nearest even, or up where the fraction in 2^-16 units and the
draw reach 65,536 (R204, R205). -/
inductive Rnd where
  | nearest
  | stochastic (r : Nat)
deriving DecidableEq, Repr

/-- Rounds m × 2^s to an integer; `odd` tells how a tie at the integer below is taken. [log 45 DEDUCED] -/
def roundInt (rnd : Rnd) (m : Nat) (s : Int) : Nat :=
  if 0 ≤ s then m * 2 ^ s.toNat
  else
    let d := 2 ^ (-s).toNat
    let q := m / d
    let r := m % d
    match rnd with
    | .nearest => if d < 2 * r ∨ (2 * r = d ∧ q % 2 = 1) then q + 1 else q
    | .stochastic k => if r ≠ 0 ∧ 65536 ≤ r * 65536 / d + k then q + 1 else q

/-- The code, without sign, of the value m × 2^e rounded into a floating-point format whose range has no upper end. -/
def Fmt.magnitude (f : Fmt) (rnd : Rnd) (m : Nat) (e : Int) : Nat :=
  let qmin : Int := 1 - (f.bias : Int) - f.mbits
  let q := max qmin (e + Nat.log2 m - f.mbits)
  (q - qmin).toNat * 2 ^ f.mbits + roundInt rnd m (e - q)

/-- IEEE 754 rounding to nearest even, overflow to infinity (R212, R223). -/
def Fmt.ieee (f : Fmt) : Num → Nat
  | .nan => f.nanCode
  | .inf neg => f.infCode + if neg then f.sign else 0
  | .fin neg m e =>
    let c := if m = 0 then 0 else f.magnitude .nearest m e
    (if f.infCode ≤ c then f.infCode else c) + if neg then f.sign else 0

/-- The draw of stochastic rounding (R205). -/
def stochasticDraw (seed index : Nat) : Nat :=
  let w := 2 ^ 64
  let x := ((seed * 2 ^ 32) ^^^ index) % w
  let x := x ^^^ (x / 2 ^ 33)
  let x := x * 0xFF51AFD7ED558CCD % w
  let x := x ^^^ (x / 2 ^ 33)
  let x := x * 0xC4CEB9FE1A85EC53 % w
  let x := x ^^^ (x / 2 ^ 33)
  x % 65536

/-! ### FP32 and FP64 operations (R223) -/

/-- FP32 codes. [log 45 DEDUCED] -/
def f32 (c : Nat) : Num := Fmt.fp32.decode c
def toF32 (v : Num) : Nat := Fmt.fp32.ieee v
def fadd (a b : Nat) : Nat := toF32 ((f32 a).add (f32 b))
def fsub (a b : Nat) : Nat := toF32 ((f32 a).add (f32 b).neg)
def fmul (a b : Nat) : Nat := toF32 ((f32 a).mul (f32 b))
def ffma (a b c : Nat) : Nat := toF32 (((f32 a).mul (f32 b)).add (f32 c))
/-- Element-wise min and max: a NaN operand gives the other (Table 6.13). -/
def fmin (a b : Nat) : Nat :=
  if (f32 a).isNan then (if (f32 b).isNan then 0x7FC00000 else b) else if (f32 b).isNan then a
  else if (f32 b).lt (f32 a) then b else a
def fmax (a b : Nat) : Nat :=
  if (f32 a).isNan then (if (f32 b).isNan then 0x7FC00000 else b) else if (f32 b).isNan then a
  else if (f32 a).lt (f32 b) then b else a
/-- The propagating max of reductions (R226). -/
def fmaxP (a b : Nat) : Nat := if (f32 a).isNan || (f32 b).isNan then 0x7FC00000 else fmax a b
def fminP (a b : Nat) : Nat := if (f32 a).isNan || (f32 b).isNan then 0x7FC00000 else fmin a b
def fneg (a : Nat) : Nat := if (f32 a).isNan then 0x7FC00000 else (a + 0x80000000) % 2 ^ 32
def fabs (a : Nat) : Nat := if (f32 a).isNan then 0x7FC00000 else a % 0x80000000
def flt (a b : Nat) : Bool := (f32 a).lt (f32 b)

/-- Square root rounded to nearest even. -/
def Num.sqrtTo (f : Fmt) : Num → Nat
  | .nan => f.nanCode
  | .inf neg => if neg then f.nanCode else f.infCode
  | .fin neg m e =>
    if m = 0 then (if neg then f.sign else 0)
    else if neg then f.nanCode
    else
      let k := 2 * (f.mbits + 4) + (if e % 2 = 0 then 0 else 1)
      let n := m * 2 ^ k
      let r := rootOf n
      f.ieee (.fin false (2 * r + if r * r = n then 0 else 1) ((e - k) / 2 - 1))

/-- Quotient rounded to nearest even. -/
def Num.divTo (f : Fmt) : Num → Num → Nat
  | .nan, _ => f.nanCode
  | _, .nan => f.nanCode
  | .inf _, .inf _ => f.nanCode
  | .inf a, .fin b _ _ => f.infCode + if a != b then f.sign else 0
  | .fin a _ _, .inf b => if a != b then f.sign else 0
  | .fin a m e, .fin b n g =>
    if n = 0 then (if m = 0 then f.nanCode else f.infCode + if a != b then f.sign else 0)
    else if m = 0 then (if a != b then f.sign else 0)
    else
      let k := f.mbits + 4 + Nat.log2 n + 1
      let q := m * 2 ^ k / n
      f.ieee (.fin (a != b) (2 * q + if m * 2 ^ k % n = 0 then 0 else 1) (e - g - k - 1))

def fsqrt (a : Nat) : Nat := (f32 a).sqrtTo .fp32

/-- FP64 codes (chapter 14). [log 45 DEDUCED] -/
def f64 (c : Nat) : Num := Fmt.fp64.decode c
def dadd (a b : Nat) : Nat := Fmt.fp64.ieee ((f64 a).add (f64 b))
def dsub (a b : Nat) : Nat := Fmt.fp64.ieee ((f64 a).add (f64 b).neg)
def dmul (a b : Nat) : Nat := Fmt.fp64.ieee ((f64 a).mul (f64 b))
def dfma (a b c : Nat) : Nat := Fmt.fp64.ieee (((f64 a).mul (f64 b)).add (f64 c))
def ddiv (a b : Nat) : Nat := (f64 a).divTo .fp64 (f64 b)
def dsqrt (a : Nat) : Nat := (f64 a).sqrtTo .fp64
def dlt (a b : Nat) : Bool := (f64 a).lt (f64 b)
def dneg (a : Nat) : Nat := if (f64 a).isNan then Fmt.fp64.nanCode else (a + 2 ^ 63) % 2 ^ 64
def dabs (a : Nat) : Nat := a % 2 ^ 63

/-- FP32 constants: 1.0, LOG2E (R227), infinities. -/
def fOne : Nat := 0x3F800000
def fLog2e : Nat := 0x3FB8AA3B
def fInf : Nat := 0x7F800000
def fNegInf : Nat := 0xFF800000
def fNan : Nat := 0x7FC00000

/-! ### EWP functions whose bits the stepping fixes (Table 6.13) -/

/-- The free bits of an EWP function. [log 46 DESIGN CHOICE] -/
def ewpFree (op a : Nat) : Nat := (Config.ewp op a).toNat

def frecip (a : Nat) : Nat :=
  match f32 a with
  | .nan => fNan
  | .inf neg => if neg then 0x80000000 else 0
  | .fin neg m _ => if m = 0 then fInf + (if neg then 0x80000000 else 0) else ewpFree 1 a
def frsqrt (a : Nat) : Nat :=
  match f32 a with
  | .nan => fNan
  | .inf neg => if neg then fNan else 0
  | .fin neg m _ => if m = 0 then (if neg then ewpFree 2 a else fInf) else if neg then fNan else ewpFree 2 a
/-- exp2: x ≥ 128 gives +infinity, x < −150 gives +0. [log 46 DESIGN CHOICE] -/
def fexp2 (a : Nat) : Nat :=
  match f32 a with
  | .nan => fNan
  | .inf neg => if neg then 0 else fInf
  | v => if !v.lt (Num.ofInt 128) then fInf else if v.lt (Num.ofInt (-150)) then 0 else ewpFree 3 a
def flog2 (a : Nat) : Nat :=
  match f32 a with
  | .nan => fNan
  | .inf neg => if neg then fNan else fInf
  | .fin neg m _ => if m = 0 then fNegInf else if neg then fNan else ewpFree 4 a
/-- [log 46 DESIGN CHOICE] -/
def ftanh (a : Nat) : Nat :=
  match f32 a with
  | .nan => fNan
  | .inf neg => if neg then 0xBF800000 else fOne
  | _ => ewpFree 5 a
def fsigmoid (a : Nat) : Nat :=
  match f32 a with
  | .nan => fNan
  | .inf neg => if neg then 0 else fOne
  | _ => ewpFree 6 a
/-- sin and cos: above 2^20, NaN. [log 46 DESIGN CHOICE] -/
def fsincos (op a : Nat) : Nat :=
  match f32 a with
  | .nan => fNan
  | .inf _ => fNan
  | v => if (Num.ofInt (2 ^ 20)).lt v.abs then fNan else ewpFree op a
def fsin (a : Nat) : Nat := fsincos 7 a
def fcos (a : Nat) : Nat := fsincos 8 a

/-! ### Reductions (R226 to R228) -/

/-- One level of a pairwise tree; an unpaired value passes up. -/
def pairUp (op : Nat → Nat → Nat) : List Nat → List Nat
  | a :: b :: r => op a b :: pairUp op r
  | l => l

/-- The pairwise tree of per-core results in logical core order. -/
def treeOf (op : Nat → Nat → Nat) (id : Nat) : Nat → List Nat → Nat
  | 0, l => l.headD id
  | n + 1, l => treeOf op id n (pairUp op l)

/-- A core's segment: 64 lanes in steps of 64, then the lane tree. -/
def segReduce (op : Nat → Nat → Nat) (id : Nat) (x : List Nat) : Nat :=
  let lanes := (List.range 64).map fun j =>
    (List.range ((x.length + 63 - j) / 64)).foldl (fun acc i => op acc (x.getD (j + 64 * i) id)) id
  treeOf op id 6 lanes

/-- A reduction over a row cut into segments, one per core (R226). -/
def reduceRow (op : Nat → Nat → Nat) (id : Nat) (segs : List (List Nat)) : Nat :=
  treeOf op id segs.length (segs.map (segReduce op id))

def sumRow (segs : List (List Nat)) : Nat := reduceRow fadd 0 segs
def maxRow (segs : List (List Nat)) : Nat := reduceRow fmaxP fNegInf segs

/-- Softmax of a row (R227). -/
def softmaxRow (segs : List (List Nat)) : List (List Nat) :=
  let m := maxRow segs
  if m = fNegInf then segs.map fun x => x.map fun _ => 0
  else
    let e := segs.map fun x => x.map fun v => fexp2 (fmul (fsub v m) fLog2e)
    let r := frecip (sumRow e)
    e.map fun x => x.map fun v => fmul v r

/-! ### Numeric descriptors (Table 6.5) -/

/-- A tensor as an entry names it: its address, its format and CVT, its scale. Scale array and drift slot lie where the
parameter record says. [log 47 DESIGN CHOICE] -/
structure TDesc where
  va : Nat := 0
  fmt : Fmt := .fp32
  /-- W4 weights: FORMAT 0x5 and 0x6, with the addresses of CODES and BOOKS -/
  w4 : Bool := false
  codes : Nat := 0
  books : Nat := 0
  stochastic : Bool := false
  ovf : Bool := false
  /-- SCALE mode 0 to 5, HEADROOM, FIXED_EXP -/
  scale : Nat := 0
  headroom : Nat := 0
  fixedExp : Int := 0
  seed : Nat := 0
  scaleVa : Nat := 0
  /-- index of the tensor in the pour image: its drift record (R220) -/
  index : Nat := 0
deriving DecidableEq, Repr

end Sys2Proof.Machine
end

