-- ==== Sys2Proof/Machine/Blocks/Kernel.lean ====
section
/-!
DEFINITION. The parameter records of the Tensor Array's operations (Tables 7.2, 7.5, 8.5, 9.5, 9.7 and the records the
text of chapters 7 and 9 describes), as a pour image's parameter table gives them.
-/

namespace Sys2Proof.Machine

/-- EWP operations of an epilogue (Table 6.13, R224). -/
inductive EpFn where
  | add | sub | mul | fma | min | max | abs | neg | sqrt | recip | rsqrt | exp2 | log2 | tanh | sigmoid | sin | cos
deriving DecidableEq, Repr

/-- An operand of an epilogue operation: a scalar, a value per column, per row, or per element (R224). -/
inductive EpSrc where
  | scalar (c : Nat)
  | column (t : TDesc)
  | row (t : TDesc)
  | element (t : TDesc)
deriving DecidableEq, Repr

/-- One epilogue operation on the running value. -/
structure EpOp where
  fn : EpFn
  b : EpSrc := .scalar 0
  c : EpSrc := .scalar 0
deriving DecidableEq, Repr

/-- Convolution record (Table 7.2) with the pitches of the input's window descriptor (R239). [log 47 DESIGN CHOICE] -/
structure ConvRec where
  inW : Nat := 1
  inH : Nat := 1
  cIn : Nat := 1
  cOut : Nat := 1
  kw : Nat := 1
  kh : Nat := 1
  sx : Nat := 1
  sy : Nat := 1
  dx : Nat := 1
  dy : Nat := 1
  padLeft : Nat := 0
  padTop : Nat := 0
  outW : Nat := 1
  outH : Nat := 1
  xMode : Nat := 0
  yMode : Nat := 0
  groups : Nat := 1
  padValue : Nat := 0
  bandY0 : Nat := 0
  bandRows : Nat := 1
  outY0 : Nat := 0
  outRows : Nat := 1
  /-- STRIDE_3 and STRIDE_2 of the input descriptor, in bytes -/
  rowPitch : Nat := 0
  pixelPitch : Nat := 0
deriving DecidableEq, Repr

/-- S2C record (R247). -/
structure RegroupRec where
  inW : Nat := 1
  inH : Nat := 1
  c : Nat := 1
  b : Nat := 2
  padValue : Nat := 0
  outW : Nat := 1
  outH : Nat := 1
deriving DecidableEq, Repr

/-- A gate instruction (Table 7.6). -/
structure GateOp where
  op : Nat
  dst : Nat
  a : Nat := 0
  b : Nat := 0
deriving DecidableEq, Repr

/-- Recurrence record (Table 7.5); `inputs` is the length of x. [log 47 DESIGN CHOICE] -/
structure RecurRec where
  h : Nat := 1
  inputs : Nat := 1
  gates : Nat := 1
  split : Bool := false
  outSlot : Nat := 6
  states : Nat := 1
  stream : Nat := 0
  konst : Nat := 0
  program : List GateOp := []
deriving DecidableEq, Repr

/-- SSM_STEP record. -/
structure SsmRec where
  channels : Nat := 1
  n : Nat := 1
  stream : Nat := 0
deriving DecidableEq, Repr

/-- What a SCAN works on: steps, channels, the stream, the cores (R256). -/
structure ScanRec where
  steps : Nat := 1
  channels : Nat := 1
  stream : Nat := 0
  cores : Nat := 1
deriving DecidableEq, Repr

/-- Attention record (Table 8.5). `cores` is the core count of a row (R284), `batch` the rows of the batch tensors,
`split` the segment lengths of a packed row's reductions (R226). [log 47 DESIGN CHOICE] -/
structure AttRec where
  layer : Nat := 0
  first : Bool := false
  last : Bool := false
  causal : Bool := false
  rope : Bool := false
  expand : Bool := false
  hq : Nat := 1
  /-- D_H, in elements -/
  dh : Nat := 32
  window : Nat := 0
  scaleQk : Nat := 0x3F800000
  layout : Nat := 0
  seqLen : Nat := 1
  cores : Nat := 1
  batch : Nat := 1
  split : List Nat := []
  /-- the entry has a result header array (second extension TD) -/
  headers : Bool := false
deriving DecidableEq, Repr

/-- SAMPLE record (Table 9.5). [log 47 DESIGN CHOICE] -/
structure SampleRec where
  v : Nat := 2
  mode : Nat := 0
  k : Nat := 0
  invTemp : Nat := 0x3F800000
  seed : Nat := 0
deriving DecidableEq, Repr

/-- TABLE_GATHER record (Table 9.7). -/
structure GatherRec where
  table : Nat := 0
  wait : Bool := false
  count : Nat := 1
deriving DecidableEq, Repr

/-- The coefficients of OPT_STEP (R325), FP32, and the element count. [log 47 DESIGN CHOICE] -/
structure OptRec where
  count : Nat := 1
  b1 : Nat := 0
  c1 : Nat := 0
  b2 : Nat := 0
  c2 : Nat := 0
  bc1 : Nat := 0
  bc2 : Nat := 0
  lr : Nat := 0
  wd : Nat := 0
  eps : Nat := 0
  /-- TD names a BF16 copy of the weights -/
  copy : Bool := false
deriving DecidableEq, Repr

end Sys2Proof.Machine
end

