-- ==== Sys2Proof/Machine/Blocks/Host.lean ====
section
/-!
DEFINITION. The state of the host interface: functions, contexts, rings, attention
(spec 04_host_and_commands.md).
-/

namespace Sys2Proof.Machine

/-- The states of a context (Table 4.2). -/
inductive CtxState where
  | free | opened | halted | detached | closing
deriving DecidableEq, Repr

/-- The code of a context state in CONTEXT_STATUS and RING_STATUS (Table 4.11). -/
def CtxState.code : CtxState → Nat
  | .free => 0 | .opened => 1 | .halted => 2 | .detached => 3 | .closing => 4

/-- A ring set (Table 4.11): bases, orders, vector. -/
structure RingSet where
  sqBase : Nat := 0
  cqBase : Nat := 0
  mirror : Nat := 0
  sqOrder : Nat := 4
  cqOrder : Nat := 4
  vector : Nat := 0
deriving DecidableEq, Repr

/-- A packet in flight: taken up, its final reply not yet written (R125, R127). -/
structure Ticket where
  ctx : Nat
  /-- tells packets apart across re-attachments of a ring -/
  uid : Nat
  seq : BitVec 32
  opcode : Nat
  quiet : Bool
  /-- the interim reply has been sent, so one reply slot is still held (R127) -/
  interim : Bool := false
  /-- the context has left OPEN since take-up: replies are discarded (R140) -/
  lost : Bool := false
deriving DecidableEq, Repr

/-- One context (R114, R115). -/
structure Ctx where
  state : CtxState := .free
  anchored : Bool := false
  /-- owner: 0 the physical function, else the virtual function number -/
  fn : Nat := 0
  haltReason : Nat := 0
  ring : RingSet := {}
  enable : Bool := false
  ringError : Nat := 0
  expSeq : BitVec 32 := 1
  sqHead : Nat := 0
  sqTail : Nat := 0
  cqHead : Nat := 0
  cqTail : Nat := 0
  mirrorCount : BitVec 32 := 0
  dropped : Nat := 0
  event : BitVec 32 := 0
  inFlight : List Ticket := []
  /-- a reply without QUIET stands without an interrupt (R131) -/
  irqPending : Bool := false
  /-- interrupts raised on the context's vector, and when the last one was (R131) -/
  irqCount : Nat := 0
  irqLast : Option Nat := none
  /-- the CLOSE_CONTEXT or REVOKE_FUNCTION that waits for the context to become FREE (R135, R136) -/
  closer : Option Ticket := none
deriving DecidableEq, Repr

/-- One virtual function (R133, R137, R138). -/
structure Fn where
  granted : Bool := false
  home : Nat := 0
  allowance : Nat := 0
  areas : BitVec 12 := 0
  /-- a Function Level Reset is running: BAR0 writes ignored, reads 0 (R138) -/
  inFlr : Bool := false
  /-- D3hot (R138) -/
  d3hot : Bool := false
deriving DecidableEq, Repr

/-- One entry of the attention log (R144). -/
structure AttnEntry where
  time : Nat
  cause : Nat
  area : Nat
  detail : Nat
  ctx : Nat
  /-- the virtual address of a poison hit, else 0 (R362) -/
  va : Nat
deriving DecidableEq, Repr

/-- The host interface (spec 04). -/
structure HostIf where
  ctxs : Tab Ctx := []
  /-- packets taken up so far -/
  taken : Nat := 0
  fns : Tab Fn := []
  /-- virtual functions enabled by SR-IOV -/
  numVf : Nat := 0
  /-- ATTN_CAUSE without its mirror bits 1 and 2 (Table 4.12) -/
  cause : BitVec 16 := 0
  /-- ATTN_MASK (Table 4.12) -/
  mask : BitVec 16 := 0xFFFF
  /-- the attention log, oldest first, at most 64 (R144) -/
  log : List AttnEntry := []
  overflow : Bool := false
  /-- HOST_ATTN_N is asserted (R142) -/
  attnLine : Bool := false
  /-- times MSI-X vector 0 of the physical function has been raised (R142) -/
  attnIrqs : Nat := 0
  linkUp : Bool := false
  linkSpeed : Nat := 0
  linkWidth : Nat := 0
  /-- PCIE_PERST_N is asserted (R139) -/
  perst : Bool := false
  /-- level of HOST_RDY (R141) -/
  hostRdy : Bool := false
  /-- the word the last register read returned -/
  readData : Nat := 0
  /-- words that reads of low halves have latched, by function × 2^32 + offset: the high halves, the calendar with
  TB_NOW, the record with EGO_POSE (R14, R387, R453) -/
  latch : Tab Nat := []
  /-- the diagnostic port's own latches (R601) -/
  diagLatch : Tab Nat := []
  /-- low halves of 64-bit registers held until the write of the high half, by function × 2^32 + offset (R14) -/
  hold : Tab Nat := []
deriving DecidableEq, Repr

/-- A FREE context at rest: what an unlisted context is. -/
def Ctx.rest : Ctx := {}

/-- A virtual function that holds no grant: what an unlisted function is. -/
def Fn.rest : Fn := {}

/-- The host interface after reset: context 0 DETACHED and anchored, every other FREE (Table 4.2). [log 14 DESIGN CHOICE] -/
def HostIf.atReset : HostIf :=
  { ctxs := [(0, { Ctx.rest with state := .detached, anchored := true })] }

end Sys2Proof.Machine
end

