-- ==== Sys2Proof/Machine/Blocks/Supply.lean ====
section
/-!
DEFINITION. The state of the discrete lines (spec 02_module_interfaces.md) and of power delivery,
start-up and the compute dies (spec 03_power_and_startup.md, 01_architecture.md).
-/

namespace Sys2Proof.Machine

/-- The grades of the ordering codes (R1 to R4, Table 0.3). -/
inductive Grade where
  | la600 | la450 | ld600
deriving DecidableEq, Repr

/-- VARIANT of MODULE_ID (Table 0.3). -/
def Grade.variant : Grade → Nat
  | .la600 => 1 | .la450 => 2 | .ld600 => 3

/-- Active cores per compute die (Table 0.3). -/
def Grade.cores : Grade → Nat
  | .la600 => 128 | .la450 => 112 | .ld600 => 128

/-- Fewest passing sites of a die that stays in service (Table 3.5). -/
def Grade.leastSites : Grade → Nat
  | .la600 => 96 | .la450 => 84 | .ld600 => 96

/-- What fuses and straps fix (R7, R93, Table 2.6). [log 10 DESIGN CHOICE] -/
structure Fuses where
  grade : Grade := .la600
  stepping : Nat := 0xA1
  /-- fused-off sites, (die, site) -/
  fusedOff : List (Nat × Nat) := []
  /-- the security version counter, 0 to 64 (R590) -/
  secCounter : Nat := 0
  /-- MGMT_ADDR[1:0] as tied on the carrier -/
  addrStraps : Nat := 3
deriving DecidableEq, Repr

/-- What of the module is running (Table 2.10); the safe state is told by Keystone's own flag. -/
inductive RunState where
  | off | standby | startUp | running
deriving DecidableEq, Repr

/-- The discrete lines as Keystone sees them (Tables 2.8 and 2.9, R65). [log 10 DESIGN CHOICE] -/
structure Lines where
  run : RunState := .standby
  /-- both safety outputs commanded valid (R53, R553) -/
  safeCmd : Bool := false
  /-- an output that reads otherwise than commanded: (A, B) (R55) -/
  safeAWrong : Bool := false
  safeBWrong : Bool := false
  tripA : Bool := false
  tripB : Bool := false
  wake : Bool := false
  ppsSeen : Bool := false
  vinGood : Bool := false
  kaInRange : Bool := true
  /-- SIGNAL_FAULT (Table 2.9) -/
  fault : BitVec 8 := 0
  /-- MGMT_ALERT_N asserted (R65) -/
  alert : Bool := false
  /-- MGMT_ADDR[1:0], sampled when KA became good -/
  mgmtAddr : Nat := 3
  /-- TRIG and PPS_OUT follow the timebase (R59) -/
  trigLive : Bool := false
  /-- level of each TRIG line after its last pulse, and of PPS_OUT: pulses seen -/
  trigPulses : Tab Nat := []
  ppsOutEdges : Nat := 0
  /-- R69: the hub supervisor holds the module; only both supplies cycled ends it -/
  lockdown : Bool := false
  /-- both halves of Keystone have stopped (R547) -/
  keystoneStopped : Bool := false
  /-- words returned by the sideband, newest last: (command byte, word) (R65) -/
  sideband : List (Nat × Word) := []
  /-- address bytes returned at the Alert Response Address (R65) -/
  alertReplies : List Nat := []
deriving DecidableEq, Repr

/-- CDn_RAILS of Table 3.9. -/
inductive Rails where
  | off | good | softStart | locked
deriving DecidableEq, Repr

def Rails.code : Rails → Nat
  | .off => 0 | .good => 1 | .softStart => 2 | .locked => 3

/-- What holds a core site (Table 6.15, R18). -/
inductive SiteRole where
  | active | reserve | slack | retired | fused | none
deriving DecidableEq, Repr

/-- Why a compute die is out of service (R621, R37). -/
inductive DieOut where
  | lockout | fewSites | voltageTable | migrationEngine | phases | undervoltage | mapLost
  | sensors | revocation | thermal | retired
deriving DecidableEq, Repr

/-- One compute die as power delivery sees it (R76 to R102). -/
structure Die where
  rails : Rails := .off
  /-- soft-start attempts made (R76) -/
  attempts : Nat := 0
  /-- DIE_ABSENT[n] and why (R621) -/
  out : Option DieOut := none
  /-- DIE_SHORT[n] -/
  short : Bool := false
  /-- rails off under R37, not absent -/
  parked : Bool := false
  /-- R37 has begun and its steps are not complete -/
  parking : Bool := false
  /-- a die reset is in progress (R102), and the command that waits for it -/
  resetting : Bool := false
  resetTicket : Option Ticket := none
  /-- PHASE_STATUS (Table 3.10) -/
  removed : BitVec 16 := 0
  senseFail : BitVec 16 := 0
  /-- BIST pass 1 complete (R90) -/
  bist1 : Bool := false
  /-- sites that failed BIST in the present run -/
  failed : List Nat := []
  /-- CORE_COUNT_CDn (Table 3.12) -/
  active : Nat := 0
  reserve : Nat := 0
  retiredCount : Nat := 0
  early : Nat := 0
  /-- committed roles: logical core number k runs on site `order[k]` (R96) -/
  order : List Nat := []
  spares : List Nat := []
deriving DecidableEq, Repr

/-- One entry of the retirement record (R597). -/
structure Retired where
  kind : Nat
  unit : Nat
  index : Nat
  time : Nat
deriving DecidableEq, Repr

/-- A rail group as soft start sees it (R76, R78): the hub rails as one, or the die rails of one die. -/
inductive RailId where
  | hub | die (n : Nat)
deriving DecidableEq, Repr

/-- What the checks of a boot find (Table 3.4): for each image pair, (active bank verifies, other bank verifies).
[log 17 DESIGN CHOICE] -/
structure Boot where
  mp : Bool × Bool := (true, true)
  pa : Bool × Bool := (true, true)
  tensor : Bool × Bool := (true, true)
  /-- Migration, Ingest, Codec, Spatial, Loop Processor, Solver: components 4 to 9 -/
  engines : List (Bool × Bool) := [(true, true), (true, true), (true, true), (true, true), (true, true), (true, true)]
  /-- dies whose voltage table copies both fail or whose table breaks R527 -/
  badTables : List Nat := []
deriving DecidableEq, Repr

/-- How a die reset ends (R102): its rails lock out, its voltage table fails, the sites that fail BIST. -/
structure DieTest where
  railsLock : Bool := false
  badTable : Bool := false
  failing : List Nat := []
deriving DecidableEq, Repr

/-- Power delivery, start-up and resets (spec 03). [log 12 DESIGN CHOICE] -/
structure Supply where
  ibcA : Bool := false
  ibcB : Bool := false
  hubOk : Bool := false
  hubAttempts : Nat := 0
  vinLowExt : Bool := false
  vhubRemoved : BitVec 8 := 0
  vhubSense : BitVec 8 := 0
  /-- the input sensor is declared failed (R82) -/
  inputSensorFailed : Bool := false
  /-- steps of Table 3.3 that have occurred, bit k for step k -/
  steps : BitVec 16 := 0
  early : Bool := false
  full : Bool := false
  /-- W1C bits of START_STATUS in the keep-alive domain (R107) -/
  bankFallback : Bool := false
  hubLocked : Bool := false
  mpImageFail : Bool := false
  /-- ENGINE_MISSING: Ingest, Codec, Spatial, Loop Processor, Solver, Migration -/
  engineMissing : BitVec 6 := 0
  ksBank : Nat := 0
  mpBank : Nat := 0
  /-- RESET_CAUSE (Table 3.13) -/
  resetCause : BitVec 10 := 0
  /-- bits of RESET_CAUSE to be written at the next start (R109) -/
  nextCause : BitVec 10 := 0
  /-- what the boot checks of the running start find -/
  boot : Boot := {}
  dies : Tab Die := []
  /-- the retirement record (R597), oldest first -/
  record : List Retired := []
  recordFull : Bool := false
  /-- units out of service for the present run only: retired with the record full, or re-admitted and not yet tested again
  (R596, R597) -/
  outNow : List Retired := []
  /-- ENTER_STANDBY accepted; the power-down runs (R99) -/
  enteringStandby : Bool := false
  /-- a module reset is due, and whether by RESET_MODULE (R101) -/
  resetDue : Option Bool := none
  /-- the power-loss record has been written to T3 (Table 3.2) -/
  powerLossRecords : Nat := 0
  /-- viaduct links: lanes failed so far of each of the eight links (R20) -/
  laneFails : Tab Nat := []
  /-- KA cycled since the lock-down of R69 -/
  kaCycled : Bool := false
deriving DecidableEq, Repr

/-- A compute die at rest: rails off, neither absent nor short. -/
def Die.rest : Die := {}

end Sys2Proof.Machine
end

