-- ==== Sys2Proof/Machine/Flags.lean ====
section
/-!
DEFINITION. Flags and counts of the arithmetic: out-of-range conversion (Table 6.6), the exact accumulator and its
flags (R208 to R213), on-the-fly scales (R218), the drift rule (R221).
-/

namespace Sys2Proof.Machine

/-- SAT, UF and NAN counts of conversions. -/
structure Counts where
  sat : Nat := 0
  uf : Nat := 0
  nan : Nat := 0
deriving DecidableEq, Repr

def Counts.add (a b : Counts) : Counts := { sat := a.sat + b.sat, uf := a.uf + b.uf, nan := a.nan + b.nan }

/-- Conversion of an exact value to a stored format under Table 6.6. -/
def Fmt.store (f : Fmt) (rnd : Rnd) (ovf : Bool) (v : Num) : Nat × Counts :=
  match v with
  | .nan => (f.nanCode, { nan := 1 })
  | .inf neg =>
    if f = .int8 then (if neg then 0x80 else 0x7F, { sat := 1 })
    else ((if ovf then f.infCode else f.maxCode) + (if neg then f.sign else 0), { sat := 1 })
  | .fin neg m e =>
    if f = .int8 then
      let k := roundInt rnd m e
      let top : Num := .fin neg (if neg then 128 else 127) 0
      if top.abs.lt (.fin false m e) then (if neg then 0x80 else 0x7F, { sat := 1 })
      else (twosOf 8 (if neg then -(k : Int) else k), { uf := if k = 0 ∧ m ≠ 0 then 1 else 0 })
    else
      let s := if neg then f.sign else 0
      if (f.decode f.maxCode).lt (.fin false m e) then
        ((if ovf then f.infCode else f.maxCode) + s, { sat := 1 })
      else
        let c := if m = 0 then 0 else f.magnitude rnd m e
        (c + s, { uf := if c = 0 ∧ m ≠ 0 then 1 else 0 })

/-- Conversion under a tensor's CVT of its element `index` (R204 to R206). -/
def TDesc.store (t : TDesc) (index : Nat) (v : Num) : Nat × Counts :=
  t.fmt.store (if t.stochastic then .stochastic (stochasticDraw t.seed index) else .nearest) t.ovf v

/-! ### The exact accumulator -/

/-- A 96-bit accumulator in units of 2^-32, with its flags (R208). [log 45 DEDUCED] -/
structure Acc where
  v : Int := 0
  nan : Bool := false
  pinf : Bool := false
  ninf : Bool := false
deriving DecidableEq, Repr

/-- Adds a product (R209, R211). -/
def Acc.add (a : Acc) (x y : Num) : Acc :=
  match x.mul y with
  | .nan => { a with nan := true }
  | .inf neg => if neg then { a with ninf := true } else { a with pinf := true }
  | .fin neg m e => { a with v := a.v + scaled neg m e (-32) }

/-- Two partial records combine (R213). -/
def Acc.join (a b : Acc) : Acc :=
  { v := a.v + b.v, nan := a.nan || b.nan, pinf := a.pinf || b.pinf, ninf := a.ninf || b.ninf }

/-- The 16 bytes of a partial record (Table 6.9). -/
def Acc.bytes (a : Acc) : List Byte :=
  leBytes 12 (twosOf 96 a.v) ++ leBytes 1 (flagAt 0 a.nan + flagAt 1 a.pinf + flagAt 2 a.ninf) ++ [0, 0, 0]

/-- Readout with scale exponents (R212). -/
def Acc.readout (a : Acc) (sa sw so : Int) : Num :=
  if a.nan || (a.pinf && a.ninf) then .nan
  else if a.pinf then .inf false
  else if a.ninf then .inf true
  else ofScaled a.v (-32 + sa + sw - so) false

/-- One beat of the BF16 path: 32 products as one exact sum onto the FP32 accumulator (R214). -/
def bf16Beat (acc : Nat) (ps : List (Nat × Nat)) : Nat :=
  toF32 (ps.foldl (fun t (p : Nat × Nat) => t.add ((Fmt.bf16.decode p.1).mul (Fmt.bf16.decode p.2))) (f32 acc))

/-- Cuts a list into pieces of `n`; the fuel is the length of the list. -/
def chunks {α : Type} (n : Nat) : Nat → List α → List (List α)
  | 0, _ => []
  | k + 1, l => if l.isEmpty then [] else l.take n :: chunks n k (l.drop n)

/-- A BF16 reduction within a core: 32 elements a beat in ascending order, from +0. -/
def bf16Dot (ps : List (Nat × Nat)) : Nat := (chunks 32 ps.length ps).foldl bf16Beat 0

/-! ### Scales -/

/-- EMAX and MLIM × 2^6 of Table 6.11. -/
def Fmt.emax : Fmt → Int
  | .e4m3 => 8 | .e5m2 => 15 | _ => 6
def Fmt.mlim : Fmt → Num
  | .e4m3 => .fin false 7 (-2) | .e5m2 => .fin false 7 (-2) | _ => .fin false 127 (-6)

/-- The largest magnitude among the finite values of a row (R218 step 1). -/
def amaxOf (row : List Num) : Num :=
  row.foldl (fun m v => match v with
    | .fin _ a e => if m.lt (.fin false a e) then .fin false a e else m
    | _ => m) .zero

/-- The scale exponent of a row on the fly (R218 steps 2 to 4). -/
def rowScale (f : Fmt) (headroom : Nat) (row : List Num) : Int :=
  match amaxOf row with
  | .fin _ m e =>
    if m = 0 then 0
    else
      let top : Int := Nat.log2 m
      let c : Int := if f.mlim.lt (.fin false m (-top)) then 1 else 0
      max (-127) (min 127 (e + top - f.emax + headroom + c))
  | _ => 0

/-! ### Drift records (Table 6.12) -/

structure Drift where
  exp : Int := 0
  minExp : Int := 0
  maxExp : Int := 0
  satLimit : Nat := 0
  ufLimit : Nat := 0
  hold : Nat := 0
  holdLeft : Nat := 0
  moves : Nat := 0
deriving DecidableEq, Repr

/-- The 64 bits of a drift record. -/
def Drift.word (d : Drift) : Nat :=
  fieldAt 0 8 (twosOf 8 d.exp) + fieldAt 8 8 (twosOf 8 d.minExp) + fieldAt 16 8 (twosOf 8 d.maxExp)
    + fieldAt 24 12 d.satLimit + fieldAt 36 12 d.ufLimit + fieldAt 48 4 d.hold + fieldAt 52 4 d.holdLeft + fieldAt 56 8 d.moves

/-- The rule after an execution (R221). -/
def Drift.move (d : Drift) (c : Counts) : Drift :=
  if 0 < d.holdLeft then { d with holdLeft := d.holdLeft - 1 }
  else if d.satLimit < c.sat then
    if d.exp < d.maxExp then { d with exp := d.exp + 1, holdLeft := d.hold, moves := min 255 (d.moves + 1) } else d
  else if c.sat = 0 ∧ d.ufLimit < c.uf ∧ d.minExp < d.exp then
    { d with exp := d.exp - 1, holdLeft := d.hold, moves := min 255 (d.moves + 1) }
  else d

end Sys2Proof.Machine
end

