-- ==== Sys2Proof/Machine/Blocks/Exec.lean ====
section
/-!
DEFINITION. The state of engines, pours, jobs, flasks, synchronisation objects and configuration series
(spec 05_execution_model.md), and the pour image as the module reads it (R164 and the chapters it names).
-/

namespace Sys2Proof.Machine

/-- The attribute word of a result (Table 19.6). -/
structure Attrs where
  valid : Bool := true
  shifted : Bool := false
  remapped : Bool := false
  mixedGen : Bool := false
  concealed : Bool := false
  aged : Bool := false
  deferred : Bool := false
  voted : Bool := false
  anytime : Bool := false
deriving DecidableEq, Repr

/-- A result header (Table 19.5). -/
structure Header where
  outputTime : Nat
  sourceEpoch : Nat
  generation : Nat
  cls : Nat
  flask : Nat
  attrs : Attrs
  digest : Nat
deriving DecidableEq, Repr

/-- A WAIT or SIGNAL field of an entry (Table 5.4): object, and target or (action, amount). -/
structure WaitField where
  object : Nat
  target : Nat
deriving DecidableEq, Repr

structure SignalField where
  object : Nat
  action : Nat
  amount : Nat
deriving DecidableEq, Repr

/-- What an output is derived from (R614): an earlier entry of the pour, an imported result, a batch. -/
inductive Source where
  | entry (k : Nat)
  | result (cls : Nat)
  | batch (tundish : Nat)
deriving DecidableEq, Repr

/-- A pour entry with its extensions (Tables 5.2 and 5.3), and what its parameter record declares. -/
structure Entry where
  op : Nat
  onAbandonSkip : Bool := false
  overlap : Bool := false
  result : Bool := false
  tensors : List Nat := []
  param : Nat := 0
  waits : List WaitField := []
  signals : List SignalField := []
  /-- reserved fields and the extension sequence are as R154 asks -/
  wellFormed : Bool := true
  /-- result class of an entry with RESULT, and what its outputs derive from -/
  cls : Nat := 0
  sources : List Source := []
deriving DecidableEq, Repr

/-- A pour: an engine queue and its entries (R150). -/
structure Pour where
  engine : Nat
  queue : Nat
  entries : List Entry
  params : Nat := 65536
deriving DecidableEq, Repr

/-- One step of the Tensor Array: a firing of one core (chapter 5, "Firing in the Tensor Array"). -/
structure Step where
  core : Nat
  entry : Nat
  ins : List Nat := []
  outs : List Nat := []
  startSpan : Nat := 0
  endSpan : Nat := 0
  /-- inputs may come from the tundish: missing input rule R30 -/
  batches : List Nat := []
deriving DecidableEq, Repr

/-- A segment of a pour image (Table 10.3); `init` is the data carried in the image. -/
structure Segment where
  va : Nat
  big : Bool := false
  home : Nat := 2
  /-- 0 to 3, or 4 for the placement of R341 -/
  stack : Nat := 4
  write : Bool := true
  extern : Bool := false
  bytes : Nat
  init : List Byte := []
deriving DecidableEq, Repr

/-- A prefetch descriptor (Table 10.5). -/
structure Prefetch where
  queue : Nat
  trigger : Nat
  lower : Bool := false
  pin : Bool := false
  next : Bool := false
  /-- 0 to 2; 3 none, of a lower -/
  tier : Nat
  va : Nat
  /-- in 64 KiB units -/
  pages : Nat
  stack : Nat := 4
  useQueue : Nat := 0
  use : Option Nat := none
  /-- TIER 0: frame for each 64 KiB of the range: (die, core site, frame) -/
  place : List (Nat × Nat × Nat) := []
deriving DecidableEq, Repr

/-- A stream that an image declares (R257): home tier, element format, layout hash, initial state. -/
structure StreamDecl where
  tier : Nat := 2
  fmt : Fmt := .fp32
  layout : Nat := 0
  initial : List Byte := []
deriving DecidableEq, Repr

/-- A drift record of an image: the tensor, the entry that writes it, the initial values (R220). -/
structure DriftDecl where
  tensor : Nat
  pour : Nat
  entry : Nat
  init : Drift
deriving DecidableEq, Repr

/-- A pour image as the module finds it on loading (chapter 5, "Pour images"): the fields that the
rules name. Its byte layout is the compiler's and the spec does not give it. [log 30 DESIGN CHOICE] -/
structure PourImage where
  /-- the SHA-384 hash matches -/
  hashOk : Bool := true
  hash : Nat := 0
  /-- rules of other chapters that the image breaks, as the module finds them (R233, R246, R276, R354,
  R452, R483, R562 and the like) -/
  broken : List Nat := []
  /-- the listed-settings digest it was compiled for -/
  digest : Nat := 0
  paced : Bool := false
  spanUs : Nat := 0
  period : Nat := 1
  phase : Nat := 0
  /-- parting-capable boundaries of the period -/
  parting : List Nat := []
  /-- core count per die -/
  cores : List Nat := [0, 0, 0, 0]
  pours : List Pour := []
  steps : List Step := []
  /-- credits of each edge -/
  edges : List Nat := []
  /-- declared energy per epoch, in credits, per die (R523) -/
  energy : List Nat := [0, 0, 0, 0]
  imports : List Nat := []
  /-- peaks, by tier 0 to 2 in 64 KiB units, of raised copies and of pins (R350); pages of the return pool (R293) -/
  peakRaised : List Nat := []
  peakPins : List Nat := []
  returnPool : Nat := 0
  segments : List Segment := []
  prefetch : List Prefetch := []
  /-- declared resident inputs, for affinity: (die, core site, bytes) (R168) -/
  resident : List (Nat × Nat × Nat) := []
  streams : List StreamDecl := []
  drifts : List DriftDecl := []
  /-- map tables that its TABLE_GATHER entries read (R314) -/
  tables : List Nat := []
  /-- objects of chapters 13 and 14 that its entries name: (kind, number); kind 1 projection index table, 2 track set,
  3 lattice, 4 resident problem, 5 trajectory slot, 6 friction or cogging table -/
  uses : List (Nat × Nat) := []
  /-- its TAKE_BATCH entries: tundish and window (R416) -/
  takes : List (Nat × Nat) := []
  /-- training image (R323) -/
  training : Bool := false
  /-- slack cores a C3 image declares (R561) -/
  slack : Nat := 0
deriving DecidableEq, Repr

/-- What a step meets when it fires (R362, R184): nothing, a poisoned line, an access outside the mappings, an
operation its engine refuses, an internal error. -/
inductive StepHit where
  | none | poison | translation | illegal | engine
deriving DecidableEq, Repr

/-- The kinds of synchronisation object (Table 5.5). -/
inductive SyncKind where
  | free | counter | event | barrier
deriving DecidableEq, Repr

def SyncKind.code : SyncKind → Nat
  | .free => 0 | .counter => 1 | .event => 2 | .barrier => 3

/-- One synchronisation object (chapter 5, "Synchronisation objects"). -/
structure Sync where
  kind : SyncKind := .free
  /-- counter value, or bit 0 of an event, or the barrier generation -/
  value : Nat := 0
  arrivals : Nat := 0
  parties : Nat := 0
  abandoned : Bool := false
  servedByHub : Bool := false
  holder : Nat := 0
  home : Nat := 0
  owner : Nat := 0
  waiters : BitVec 16 := 0
  pending : Nat := 0
deriving DecidableEq, Repr

/-- Job states (Table 5.8). -/
inductive JobState where
  | loaded | ready | running | draining | ended | faulted
deriving DecidableEq, Repr

/-- An entry's output as results derived from it see it. -/
structure OutState where
  attrs : Attrs := {}
  epoch : Nat := 0
  missing : Bool := false
deriving DecidableEq, Repr

/-- A pour on its queue: its job or submitting context, its entries, how far it has gone. -/
structure PourRun where
  job : Option Nat
  ctx : Nat
  flask : Nat
  pour : Nat := 0
  entries : List Entry
  next : Nat := 0
  inFlight : List Nat := []
  iteration : Nat := 0
  /-- events that a PULSE has satisfied for the entry that waits -/
  pulsed : List Nat := []
  /-- what the operation of an entry has noted of its own output -/
  own : Tab OutState := []
  /-- outputs of completed entries -/
  outs : Tab OutState := []
  /-- issue is suspended: revoked, draining, stopped or at a commit that fell due -/
  held : Bool := false
deriving DecidableEq, Repr

/-- One engine queue (R150): the pour it executes and the pours behind it. -/
structure Queue where
  pours : List PourRun := []
deriving DecidableEq, Repr

/-- One job (Tables 5.8 and 5.12). [log 39 DEDUCED] -/
structure Job where
  used : Bool := false
  state : JobState := .loaded
  owner : Nat := 0
  flask : Nat := 0
  image : PourImage := {}
  cause : Nat := 0
  iterations : Nat := 0
  repeats : Bool := false
  /-- core set: (die, logical core), in the image's core order -/
  cores : List (Nat × Nat) := []
  /-- order in which it became ready, times passed over (R169) -/
  readyAt : Nat := 0
  passed : Nat := 0
  placed : Nat := 0
  /-- fewer cores than its image names (R187, R231) -/
  remapped : Bool := false
  drainMode : Nat := 0
  startTicket : Option Ticket := none
  stopTicket : Option Ticket := none
  /-- tokens on each edge, steps fired, steps in flight -/
  tokens : Tab Nat := []
  fired : Tab Nat := []
  inFlight : List Nat := []
  /-- steps stopped by R157 or fed by a missing input: their outputs are missing -/
  missing : List Nat := []
  /-- steps of a C3 flask that a vote decided (R564): their outputs carry VOTED -/
  voted : List Nat := []
  /-- suspended by STOP_FLASK -/
  suspended : Bool := false
  /-- of a paced flask: a period of the job has begun (R165) -/
  begun : Bool := false
  /-- the job was RUNNING when its flask was reset (Table 5.9) -/
  wasRunning : Bool := false
deriving DecidableEq, Repr

inductive FlaskState where
  | empty | created | loaded | active | stopped | resetting
deriving DecidableEq, Repr

def FlaskState.code : FlaskState → Nat
  | .empty => 0 | .created => 1 | .loaded => 2 | .active => 3 | .stopped => 4 | .resetting => 5

inductive RunMode where
  | paced | free | tile
deriving DecidableEq, Repr

def RunMode.code : RunMode → Nat
  | .paced => 0 | .free => 1 | .tile => 2

/-- What STAGE_FLASK stages and COMMIT_CONFIG commits (R176, R177, R625). -/
structure Holdings where
  /-- cores held, (die, logical core) -/
  cores : List (Nat × Nat) := []
  /-- queues held, (engine, queue) -/
  queues : List (Nat × Nat) := []
  /-- regulator words (Table 5.17) by path -/
  bw : Tab Nat := []
  /-- tier quota and pin quota, in 64 KiB units, by tier (R346) -/
  quota : Tab (Nat × Nat) := []
deriving DecidableEq, Repr

/-- A task of a tile-task flask (R175): its context, the core whose store holds its input tile, the core that runs it. -/
structure TileTask where
  ctx : Nat
  hint : Option (Nat × Nat) := none
  core : Option (Nat × Nat) := none
deriving DecidableEq, Repr

/-- A result that waits for its boundary (R28), with the engine, entry and pour image it comes from (R506). -/
structure Waiting where
  header : Header
  engine : Nat := 0
  entry : Nat := 0
  image : Nat := 0
deriving DecidableEq, Repr

/-- One flask (Table 5.9). -/
structure Flask where
  state : FlaskState := .empty
  cls : Nat := 0
  mode : RunMode := .paced
  spanUs : Nat := 0
  autoRestart : Bool := false
  generation : Nat := 0
  committed : Holdings := {}
  shadow : Holdings := {}
  /-- something has been staged since the last commit (STAGED) -/
  staged : Bool := false
  tenants : List Nat := []
  resets : Nat := 0
  /-- STOP_FLASK waits for a parting line, and its command (R170, R171) -/
  stopPending : Bool := false
  stopTicket : Option Ticket := none
  /-- commands that wait for step 6 of Table 5.13 (RESET_FLASK, REVOKE_FLASK) -/
  resetTickets : List Ticket := []
  /-- blocks whose revocation has not been confirmed (R578): dies 0-3, 4 hub engines, 5 endpoint, 6 synchronisation store -/
  unconfirmed : List Nat := []
  /-- its queues are marked revoked (R577): no entry of it issues -/
  revoked : Bool := false
  /-- spans passed in the running period, and whether a period has begun (R165) -/
  span : Nat := 0
  inPeriod : Bool := false
  /-- instant of the last span boundary of the flask since it started -/
  lastBoundary : Option Nat := none
  /-- tile tasks queued or running, in order of submission (R175); the tenant whose queue was served last -/
  tasks : List TileTask := []
  turn : Nat := 0
  tileProgram : Bool := false
  /-- results of entries completed since the last boundary, waiting for it (R28) -/
  waitingResults : List Waiting := []
  /-- a die with cores of this flask was lost: re-mapping is due at the next parting line (R187) -/
  remapDue : List Nat := []
  /-- sites to retire and dies to leave at the next parting line (R594, R595, R364) -/
  retireDue : List (Nat × Nat) := []
  leaveDue : List Nat := []
deriving DecidableEq, Repr

/-- What a series commits at each member: its shadow state and selection (R177, R435), or a firmware bank (R587). -/
inductive SeriesKind where
  | config
  | bank (component : Nat)
deriving DecidableEq, Repr

/-- A series (R177 to R182): members in order, how many have committed, when it stops. -/
structure Series where
  kind : SeriesKind
  generation : Nat
  members : List Nat
  done : Nat := 0
  timeoutMs : Nat := 100
  /-- when the wait for the next member began -/
  since : Nat := 0
  stopped : Bool := false
  ticket : Option Ticket := none
deriving DecidableEq, Repr

/-- A reload that waits for its swap boundary (R592). -/
structure Reload where
  flask : Nat
  newJobs : List Nat
  timeoutMs : Nat
  since : Nat
  ticket : Ticket
deriving DecidableEq, Repr

/-- The execution block (spec 05). -/
structure Exec where
  queues : Tab Queue := []
  syncs : Tab Sync := []
  jobs : Tab Job := []
  flasks : Tab Flask := []
  lastGen : Nat := 0
  series : List Series := []
  /-- generations in order of issue with the members of their series, newest first (R181) -/
  issued : List (Nat × List Nat) := []
  reloads : List Reload := []
  stallMs : Nat := 100
  /-- newest result delivered of each class (R28, R30) -/
  results : Tab Header := []
  /-- order in which jobs became ready -/
  readyClock : Nat := 0
deriving DecidableEq, Repr

def Sync.rest : Sync := {}
def Job.rest : Job := {}
def Flask.rest : Flask := {}
def Queue.rest : Queue := {}

end Sys2Proof.Machine
end

