-- ==== Sys2Proof/Machine/Blocks/Memory.lean ====
section
/-!
DEFINITION. The state of the memory tiers, translation and migration (spec 10_memory_tiers.md): pages, their frames,
claims, pins and moves; mappings; error counters.
-/

namespace Sys2Proof.Machine

/-- Migration state of a page (Table 10.2 MSTATE, Table 10.7). -/
inductive MState where
  | home | raising | raised | lowering | rehoming | lost
deriving DecidableEq, Repr

def MState.code : MState → Nat
  | .home => 0 | .raising => 1 | .raised => 2 | .lowering => 3 | .rehoming => 4 | .lost => 5

/-- A claim of a flask on a tier (R342); `job` names the job whose reservation carries it (R350). -/
structure Claim where
  flask : Nat
  tier : Nat
  job : Option Nat := none
  /-- placed by a descriptor with PIN (R349) -/
  pin : Bool := false
deriving DecidableEq, Repr

/-- What a page is asked for (Table 10.7). A tier of 3 in `lower` stands for none. `frame` is the place of a T0 raise;
`stack` is 4 where none is named. -/
inductive PageEvent where
  | raise (flask ctx tier stack : Nat) (job : Option Nat) (pin : Bool) (frame : Option Nat)
  | pin (flask ctx tier : Nat)
  | unpin (flask : Nat)
  | lower (flask tier : Nat)
  | rehome (flask ctx tier stack : Nat)
deriving DecidableEq, Repr

/-- The destination of a move: tier, frame, and the party that asked for it (R355, R358). -/
structure Dest where
  tier : Nat
  frame : Nat
  flask : Nat
  ctx : Nat
deriving DecidableEq, Repr

/-- One page: 64 KiB, or 2 MiB if `big`. Frames are PA[51:16] (Table 10.1). -/
structure Page where
  used : Bool := false
  big : Bool := false
  /-- the owning flask and context (R341) -/
  owner : Nat := 0
  ctx : Nat := 0
  homeTier : Nat := 2
  homeFrame : Nat := 0
  mstate : MState := .home
  /-- the raised copy: tier and frame -/
  copyAt : Option (Nat × Nat) := none
  dest : Option Dest := none
  dirty : Bool := false
  claims : List Claim := []
  /-- pins placed by PIN, by a descriptor or by a pinned group: (flask, tier) (R349) -/
  pins : List (Nat × Nat) := []
  /-- events held, oldest first (R357) -/
  held : List PageEvent := []
  /-- contents of the home frame and of the raised copy; an unlisted byte reads 0 (R333) -/
  data : List Host.Cell := []
  copy : List Host.Cell := []
  /-- poisoned lines by index: of 64 bytes, or of 4 KiB in T3 (R362) -/
  poison : List Nat := []
  copyPoison : List Nat := []
  /-- a page of a KV sequence: charged to whichever tier holds it (R273) -/
  kv : Bool := false
  /-- the stack that parking moved the page's home from (R37) -/
  former : Option Nat := none
deriving DecidableEq, Repr

/-- A mapping of a context: pages in order from `va` (R335). -/
structure Mapping where
  ctx : Nat
  flask : Nat
  va : Nat
  pages : List Nat
  big : Bool
  write : Bool
  /-- the context's own pages, or a reference (R343) -/
  own : Bool
  /-- the job whose segment it is (R340) -/
  job : Option Nat := none
  kv : Bool := false
deriving DecidableEq, Repr

/-- What waits for pages to be moved: a command (PIN, MOVE) or an entry (R287, R351). -/
inductive Mover where
  | command (t : Ticket)
  | entry (engine queue entry : Nat)
deriving DecidableEq, Repr

/-- What the wait is for: the pages serve from a tier at least as fast, their claims are dropped, or they are homed. -/
inductive Goal where
  | raised (tier : Nat)
  | lowered (flask : Nat)
  | homed (tier : Nat)
deriving DecidableEq, Repr

structure MoveWait where
  mover : Mover
  pages : List Nat
  goal : Goal
  /-- an entry that has been counted in T0_WAITS -/
  counted : Bool := false
deriving DecidableEq, Repr

/-- The counters of one flask's moves (Table 10.15). -/
structure MoveCount where
  late : Nat := 0
  t0Waits : Nat := 0
  /-- MOVED is MiB; bytes moved are kept exact -/
  movedBytes : Nat := 0
  poisonHits : Nat := 0
deriving DecidableEq, Repr

/-- One correctable error source (Tables 10.11 and 10.16). -/
structure MemSource where
  threshold : Nat := 16
  windowMs : Nat := 1000
  corrected : Nat := 0
  uncorrected : Nat := 0
  /-- leaky count per unit -/
  leaky : Tab Nat := []
deriving DecidableEq, Repr

/-- EVACUATE_STACK, parking or retirement of a die in progress on a stack (R37, R371, R594). -/
structure Evacuation where
  stack : Nat
  /-- pages relocated so far -/
  moved : Nat := 0
  ticket : Option Ticket := none
deriving DecidableEq, Repr

/-- The memory block (spec 10). -/
structure Tiers where
  pages : Tab Page := []
  /-- pages made so far -/
  made : Nat := 0
  maps : List Mapping := []
  /-- freed frames not yet cleared: (frame, 64 KiB units) (R333) -/
  clearing : List (Nat × Nat) := []
  /-- commands that wait until frames they map are cleared: (command, return values, frames) -/
  waitClear : List (Ticket × List Byte × List Nat) := []
  moves : List MoveWait := []
  evac : List Evacuation := []
  /-- quota of a context in a tier, at context × 4 + tier; unlisted: 0xFFFF_FFFF, none (R368) -/
  ctxQuota : Tab Nat := []
  counts : Tab MoveCount := []
  sources : List MemSource := [{}, {}, {}, {}, {}]
  /-- PEAK of XLAT_STATUS -/
  xlatPeak : Nat := 0
  /-- T3_WEAR, in percent -/
  wear : Nat := 0
  /-- complete passes of the patrol scrubber, by store (R366) -/
  scrubs : Tab Nat := []
deriving DecidableEq, Repr

def Page.rest : Page := {}
def MoveCount.rest : MoveCount := {}

end Sys2Proof.Machine
end

