-- ==== Sys2Proof/Machine/Blocks/Tensor.lean ====
section
/-!
DEFINITION. The state behind the Tensor Array's operations: drift records and conversion counters (spec 06), streams
(spec 07), KV sequences (spec 08), families, map tables and the route (spec 09).
-/

namespace Sys2Proof.Machine

/-! ### Streams (R257 to R264) -/

/-- A command that waits for the parting line of a stream's flask, in ring order (R264). -/
inductive StreamOp where
  | reset (t : Ticket)
  | exporting (t : Ticket) (toModule : Bool) (addr : Nat)
  | importing (t : Ticket) (steps : Nat) (nonfinite note : Bool) (state : List Byte)
deriving DecidableEq, Repr

/-- One stream. -/
structure Stream where
  used : Bool := false
  job : Nat := 0
  index : Nat := 0
  tier : Nat := 2
  fmt : Fmt := .fp32
  layout : Nat := 0
  initial : List Byte := []
  /-- the home copy -/
  state : List Byte := []
  steps : Nat := 0
  lastTime : Nat := 0
  nonfinite : Bool := false
  ops : List StreamOp := []
deriving DecidableEq, Repr

/-- A new state that waits for its entry to complete (R258). -/
structure WriteBack where
  queue : Nat
  entry : Nat
  stream : Nat
  state : List Byte
  /-- the sequence starts from the stream's initial state, which clears NONFINITE (R259, R261) -/
  fresh : Bool := false
deriving DecidableEq, Repr

/-! ### KV sequences (R269 to R310) -/

inductive SeqState where
  | free | live | held | closing
deriving DecidableEq, Repr

def SeqState.code : SeqState → Nat
  | .free => 0 | .live => 1 | .held => 2 | .closing => 3

/-- One KV sequence. -/
structure Seq where
  state : SeqState := .free
  owner : Nat := 0
  flask : Nat := 0
  layers : Nat := 0
  lLat : Nat := 0
  rPos : Nat := 0
  fmt : Fmt := .e4m3
  big : Bool := false
  maxTokens : Nat := 0
  pinHead : Nat := 0
  slide : Bool := false
  prealloc : Bool := false
  pTok : Nat := 0
  hash : Nat := 0
  wbase : Nat := 0
  fill : Nat := 0
  liveFirst : Nat := 0
  /-- group g of the sequence: the number of the page group it maps -/
  groups : Tab Nat := []
  /-- hold cause: 0 none, 1 QUOTA, 2 LIMIT -/
  cause : Nat := 0
  key : Nat := 0
  family : Option Nat := none
  /-- the length table of the step in flight, the tokens it appends, and whether the row is held (R278) -/
  step : Option Nat := none
  stepLen : Nat := 0
  stepHeld : Bool := false
  trim : List (Nat × Ticket) := []
  closers : List Ticket := []
deriving DecidableEq, Repr

/-- A page group: one page per layer (R271). `goner` tells a spilled group's T1 side. -/
structure Group where
  used : Bool := false
  flask : Nat := 0
  pages : List Nat := []
deriving DecidableEq, Repr

/-- A fork or release that waits for a step in flight (R305). -/
structure ForkWait where
  source : Nat
  target : Nat
  key : Nat
  release : Bool := false
  /-- FORK_SEQUENCE and its return values; the KV_FORK entry that waits -/
  ticket : Option (Ticket × List Byte) := none
  entry : Option (Nat × Nat) := none
  /-- where the STATUS byte of its fork table row lies: context, address (Table 9.2) -/
  status : Option (Nat × Nat) := none
deriving DecidableEq, Repr

/-- Counters of one flask: Tables 8.10 and 9.9. -/
structure KvCount where
  spills : Nat := 0
  slides : Nat := 0
  holds : Nat := 0
  late : Nat := 0
  forks : Nat := 0
  copies : Nat := 0
  skipped : Nat := 0
deriving DecidableEq, Repr

/-! ### Map tables and the route (R314 to R322) -/

/-- A directory entry: the block's address in T3 and its CRC-32C; the block is unreadable (R315, R322). -/
structure TileBlock where
  block : Nat
  crc : Nat := 0
  bad : Bool := false
deriving DecidableEq, Repr

/-- A tile list entry of WRITE_MAP_TILES (Table 9.11): tile key, address, the block's bytes. -/
structure TileWrite where
  key : Nat
  addr : Nat
  data : List Byte
deriving DecidableEq, Repr

/-- One map table (Table 9.6, Table 9.10). -/
structure MapTable where
  created : Bool := false
  owner : Nat := 0
  readers : BitVec 16 := 0
  rowBytes : Nat := 0
  rows : Nat := 0
  tileM : Nat := 16
  format : Nat := 0
  tier : Nat := 2
  slots : Nat := 0
  t3Bytes : Nat := 0
  default : List Byte := []
  /-- directories of versions A and B, by tile key of 40 bits -/
  dirA : Tab TileBlock := []
  dirB : Tab TileBlock := []
  activeB : Bool := false
  /-- a switch waits for the owner's parting line; readers that have not yet switched -/
  switchTicket : Option Ticket := none
  lagging : List Nat := []
  /-- WRITE_MAP_TILES in progress: its command and the entries -/
  writing : Option (Ticket × List TileWrite) := none
  /-- staged tiles: (key, block, staged in radius mode) -/
  staged : List (Nat × Nat × Bool) := []
  wanted : List Nat := []
  /-- tiles being fetched: (key, block, reads made) -/
  fetching : List (Nat × Nat × Nat) := []
  short : Bool := false
  misses : Nat := 0
  absent : Nat := 0
  badTiles : Nat := 0
  destroyer : Option Ticket := none
deriving DecidableEq, Repr

/-- The route (Table 9.8); coordinates are FP32 codes. -/
structure Route where
  points : List (Nat × Nat) := []
  corridor : Nat := 16
  ahead : Nat := 0
  behind : Nat := 0
  share : Nat := 1000
  /-- 0 no route, 1 route, 2 radius -/
  mode : Nat := 0
  /-- arc length of the last projection in 2^-16 metres, the position, arc length staged ahead in metres -/
  arc : Nat := 0
  at_ : Option (Int × Int) := none
  reach : Nat := 0
deriving DecidableEq, Repr

/-! ### The block -/

structure Tensor where
  /-- drift records by job × 65536 + tensor (R220); counts of the execution that runs; SET_DRIFT staged -/
  drifts : Tab Drift := []
  driftRun : Tab Counts := []
  driftSets : List (Nat × Nat × Drift × Option Ticket) := []
  /-- SAT, UF and NAN counts by die × 144 + site (Table 6.15) -/
  sites : Tab Counts := []
  streams : Tab Stream := []
  streamPeak : Nat := 0
  writeBacks : List WriteBack := []
  seqs : Tab Seq := []
  groups : Tab Group := []
  groupsMade : Nat := 0
  /-- KV_APPEND with LAST in flight: (queue, entry, length table) -/
  closings : List (Nat × Nat × Nat) := []
  forkWaits : List ForkWait := []
  counts : Tab KvCount := []
  familyPeak : Nat := 0
  maps : Tab MapTable := []
  /-- contents of T3 blocks that directories name -/
  blocks : Tab (List Byte) := []
  blocksMade : Nat := 0
  route : Route := {}
deriving DecidableEq, Repr

def Stream.rest : Stream := {}
def Seq.rest : Seq := {}
def Group.rest : Group := {}
def KvCount.rest : KvCount := {}
def MapTable.rest : MapTable := {}
def Drift.rest : Drift := {}
def Counts.rest : Counts := {}

end Sys2Proof.Machine
end

