-- ==== Sys2Proof/Machine/Blocks/Power.lean ====
section
/-!
DEFINITION. The state of the Power Arbiter, thermal control and energy accounting
(spec 16_power_budget_thermal.md), and of modes (01_architecture.md).
-/

namespace Sys2Proof.Machine

/-- The modes (Table 1.8) and the state before step 12 of Table 3.3 (Table 16.10). -/
inductive Mode where
  | drive | depot | park | limp | robot | none
deriving DecidableEq, Repr

/-- MODE of POWER_STATUS (Table 16.10). -/
def Mode.code : Mode → Nat
  | .drive => 0 | .depot => 1 | .park => 2 | .limp => 3 | .robot => 4 | .none => 7

/-- The mode a SET_MODE byte names (Table 16.15). -/
def Mode.ofCode : Nat → Option Mode
  | 0 => some .drive | 1 => some .depot | 2 => some .park | 3 => some .limp | 4 => some .robot
  | _ => Option.none

/-- One kind of activity in an epoch: coefficient index, count, die of a die event, owning flask and context (R540). -/
structure Activity where
  event : Nat
  count : Nat
  die : Option Nat := none
  flask : Option Nat := none
  ctx : Option Nat := none
  /-- ballast is charged to the flask whose load it replaces -/
  ballast : Bool := false
deriving DecidableEq, Repr

/-- What the sensors and counters tell the Power Arbiter at an epoch start, of the epoch that has passed.
[log 100 DESIGN CHOICE] -/
structure EpochReading where
  /-- measured input energy, platform energy, draw of the Loop Processor and the Solver, in credits -/
  input : Nat := 0
  platform : Nat := 0
  loop : Nat := 0
  /-- credits spent by each die and by each flask -/
  dies : List Nat := [0, 0, 0, 0]
  flasks : List (Nat × Nat) := []
  /-- the pace each die can hold within its ceiling, in 10 M beats/s -/
  paces : List Nat := [0, 0, 0, 0]
  /-- by the energy model, what the paced steps on each die need per unstretched 50 µs: E_d of R530, in credits -/
  need : List Nat := [0, 0, 0, 0]
  /-- a free-running flask's die that ran at least 10 % below the others' mean (R529) -/
  lags : List (Nat × Nat) := []
  /-- temperatures of sensors in °C: (group as in WARN, index, reading) -/
  temps : List (Nat × Nat × Int) := []
  /-- inlet and outlet in 0.1 °C, flow in 0.01 L/min; none of a failed sensor -/
  inlet : Option Int := some 250
  outlet : Option Int := some 250
  flow : Option Nat := some 1000
  activity : List Activity := []
deriving DecidableEq, Repr

/-- Power of one compute die (Table 16.11). -/
structure DiePower where
  vcore : Nat := 0
  pace : Nat := 0
  hottest : Int := 0
  ceiling : Nat := 0
  paced : Nat := 0
  used : Nat := 0
  metered : Bool := false
  throttle : Bool := false
  /-- thermal ceiling in credits per epoch, while it limits (R538) -/
  thermalCeil : Option Nat := none
  /-- credits granted on the die in this epoch (R525) -/
  granted : Nat := 0
  stretchReq : Nat := 256
  meteredEpochs : Nat := 0
deriving DecidableEq, Repr

/-- Power of one flask (Table 16.12). -/
structure FlaskPower where
  reserved : Nat := 0
  grant : Nat := 0
  floor : Nat := 0
  ceil : Nat := 0xFFFF
  used : Nat := 0
  lagDie : Nat := 0
  lagging : Bool := false
  conflict : Bool := false
  /-- when the last CONFLICT entry of this flask was made (R520) -/
  conflictAt : Option Nat := none
  /-- energy attributed and ballast, in picojoules: the registers show µJ and mJ -/
  energy : Nat := 0
  ballast : Nat := 0
  waits : Nat := 0
  /-- consecutive epochs with the same lagging die, and without a lag (R529) -/
  lagRun : Nat := 0
  calmRun : Nat := 0
  /-- credits spent beyond the grant, taken from the next one (R522) -/
  excess : Nat := 0
deriving DecidableEq, Repr

/-- A request of SET_MODE that waits for its commits (R32). -/
structure ModeChange where
  mode : Mode
  members : List Nat
  ticket : Option Ticket
deriving DecidableEq, Repr

/-- The Power Arbiter (spec 16). [log 12 DESIGN CHOICE] -/
structure Power where
  mode : Mode := .none
  change : Option ModeChange := none
  conflict : Bool := false
  limiter : Nat := 0
  budgetW : Nat := 0
  platformW : Nat := 0
  drawW : Nat := 0
  stretchReq : Nat := 256
  modeW : Nat := 0
  swCeilW : Nat := 0xFFFF
  supplyW : Nat := 0xFFFF
  coolantW : Nat := 760
  hubThermalW : Nat := 0xFFFF
  paceCeil : Nat := 0
  /-- input energy drawn beyond earlier budgets, in credits, not yet repaid (R516) -/
  debt : Nat := 0
  /-- energy of the last 200 epochs, newest first, in credits: the last 10 ms (DRAW_W) -/
  recent : List Nat := []
  platformCr : Nat := 0
  /-- credits left after orders 1 to 5 of Table 16.3 (R525) -/
  leftCr : Nat := 0
  loopCr : Nat := 0
  dies : Tab DiePower := []
  flasks : Tab FlaskPower := []
  hbmC : Tab Int := []
  hubC : Int := 0
  lpC : Int := 0
  flashC : Int := 0
  inlet : Int := 0
  outlet : Int := 0
  flow : Nat := 0
  coolantFault : Bool := false
  sensorFault : Bool := false
  /-- WARN and THROTTLE of THERMAL_STATUS -/
  warn : BitVec 11 := 0
  throttleBits : BitVec 11 := 0
  /-- sensors marked failed: (group, index); groups as the bits of WARN (R537) -/
  failedSensors : List (Nat × Nat) := []
  /-- groups at their limit action: T3 writes stopped (bit 10) and such -/
  atLimit : BitVec 11 := 0
  /-- the last temperature of each group in °C, and the epochs it has stayed at or above its limit (R538) -/
  groupC : Tab Int := []
  limitRun : Tab Nat := []
  /-- consecutive epochs with the computed stretch below the request, and its highest then (R532) -/
  lowRun : Nat := 0
  lowMax : Nat := 256
  /-- coefficient banks (Table 16.9), active bank, switch instant of a load (R542) -/
  coeffA : List Byte := []
  coeffB : List Byte := []
  activeBank : Nat := 0
  switchAt : Option Nat := none
  modelErr : Int := 0
  platformEnergy : Nat := 0
  /-- energy attributed to contexts (R540), in picojoules like the energies of flasks and of the platform -/
  ctxEnergy : Tab Nat := []
  /-- modelled and measured energy of the running second, its epochs, and the seconds in a row that deviate by more than
  10 % (R541) -/
  modelSum : Nat := 0
  measuredSum : Nat := 0
  windowEpochs : Nat := 0
  driftRun : Nat := 0
  /-- epochs started since reset -/
  epochs : Nat := 0
  /-- epoch of the last step fired by each flask beyond its grant: metered flasks (R522) -/
  meteredFlasks : List Nat := []
deriving DecidableEq, Repr

def DiePower.rest : DiePower := {}
def FlaskPower.rest : FlaskPower := {}

end Sys2Proof.Machine
end

