-- ==== Sys2Proof/Machine/Blocks/Safety.lean ====
section
/-!
DEFINITION. Keystone's state: safe state, safety outputs, C3 flasks, result classes, error sources
(spec 17_functional_safety.md).
-/

namespace Sys2Proof.Machine

/-- REACTION of a result class (Table 17.4). -/
inductive Reaction where
  | report | count | safe
deriving DecidableEq, Repr

def Reaction.code : Reaction → Nat
  | .report => 0 | .count => 1 | .safe => 2

/-- What SET_RESULT_CLASS sets (Table 17.4). -/
structure ClassCfg where
  ageLimit : Nat := 0
  accept : BitVec 5 := 0x1F
  reaction : Reaction := .report
  critical : Bool := false
  staleCheck : Bool := false
  threshold : Nat := 1
  windowMs : Nat := 0
deriving DecidableEq, Repr

/-- One result class (Table 17.11). -/
structure RClass where
  cfg : ClassCfg := {}
  /-- changes waiting for the next 50 µs boundary, with their commands (R573) -/
  next : List (ClassCfg × Ticket) := []
  delivered : Nat := 0
  failures : Nat := 0
  lastAge : Nat := 0
  worstAge : Nat := 0
  /-- source epoch of the newest VALID result -/
  newest : Option Nat := none
  /-- a stale episode is running (R571) -/
  stale : Bool := false
  /-- leaky counter (R363, R572) -/
  leaky : Nat := 0
  /-- when a failure of this class last entered the attention log (R572) -/
  loggedAt : Option Nat := none
deriving DecidableEq, Repr

/-- MODE of C3_STATUS (Table 17.10). -/
inductive C3Mode where
  | slack | noSlack | simplex | none
deriving DecidableEq, Repr

def C3Mode.code : C3Mode → Nat
  | .slack => 0 | .noSlack => 1 | .simplex => 2 | .none => 3

/-- What the checkers of dies A and B find of a step of both halves (R563, R564): the output signatures, none of a half that
read a poisoned line or has not completed at the end of its end span; an input signature that a re-run can start from. -/
structure Duplex where
  sig0 : Option (BitVec 64) := some 0
  sig1 : Option (BitVec 64) := some 0
  inputsOk : Bool := true
deriving DecidableEq, Repr

/-- A step pair waiting for its vote (R564). -/
structure Rerun where
  job : Nat
  step : Nat
  /-- output signatures of half 0 and half 1; none of a half that read poison or has not completed -/
  sig0 : Option (BitVec 64)
  sig1 : Option (BitVec 64)
  /-- a slack core runs it -/
  running : Bool := false
deriving DecidableEq, Repr

/-- The C3 side of one flask (Table 17.10, R561 to R569). -/
structure C3 where
  dieA : Nat := 0
  dieB : Nat := 0
  dieC : Nat := 0
  mode : C3Mode := .none
  slack : Nat := 0
  slackSites : List (Nat × Nat) := []
  checkerA : Bool := false
  checkerB : Bool := false
  votes : Nat := 0
  voteFails : Nat := 0
  tests : Nat := 0
  testFails : Nat := 0
  /-- when SIMPLEX began (R569) -/
  simplexSince : Option Nat := none
  reruns : List Rerun := []
  /-- steps fired and not yet released: (job, step) (R563) -/
  held : List (Nat × Nat) := []
  /-- the surviving half's data are being copied to die C (R569) -/
  copying : Bool := false
deriving DecidableEq, Repr

/-- One entry of the safety log (R582). -/
structure SafetyEntry where
  time : Nat
  area : Nat
  detail : Nat
  flask : Nat
  cls : Nat
  state : Nat
deriving DecidableEq, Repr

/-- The first cause of the safe state (Table 17.9). -/
structure SafeCause where
  area : Nat := 0
  detail : Nat := 0
  flask : Option Nat := none
  cls : Option Nat := none
  time : Nat := 0
deriving DecidableEq, Repr

/-- One error source of Table 17.5. -/
structure ErrSource where
  threshold : Nat
  windowMs : Nat
  events : Nat := 0
  lasting : Nat := 0
  /-- leaky count per unit -/
  leaky : Tab Nat := []
deriving DecidableEq, Repr

/-- Keystone (spec 17). -/
structure Safe where
  armed : Bool := false
  outValid : Bool := false
  safeState : Bool := false
  powerCycle : Bool := false
  selfTestOk : Bool := false
  /-- Management Processor heartbeat current, Power Arbiter reporting (R553) -/
  mpAlive : Bool := false
  paEpochs : Nat := 0
  partitionOk : Bool := false
  translationOk : Bool := false
  timeBoundUs : Nat := 1000
  eoiS : Nat := 60
  diagMs : Nat := 100
  cause : SafeCause := {}
  c3 : Tab C3 := []
  classes : Tab RClass := []
  /-- error sources 0 to 4 (Table 17.5) -/
  sources : List ErrSource := []
  /-- the safety log, oldest first, at most 64 (R582) -/
  log : List SafetyEntry := []
  /-- notice channels and identifier (Table 17.13), repeats sent, notices sent -/
  noticeChannels : List Nat := []
  noticeId : Nat := 0
  noticeRepeat : Nat := 0
  /-- CAN XL notices sent: (channel, data bytes) newest last (Table 17.2) -/
  notices : List (Nat × List Nat) := []
  /-- the last boundary of 50 µs spans that has been served (R553) -/
  lastFifty : Nat := 0
  /-- Keystone's own copy of each flask's class and committed resources (R559) -/
  copy : Tab (Nat × Holdings) := []
  /-- Keystone's CRC-64 over the locked entries of each paced flask, taken at RUNNING (R560) -/
  lockedCrc : Tab (BitVec 64) := []
deriving DecidableEq, Repr

def RClass.rest : RClass := {}
def C3.rest : C3 := {}

/-- The five error sources at their defaults (Table 17.5). -/
def ErrSource.defaults : List ErrSource :=
  [{ threshold := 2, windowMs := 10000 }, { threshold := 4, windowMs := 1000 },
   { threshold := 1, windowMs := 1000 }, { threshold := 2, windowMs := 10000 },
   { threshold := 16, windowMs := 1000 }]

end Sys2Proof.Machine
end

