-- ==== Sys2Proof/Machine/Blocks/Service.lean ====
section
/-!
DEFINITION. Firmware banks, the service log, the diagnostic port and the development grade
(spec 18_service_and_update.md).
-/

namespace Sys2Proof.Machine

/-- STATE_A and STATE_B of FW_STATUS (Table 18.8). -/
inductive BankState where
  | empty | verified | failed | writing
deriving DecidableEq, Repr

def BankState.code : BankState → Nat
  | .empty => 0 | .verified => 1 | .failed => 2 | .writing => 3

/-- One firmware bank. -/
structure Bank where
  state : BankState := .empty
  version : Nat := 0
  secver : Nat := 0
deriving DecidableEq, Repr

/-- SWITCH of FW_STATUS (Table 18.8). -/
inductive Switch where
  | none | running | stopped | waiting
deriving DecidableEq, Repr

def Switch.code : Switch → Nat
  | .none => 0 | .running => 1 | .stopped => 2 | .waiting => 3

/-- A firmware image as the module finds it (R586, R93): the component it names, its versions; whole and signed by the
production key, by the development key. -/
structure FwImage where
  component : Nat
  version : Nat
  secver : Nat
  signed : Bool := true
  devSigned : Bool := false
deriving DecidableEq, Repr

/-- One firmware component (Table 18.1). [log 11 DESIGN CHOICE] -/
structure Component where
  /-- 0 bank A, 1 bank B: the bank named active -/
  active : Nat := 0
  trial : Bool := false
  switch : Switch := .none
  bankA : Bank := {}
  bankB : Bank := {}
  /-- the new bank has run through a complete series or a passed trial start (R589) -/
  proven : Bool := false
  /-- WRITE_IMAGE in progress: the commands and their images, oldest first -/
  writing : List (Ticket × FwImage) := []
  /-- flasks that have selected the new bank in the running series (R587) -/
  selected : List Nat := []
deriving DecidableEq, Repr

/-- One entry of the service log (Table 18.4). -/
structure ServiceEntry where
  time : Nat
  kind : Nat
  area : Nat := 0
  detail : Nat := 0
  who : Nat := 0
  unit : Nat := 0
  info : Nat := 0
deriving DecidableEq, Repr

/-- Answer of the diagnostic port: service, status, sequence number, words or entries (Table 18.5). -/
structure DiagReply where
  service : Nat
  status : Nat
  seq : Nat
  data : List Nat
deriving DecidableEq, Repr

/-- A RETIRE_DIE in progress (R594). -/
structure Retiring where
  die : Nat
  flasks : List Nat
  ticket : Ticket
deriving DecidableEq, Repr

/-- A RETIRE_SITE in progress (R595). -/
structure RetiringSite where
  die : Nat
  site : Nat
  flask : Nat
  ticket : Ticket
deriving DecidableEq, Repr

/-- Service, update and diagnostics (spec 18). [log 11 DESIGN CHOICE, 12 DESIGN CHOICE] -/
structure Service where
  comps : Tab Component := []
  /-- the service log, oldest first, at most 4,096 (R599) -/
  log : List ServiceEntry := []
  logWritten : Nat := 0
  diagEn : Bool := false
  diagWrite : Bool := false
  diagPort : Nat := 0
  diagAddr : List Byte := []
  diagPeer : List Byte := []
  diagFrames : Nat := 0
  diagRefused : Nat := 0
  diagReplies : List DiagReply := []
  traceOn : Bool := false
  traceStream : Bool := false
  traceDrops : Nat := 0
  /-- entries of the development trace ring, newest last: result headers, issues, completions (R602) -/
  trace : List (Nat × Nat × Nat) := []
  /-- injections armed for their next event: (kind, flask, class) (Table 18.7) -/
  injected : List (Nat × Nat × Nat) := []
  retiring : List Retiring := []
  retiringSites : List RetiringSite := []
  /-- CALIBRATE_ENERGY in progress: its command and host address -/
  suite : Option (Ticket × Nat) := none
deriving DecidableEq, Repr

def Component.rest : Component := { bankA := { state := .verified, version := 0x10000, secver := 0 } }

end Sys2Proof.Machine
end

