-- ==== Sys2Proof/Machine/Blocks/Time.lean ====
section
/-!
DEFINITION. The state of the timebase, its sources, triggers and the Ethernet links
(spec 11_time_and_triggers.md, R624).
-/

namespace Sys2Proof.Machine

/-- STATE of TB_STATUS (Table 11.5). -/
inductive TbState where
  | seeded | locked | slewing | holdover
deriving DecidableEq, Repr

def TbState.code : TbState → Nat
  | .seeded => 0 | .locked => 1 | .slewing => 2 | .holdover => 3

/-- One time source (Table 11.1): what SET_SOURCE sets, what Table 11.5 shows, what its messages have told. -/
structure TimeSource where
  priority : Nat := 8
  enable : Bool := false
  qualified : Bool := false
  eligible : Bool := false
  todBad : Nat := 0
  losses : Nat := 0
  /-- gPTP: port in the master role, domain, code of the log Sync interval -/
  master : Bool := false
  domain : Nat := 0
  logSync : Nat := 0
  /-- PPS: labels from CAN XL, its channel and identifier -/
  labelCan : Bool := false
  canChannel : Nat := 0
  canId : Nat := 0
  traceable : Bool := false
  /-- when it qualified without a break -/
  since : Nat := 0
  /-- its time less the timebase, its stated error, its UTC offset and leap announcement -/
  offset : Int := 0
  err : Nat := 0
  utc : Option Nat := none
  leap : Nat := 0
  /-- offsets of the last Syncs, newest first, at most 8; the link delay is measured -/
  recent : List Int := []
  delayOk : Bool := false
deriving DecidableEq, Repr

/-- A label of a PPS_IN edge (R383): when it arrived, the TAI time it gives, whether it is traceable. -/
structure PpsLabel where
  arrived : Nat
  tai : Nat
  traceable : Bool
deriving DecidableEq, Repr

/-- A gPTP event message as a slave port measures it (R382): the link delay is measured; or a Sync with its Follow_Up:
domain, offset of the source's time from the timebase, and what the grandmaster announces. -/
inductive Gptp where
  | delay
  | sync (domain : Nat) (offset : Int) (clockClass : Nat) (timeTraceable : Bool) (utc : Option Nat) (leap err : Nat)
deriving DecidableEq, Repr

/-- A trigger setting (R391). -/
structure TrigSet where
  mode : Nat := 0
  low : Bool := false
  num : Nat := 0
  den : Nat := 1
  phase : Nat := 0
  widthUs : Nat := 0
  shotAt : Nat := 0
deriving DecidableEq, Repr

/-- One TRIG line: its setting, a staged one with its block start, pulses fired, the instant of the last. -/
structure Trig where
  set : TrigSet := {}
  staged : Option (TrigSet × Nat) := none
  fired : Nat := 0
  lastAt : Nat := 0
deriving DecidableEq, Repr

/-- One Ethernet port's link (R624); the gate control list (R459): entries of (mask, interval). -/
structure EthPort where
  enable : Bool := false
  master : Bool := false
  rate : Nat := 0
  up : Bool := false
  ticket : Option Ticket := none
  gates : List (Nat × Nat) := []
  /-- a staged list, the take-up of its command, and the command -/
  stagedGates : Option (List (Nat × Nat) × Nat × Ticket) := none
deriving DecidableEq, Repr

/-- The timebase block (spec 11). [log 13 DESIGN CHOICE] -/
structure TimeBlock where
  state : TbState := .seeded
  stepped : Bool := false
  source : Nat := 15
  rtcHeld : Bool := false
  /-- phase offset still to be removed -/
  offset : Int := 0
  /-- error bound of the seed and when it was taken; the same in holdover (R395) -/
  seedErr : Nat := 0xFFFFFFFF
  since : Nat := 0
  utcOffset : Nat := 37
  fromGptp : Bool := false
  /-- an announced leap second: 1 positive, 2 negative, at the end of a UTC day (year, month, day) -/
  leap : Nat := 0
  leapDay : Nat × Nat × Nat := (0, 0, 0)
  /-- a traceable source has been selected since the start (R382) -/
  wasTraceable : Bool := false
  sources : Tab TimeSource := []
  label : Option PpsLabel := none
  lastEdge : Option Nat := none
  trigs : Tab Trig := []
  ports : Tab EthPort := []
  /-- Keystone: the last timebase value it received, when it last adjusted its shadow count and its bound then, the
  latest output time that it checked (R376) -/
  received : Nat := 0
  shadowErr : Nat := 0xFFFFFFFF
  lastOutput : Nat := 0
  /-- a cold start has happened since the last seed; the real-time clock's reading then, if it held (R376) -/
  cold : Bool := true
  rtc : Option Nat := none
  /-- the real-time clock's bound when it was last set, and when -/
  rtcErr : Nat := 0
  rtcSetAt : Nat := 0
  /-- UTC offset of SET_UTC_OFFSET, used where no gPTP source gives one (R390) -/
  hostUtc : Nat := 37
deriving DecidableEq, Repr

def TimeSource.rest : TimeSource := {}
def Trig.rest : Trig := {}
def EthPort.rest : EthPort := {}

end Sys2Proof.Machine
end

