-- ==== Sys2Proof/Machine/Blocks/Ingest.lean ====
section
/-!
DEFINITION. The state of the Ingest and Codec Engines: stream records, frames in arrival, tundishes, sessions
(spec 12_ingest_and_video.md).
-/

namespace Sys2Proof.Machine

/-- A camera stream record (Table 12.17); FP32 fields are codes. -/
structure CamRec where
  decoded : Bool := false
  dtype : Nat := 0
  cfa : Nat := 0
  trig : Nat := 0xFF
  width : Nat := 16
  height : Nat := 1
  lagMin : Nat := 0
  lagMax : Nat := 0
  offsetNs : Int := 0
  black : List Nat := [0, 0, 0, 0]
  gain : List Nat := [0, 0, 0, 0]
  m : List Nat := [0, 0, 0, 0, 0, 0, 0, 0, 0]
  off : List Nat := [0, 0, 0]
  mean : List Nat := [0, 0, 0]
  scale : List Nat := [0, 0, 0]
  fill : List Nat := [0, 0, 0]
  outFmt : Nat := 0
  cvt : Nat := 0
  scaleMode : Nat := 0
  fixedExp : Int := 0
  b : Nat := 1
  outC : Nat := 3
  concealMax : Nat := 16
  regionOff : Nat := 0
  regionBytes : Nat := 0
deriving DecidableEq, Repr

/-- A field locator (R411): byte offset, width in bytes, big-endian. -/
structure Locator where
  at_ : Nat
  bytes : Nat
  big : Bool := false
deriving DecidableEq, Repr

/-- A point field: its locator, scale and offset (FP32 codes). -/
structure PointField where
  loc : Locator
  scale : Nat := 0x3F800000
  offset : Nat := 0
deriving DecidableEq, Repr

/-- End of a sweep (Table 12.5). -/
inductive SweepEnd where
  | flag (at_ : Locator)
  | wrap (startAz : Nat)
  | packets (n : Nat)
deriving DecidableEq, Repr

/-- A point stream record with its packet template (Table 12.5). Its byte layout is the tools' own. [log 75 DEDUCED] -/
structure PointRec where
  port : Nat := 0
  udp : Nat := 0
  source : List Byte := []
  trig : Nat := 0xFF
  lagMin : Nat := 0
  lagMax : Nat := 0
  offsetNs : Int := 0
  head : Nat := 0
  pointBytes : Nat := 4
  /-- the point count: a locator, or a fixed count -/
  count : Locator ⊕ Nat := .inr 1
  seq : Locator := ⟨0, 2, false⟩
  sweep : SweepEnd := .packets 1
  /-- TIME_MODE PACKET: where the TAI time lies -/
  time : Option Locator := none
  range : PointField := ⟨⟨0, 4, false⟩, 0x3F800000, 0⟩
  azimuth : PointField := ⟨⟨0, 4, false⟩, 0x3F800000, 0⟩
  elevation : Option PointField := none
  channel : Option PointField := none
  intensity : Option PointField := none
  tOff : Option PointField := none
  /-- channel table: (elevation, azimuth correction) as FP32 codes -/
  channels : List (Nat × Nat) := []
  meter : Nat := 0
  maxPoints : Nat := 1
  regionOff : Nat := 0
  regionBytes : Nat := 0
deriving DecidableEq, Repr

/-- A stream record. -/
inductive StreamRec where
  | cam (r : CamRec)
  | point (r : PointRec)
deriving DecidableEq, Repr

/-- A remap table (Table 12.4): grid points as FP32 code pairs. -/
structure Remap where
  outW : Nat
  outH : Nat
  srcW : Nat
  srcH : Nat
  g : Nat
  clamp : Bool
  points : List (Nat × Nat)
deriving DecidableEq, Repr

/-- The sample that a stream is receiving: its trigger time, the reference instant of its batch, the lines so far by pixel
and channel (a damaged line is `none`), the slices written; or the points of a sweep. -/
structure Sample where
  time : Nat
  ref : Nat
  /-- discarded: nothing more of it is written -/
  dropped : Bool := false
  concealed : Bool := false
  lines : List (Option (List (List Nat))) := []
  slices : Nat := 0
  points : Nat := 0
  excess : Nat := 0
  packets : Nat := 0
  /-- the azimuth of the point read last, FP32 -/
  lastAz : Option Nat := none
deriving DecidableEq, Repr

/-- A line as the CSI-2 receiver hands it on: its pixels by channel (RAW one number, YUV422 Y, Cb, Cr, RGB888 R, G, B), or the
cause of its damage in Table 12.11. -/
inductive LineIn where
  | good (px : List (List Nat))
  | damaged (cause : Nat)
deriving DecidableEq, Repr

/-- A decoded picture: trigger time, luma and interleaved Cb and Cr samples of 16 bits, and whether it is concealed. -/
structure Picture where
  time : Nat := 0
  luma : List Nat := []
  chroma : List Nat := []
  concealed : Bool := false
deriving DecidableEq, Repr

/-- What the bitstream of an access unit yields (the codec standards give the decoding): samples of the picture, its place among
the pictures held for reordering, how many pictures come out, the damaged CTU or superblock rows with their height in luma
lines, a missing reference, a picture without an entry point. [log 78 DESIGN CHOICE] -/
structure AuResult where
  luma : List Nat := []
  chroma : List Nat := []
  place : Nat := 0
  out : Nat := 1
  rowLines : Nat := 64
  badRows : List (Nat × Nat) := []
  noReference : Bool := false
  noEntry : Bool := false
deriving DecidableEq, Repr

/-- One ingest stream (Table 12.14). -/
structure InStream where
  enabled : Bool := false
  required : Bool := false
  tundish : Nat := 0
  member : Nat := 0
  /-- it belongs to its tundish -/
  joined : Bool := false
  rec_ : Option StreamRec := none
  nextRec : Option StreamRec := none
  remap : Option Remap := none
  stagedRemap : Option Remap := none
  sample : Option Sample := none
  /-- SEQ of the packet read last (Table 12.5) -/
  lastSeq : Option Nat := none
  samples : Nat := 0
  damaged : Nat := 0
  absent : Nat := 0
  sat : Nat := 0
  uf : Nat := 0
  nan : Nat := 0
  phyErr : Nat := 0
deriving DecidableEq, Repr

inductive SlotState where
  | free | filling | ready | held
deriving DecidableEq, Repr

/-- One slot of a tundish (Table 12.6, Table 12.8). -/
structure Slot where
  state : SlotState := .free
  batch : Nat := 0
  t : Nat := 0
  /-- the members that the batch waits for: member, stream, REQUIRED -/
  members : List (Nat × Nat × Bool) := []
  /-- members complete, concealed or filled, absent REQUIRED -/
  present : List Nat := []
  concealedM : List Nat := []
  missingM : List Nat := []
  missing : Bool := false
  concealed : Bool := false
  complete : Bool := false
  closed : Bool := false
  early : Bool := false
  /-- trigger times of the members present: (member, time) -/
  times : List (Nat × Nat) := []
  damage : Nat := 0
  /-- slices and sweeps counted on the progress object -/
  progress : Nat := 0
  pages : List Nat := []
deriving DecidableEq, Repr

/-- One tundish (Table 12.15). -/
structure Tundish where
  used : Bool := false
  owner : Nat := 0
  flask : Nat := 0
  tier : Nat := 1
  windowVa : Nat := 0
  slotBytes : Nat := 0
  closeUs : Nat := 0
  warnUs : Nat := 0
  refLine : Nat := 0
  lowWater : Nat := 0
  dropNewest : Bool := false
  progress : Nat := 0xFFFF
  ringVa : Nat := 0
  ringAt : Nat := 0
  ringFull : Bool := false
  overflow : Bool := false
  lowCause : BitVec 3 := 0
  lastTaken : Nat := 0
  overrun : Nat := 0
  skipped : Nat := 0
  missing : Nat := 0
  concealed : Nat := 0
  slots : List Slot := []
  batches : Nat := 0
  /-- the latest T of a batch that has left its slot -/
  doneT : Option Nat := none
  /-- a free-running TAKE_BATCH that waits has raised its alarm -/
  waiting : Bool := false
  /-- attributes and epoch of the batch last taken -/
  out : OutState := {}
  destroyer : Option Ticket := none
deriving DecidableEq, Repr

/-- One codec session (R422 to R425). -/
structure Session where
  used : Bool := false
  owner : Nat := 0
  flask : Nat := 0
  codec : Nat := 0
  grainOff : Bool := false
  width : Nat := 0
  height : Nat := 0
  fps : Nat := 0
  /-- decode: the stream fed, 0xFF none; encode: the stream tapped -/
  stream : Nat := 0xFF
  downscale : Nat := 1
  rateControl : Nat := 0
  /-- declared luma rate, samples per second (R422) -/
  lumaRate : Nat := 0
  qp : Nat := 0
  irap : Nat := 1
  kbps : Nat := 0
  ringVa : Nat := 0
  ringBytes : Nat := 0
  ringAt : Nat := 0
  counter : Nat := 0xFFFF
  tap : List Nat := []
  pictures : Nat := 0
  concealed : Nat := 0
  damage : Nat := 0
  drops : Nat := 0
  /-- pictures held for reordering, in output order; the picture output last -/
  held : List Picture := []
  last : Option Picture := none
  /-- the tapped picture that waits for the encoder -/
  input : Option Picture := none
  skipping : Bool := false
  /-- the ring was full: drops until the next IRAP picture -/
  gap : Bool := false
  closer : Option Ticket := none
deriving DecidableEq, Repr

/-- The ingest block (spec 12). -/
structure Ingest where
  streams : Tab InStream := []
  tundishes : Tab Tundish := []
  decodes : Tab Session := []
  encodes : Tab Session := []
  encDrops : Nat := 0
deriving DecidableEq, Repr

def InStream.rest : InStream := {}
def Tundish.rest : Tundish := {}
def Session.rest : Session := {}

end Sys2Proof.Machine
end

