-- ==== Sys2Proof/Machine/Blocks/Spatial.lean ====
section
/-!
DEFINITION. The state of the Spatial Engine: poses, calibration, projections, track sets, lattices
(spec 13_fusion_tracking_planning.md). FP32 and FP64 values are codes.
-/

namespace Sys2Proof.Machine

/-- A pose record (Table 13.1). -/
structure Pose where
  time : Nat := 0
  /-- FP64 -/
  x : Nat := 0
  y : Nat := 0
  z : Nat := 0
  /-- FP32 -/
  yaw : Nat := 0
  pitch : Nat := 0
  roll : Nat := 0
  vx : Nat := 0
  vy : Nat := 0
  yawRate : Nat := 0
  sigma : Nat := 0
deriving DecidableEq, Repr

/-- A projection description (Table 13.3). [log 82 DESIGN CHOICE] -/
structure ProjDesc where
  w : Nat := 1
  h : Nat := 1
  cell : Nat := 0
  x0 : Nat := 0
  y0 : Nat := 0
  zs : List Nat := []
  sensors : List Nat := []
  fw : Nat := 2
  fh : Nat := 2
  stride : Nat := 1
deriving DecidableEq, Repr

/-- A projection index table: its description, its copies for sets A and B (feature index, FXQ, FYQ), the pages of its
T1 quota. -/
structure Projection where
  used : Bool := false
  flask : Nat := 0
  owner : Nat := 0
  desc : ProjDesc := {}
  copyA : Option (List (Nat × Nat × Nat)) := none
  copyB : Option (List (Nat × Nat × Nat)) := none
  pages : List Nat := []
deriving DecidableEq, Repr

/-- Track parameters (Table 13.5). [log 82 DESIGN CHOICE] -/
structure TrackParams where
  gate : Nat := 0x3F800000
  birthScore : Nat := 0
  alpha : Nat := 0
  mConfirm : Nat := 1
  nConfirm : Nat := 1
  missTentative : Nat := 1
  missConfirmed : Nat := 1
  covMax : Nat := 0x3F800000
  regionM : Nat := 0x41200000
  p0 : List Nat := []
  qPos : List Nat := []
  qYaw : List Nat := []
deriving DecidableEq, Repr

/-- The record of COSTMAP_BUILD (Table 13.8) with its INFL table. [log 82 DESIGN CHOICE] -/
structure CostRec where
  w : Nat := 1
  h : Nat := 1
  layers : Nat := 1
  nt : Nat := 1
  inflate : Nat := 0
  occLethal : Nat := 255
  weights : List Nat := []
  lethalMask : Nat := 0
  wOcc : Nat := 0
  infl : List Nat := []
deriving DecidableEq, Repr

/-- The record of OCTREE_BUILD. [log 82 DESIGN CHOICE] -/
structure OctRec where
  octM : Nat := 0x3DCCCCCD
  z0 : Nat := 0
  nodes : Nat := 1024
  minPoints : Nat := 1
deriving DecidableEq, Repr

/-- The record of PLAN (Table 13.10) with what it repeats of the cost cube and the octree: the cube's reference instant T and
the vehicle-frame position of its outer corner; `stopAt`: the expansions made when DEADLINE is reached.
[log 82 DESIGN CHOICE] -/
structure PlanRec where
  lattice : Nat := 0
  passes : Nat := 1
  eps : List Nat := []
  hweight : Nat := 0
  budget : Nat := 1
  stopAt : Option Nat := none
  goal : Int × Int × Int × Int := (0, 0, 0, 0)
  goalH : Nat := 0
  w : Nat := 1
  h : Nat := 1
  nt : Nat := 1
  dtUs : Nat := 1000
  t : Nat := 0
  x0 : Nat := 0
  y0 : Nat := 0
  oct : OctRec := {}
deriving DecidableEq, Repr

/-- One track: x, y, vx, vy, ax, ay, yaw, yaw rate; the covariance by rows. -/
structure Track where
  id : Nat
  state : List Nat
  p : List (List Nat)
  z : Nat
  l : Nat
  w : Nat
  h : Nat
  cls : Nat
  score : Nat
  confirmed : Bool := false
  /-- hit or miss of its updates, newest first, at most 8 -/
  history : List Bool := []
  updates : Nat := 0
  misses : Nat := 0
  coasting : Bool := false
  lastHit : Nat := 0
deriving DecidableEq, Repr

/-- A track set (Table 13.15): tracks by slot. -/
structure TrackSet where
  capacity : Nat := 0
  flask : Nat := 0
  owner : Nat := 0
  params : TrackParams := {}
  staged : List (TrackParams × Ticket) := []
  tracks : Tab Track := []
  nextId : Nat := 1
  /-- ORIGIN in units of 1,024 m -/
  origin : Int × Int := (0, 0)
  lastTime : Option Nat := none
  births : Nat := 0
  birthDrops : Nat := 0
  deletions : Nat := 0
  oos : Nat := 0
  badDetections : Nat := 0
deriving DecidableEq, Repr

/-- A lattice image (Table 13.9) as its bytes; both copies. -/
structure Lattice where
  used : Bool := false
  flask : Nat := 0
  owner : Nat := 0
  active : List Byte := []
  inactive : List Byte := []
  pending : Option Ticket := none
  pages : List Nat := []
deriving DecidableEq, Repr

/-- PLAN_COUNT of a flask (Table 13.15); expansions are kept exact. -/
structure PlanCount where
  plans : Nat := 0
  anytime : Nat := 0
  noPath : Nat := 0
  expansions : Nat := 0
deriving DecidableEq, Repr

/-- The Spatial Engine (spec 13). -/
structure Spatial where
  /-- the pose history, newest first, at most 1,024 -/
  poses : List Pose := []
  extrapMaxUs : Nat := 20000
  /-- calibration records of 128 bytes by set × 64 + slot -/
  records : Tab (List Byte) := []
  builtA : Bool := false
  builtB : Bool := false
  /-- LOAD_CALIBRATION in progress: its command, the set, the tables to rebuild -/
  building : Option (Ticket × Nat × List Nat) := none
  /-- bit f: flask f selects set B; the same as staged by SWITCH_CALIBRATION -/
  select : BitVec 16 := 0
  stagedSelect : List (Nat × Bool) := []
  projections : Tab Projection := []
  trackSets : Tab TrackSet := []
  lattices : Tab Lattice := []
  planCounts : Tab PlanCount := []
  poseOos : Nat := 0
  alignFail : Nat := 0
  octCoarse : Nat := 0
  outOfExtent : Nat := 0
deriving DecidableEq, Repr

def Projection.rest : Projection := {}
def TrackSet.rest : TrackSet := {}
def Lattice.rest : Lattice := {}
def PlanCount.rest : PlanCount := {}

end Sys2Proof.Machine
end

