-- ==== Sys2Proof/Machine/Blocks/Control.lean ====
section
/-!
DEFINITION. The state of the Control Engine: signal slots, maps, loop channels, tables, traces, trajectories, resident
problems (spec 14_control_and_solver.md). FP64 values are codes.
-/

namespace Sys2Proof.Machine

/-- A signal slot (R456). -/
structure Signal where
  value : Nat := 0
  time : Nat := 0
  valid : Bool := false
deriving DecidableEq, Repr

/-- A field of a map: payload offset, type, slot, FP32 scale and offset. -/
structure MapField where
  at_ : Nat
  kind : Nat
  slot : Nat
  scale : Nat
  offset : Nat
deriving DecidableEq, Repr

/-- A map entry (Table 14.1), receive or transmit. -/
structure FrameMap where
  medium : Nat
  port : Nat
  vlan : Nat
  id : Nat
  mac : Nat
  statusAt : Nat := 0xFF
  loop : Nat := 0
  length : Nat := 1
  fields : List MapField
deriving DecidableEq, Repr

/-- A transmit frame queued at its medium and port: map, payload. -/
structure TxFrame where
  map : Nat
  payload : List Byte
deriving DecidableEq, Repr

inductive LoopState where
  | off | manual | auto | opened | tripped | faulted
deriving DecidableEq, Repr

def LoopState.code : LoopState → Nat
  | .off => 0 | .manual => 1 | .auto => 2 | .opened => 3 | .tripped => 4 | .faulted => 5

/-- A section record (Table 14.3) with its states: s1 and s2 of a biquad, I of a PI section in `s1`. -/
structure Section where
  kind : Nat
  clamp : Bool
  c : List Nat
  yMin : Nat
  yMax : Nat
  s1 : Nat := 0
  s2 : Nat := 0
deriving DecidableEq, Repr

/-- A loop record (Table 14.2). -/
structure LoopRec where
  flask : Nat := 0
  sections : Nat := 1
  spKind : Nat := 0
  errNeg : Bool := false
  manualTrack : Bool := false
  bumpless : Bool := false
  tripOutUsed : Bool := false
  periodNs : Nat := 100000000
  delayNs : Nat := 5000
  spIndex : Nat := 0
  fbSlot : Nat := 0
  fbMaxAge : Nat := 1000
  staleTrip : Nat := 1
  cls : Nat := 0
  outSlot : Nat := 0xFFFF
  ffA : Nat := 0xFFFF
  ffB : Nat := 0xFFFF
  posSlot : Nat := 0
  velSlot : Nat := 0
  deadband : Nat := 0
  uMin : Nat := 0
  uMax : Nat := 0
  slew : Nat := 0
  tripOut : Nat := 0
  manualInit : Nat := 0
deriving DecidableEq, Repr

/-- What a set-point or an output carries: value, epoch, attributes. -/
structure SetPoint where
  value : Nat := 0
  epoch : Nat := 0
  attrs : Attrs := {}
deriving DecidableEq, Repr

/-- A change of state that waits for a sample instant. -/
inductive LoopPending where
  | auto (t : Ticket) (since : Nat)
  | manual (t : Ticket)
  | opening (t : Ticket)
deriving DecidableEq, Repr

/-- One loop channel (Table 14.9). -/
structure LoopCh where
  state : LoopState := .off
  record : LoopRec := {}
  cascade : List Section := []
  staged : Option (List Section × Nat × Ticket) := none
  pending : Option LoopPending := none
  u : Nat := 0
  manual : Nat := 0
  /-- the last VALID set-point, the set-point of the last sample and whether the output is VALID -/
  sp : SetPoint := {}
  outValid : Bool := false
  staleRun : Nat := 0
  lastSample : Nat := 0
  /-- the sample whose output instant is to come, and its generation -/
  due : Option (Nat × Nat) := none
  /-- values of the last sample for the traces: r, y, x, u, feedforward, section outputs -/
  values : List Nat := []
  samples : Nat := 0
  stale : Nat := 0
  clamped : Nat := 0
  bumps : Nat := 0
  lateTx : Nat := 0
deriving DecidableEq, Repr

/-- A copy of a friction or cogging table (R468). -/
structure FfCopy where
  friction : Bool := false
  wrap : Bool := false
  pos0 : Nat := 0
  pitch : Nat := 0
  points : List Nat := []
deriving DecidableEq, Repr

/-- A friction or cogging table: active and inactive copy, pending switch instant. -/
structure FfTable where
  used : Bool := false
  flask : Nat := 0
  active : FfCopy := {}
  inactive : FfCopy := {}
  switchAt : Option Nat := none
deriving DecidableEq, Repr

/-- A trace channel (R472). -/
structure TraceCh where
  state : Nat := 0
  loop : Nat := 0
  what : Nat := 0
  slot : Nat := 0
  decim : Nat := 1
  trigger : Nat := 0
  pre : Nat := 0
  level : Nat := 0
  owner : Nat := 0
  flask : Nat := 0
  /-- samples recorded, oldest first, at most 65,536 FP32 codes; instants seen; time of the newest sample -/
  ring : List Nat := []
  seen : Nat := 0
  lastTime : Nat := 0
  last : Option Nat := none
  trigTime : Nat := 0
  trigIndex : Nat := 0
  left : Nat := 0
deriving DecidableEq, Repr

/-- A trajectory slot (R464): header, FP32 points by rows, what its result carries; one that waits for its boundary. -/
structure Traj where
  flask : Nat := 0
  valid : Bool := false
  t0 : Nat := 0
  dt : Nat := 0
  columns : Nat := 1
  points : List Nat := []
  epoch : Nat := 0
  attrs : Attrs := {}
deriving DecidableEq, Repr

/-- A sparse matrix by columns: (row index, position in the value array). -/
abbrev Pattern := List (List Nat)

/-- A problem description (Table 14.6); FP64 codes. [log 92 DESIGN CHOICE] -/
structure QpDesc where
  n : Nat := 1
  m : Nat := 1
  /-- row indices by column: upper triangle of P, and A -/
  pPat : Pattern := []
  aPat : Pattern := []
  order : List Nat := []
  sigma : Nat := 0
  rho : Nat := 0
  alpha : Nat := 0
  iters : Nat := 1
  epsPri : Nat := 0
  epsDua : Nat := 0
  shift : Bool := false
  shiftMax : Nat := 0
  warm : Nat := 0
  stages : Nat := 0
  stageVars : Nat := 0
  p : List Nat := []
  a : List Nat := []
  q : List Nat := []
  l : List Nat := []
  u : List Nat := []
deriving DecidableEq, Repr

/-- A resident problem (Table 14.11). -/
structure Qp where
  created : Bool := false
  flask : Nat := 0
  owner : Nat := 0
  desc : QpDesc := {}
  nnzL : Nat := 0
  iterMacs : Nat := 0
  factorMacs : Nat := 0
  factorDue : Bool := true
  /-- L by rows in elimination order: (column, value), columns rising, the diagonal last -/
  factor : List (List (Nat × Nat)) := []
  inputMissing : Bool := false
  input : OutState := {}
  prev : Option (List Nat × List Nat × List Nat) := none
  prevOut : OutState := {}
  /-- the next starting point is cold (R476) -/
  coldNext : Bool := false
  shifts : Nat := 0
  lastStatus : Nat := 0
  solves : Nat := 0
  failures : Nat := 0
  shifted : Nat := 0
  /-- CREATE_QP in progress -/
  ticket : Option Ticket := none
deriving DecidableEq, Repr

/-- The Control Engine (spec 14). -/
structure Control where
  signals : Tab Signal := []
  rxMaps : Tab FrameMap := []
  txMaps : Tab FrameMap := []
  queued : List TxFrame := []
  /-- frames sent: (map, payload), newest last -/
  sent : List (Nat × List Byte) := []
  loops : Tab LoopCh := []
  latched : Bool := false
  /-- SOURCES of TRIP_STATUS -/
  tripSources : BitVec 4 := 0
  trips : Nat := 0
  tables : Tab FfTable := []
  traces : Tab TraceCh := []
  trajs : Tab Traj := []
  /-- a paced PUBLISH_TRAJ that waits for its boundary: (flask, slot, trajectory) -/
  trajWaits : List (Nat × Nat × Traj) := []
  qps : Tab Qp := []
deriving DecidableEq, Repr

def Signal.rest : Signal := {}
def LoopCh.rest : LoopCh := {}
def FfTable.rest : FfTable := {}
def TraceCh.rest : TraceCh := {}
def Traj.rest : Traj := {}
def Qp.rest : Qp := {}

end Sys2Proof.Machine
end

