-- ==== Sys2Proof/Machine/Blocks/Truss.lean ====
section
/-!
DEFINITION. The state of AetheoLink ports, module trusses, pace stretching and lock-step comparison
(spec 15_determinism_pacing.md).
-/

namespace Sys2Proof.Machine

/-- States of another member (Table 15.5). -/
inductive MemberState where
  | absent | hello | refused | member | paired
deriving DecidableEq, Repr

def MemberState.code : MemberState → Nat
  | .absent => 0 | .hello => 1 | .refused => 2 | .member => 3 | .paired => 4

/-- One AetheoLink port (Table 15.11). -/
structure AePort where
  up : Bool := false
  lanes : Nat := 0
  peer : Nat := 0
  retrains : Nat := 0
  retraining : Bool := false
deriving DecidableEq, Repr

/-- A flask's part of a configuration digest (Table 15.6). -/
structure DigestFlask where
  flask : Nat
  cls : Nat
  spanUs : Nat
  period : Nat
  phase : Nat
  /-- hash of the calibration set selected -/
  cal : Nat
  image : Nat
deriving DecidableEq, Repr

/-- A configuration digest (Table 15.6). -/
structure ConfigDigest where
  moduleId : Nat := 0
  ksVersion : Nat := 0
  mpVersion : Nat := 0
  paVersion : Nat := 0
  listed : Nat := 0
  calA : Nat := 0
  calB : Nat := 0
  tbState : Nat := 0
  traceable : Bool := false
  member : Nat := 0
  stretch : Nat := 256
  tbErr : Nat := 0
  trussId : Nat := 0
  mask : Nat := 0
  flasks : List DigestFlask := []
deriving DecidableEq, Repr

/-- One other member as this module sees it (Table 15.11). -/
structure Member where
  state : MemberState := .absent
  reason : Nat := 0
  hops : Nat := 0
  viaPort : Nat := 0
  timeOffset : Int := 0
  listed : Nat := 0
  moduleId : Nat := 0
  trussId : Nat := 0
  digest : Option ConfigDigest := none
  /-- stretch request, consecutive time messages more than 1 µs apart, time quality: rank class and error -/
  request : Nat := 256
  apart : Nat := 0
  good : Bool := false
  err : Nat := 0
deriving DecidableEq, Repr

/-- The DIVERGENCE record (Table 15.12). -/
structure Divergence where
  span : Nat := 0
  boundary : Nat := 0
  flask : Nat := 0
  engines : Nat := 0
  held : Bool := false
  own : Nat := 0
  peer : Nat := 0
deriving DecidableEq, Repr

/-- One aperture (R510). -/
structure Aperture where
  opened : Bool := false
  ctx : Nat := 0
  members : BitVec 4 := 0
  counter : Nat := 0
  va : Nat := 0
  bytes : Nat := 0
deriving DecidableEq, Repr

/-- A change of the stretch factor that waits for a flask's stretch boundary (R488). -/
structure StretchWait where
  flask : Nat
  factor : Nat
  since : Nat
deriving DecidableEq, Repr

/-- The signatures of a compared flask's boundary: flask, span number, boundary time, (engine, signature). -/
structure SpanSigs where
  flask : Nat
  span : Nat
  boundary : Nat
  sigs : List (Nat × Nat)
deriving DecidableEq, Repr

/-- How a truss copy ends at the other member (R511). [log 99 DESIGN CHOICE] -/
inductive CopyEnd where
  | written | refused | lost
deriving DecidableEq, Repr

/-- Trusses (spec 15). [log 99 DESIGN CHOICE] -/
structure Truss where
  id : Nat := 0
  me : Nat := 0
  portEn : BitVec 2 := 0
  noticeCh : Nat := 0
  noticeId : Nat := 0
  ports : Tab AePort := []
  members : Tab Member := []
  partner : Option Nat := none
  following : Option Nat := none
  followSince : Nat := 0
  /-- sources that had qualified when the follow began -/
  followLost : List Nat := []
  stretchLate : Bool := false
  stretch : Nat := 256
  stretchChanges : Nat := 0
  stretchWaits : List StretchWait := []
  /-- per flask: the factor its spans have, where it is not 256 -/
  flaskStretch : Tab Nat := []
  /-- PAIR_MODULES that waits for the partner: partner, mask, since; agreed flag -/
  pairing : Option (Ticket × Nat × Nat × Nat) := none
  agreed : Bool := false
  pairMask : Nat := 0
  agreedAt : Nat := 0
  pairTicket : Option Ticket := none
  compared : BitVec 16 := 0
  /-- span numbers of compared flasks; own signatures that wait for the partner's -/
  spanNums : Tab Nat := []
  own : List SpanSigs := []
  /-- the partner's signatures that came before this member's own -/
  early : List SpanSigs := []
  spans : Nat := 0
  drops : Nat := 0
  divergence : Divergence := {}
  apertures : Tab Aperture := []
  /-- messages sent: kind (1 hello, 2 leave, 3 digest, 4 stretch notice, 5 signatures), bytes or words, newest last -/
  sent : List (Nat × List Nat) := []
  /-- truss notices sent (Table 15.8): (channel, data), newest last -/
  notices : List (Nat × List Nat) := []
deriving DecidableEq, Repr

def AePort.rest : AePort := {}
def Member.rest : Member := {}
def Aperture.rest : Aperture := {}

end Sys2Proof.Machine
end

