-- ==== Sys2Proof/Syntax.lean ====
section
/-!
DEFINITION. The commands the block takes: command packets, register and sideband accesses, events on pins,
links, clocks, dies, engines and memories. One constructor per row of the opcode table.
-/

namespace Sys2Proof

open Sys2Proof.Machine

/-- A command packet as the module reads it from the submission ring of context `ring` (Table 4.3).
The opcode is the constructor's; `params` are packet bytes 12 to 63. [log 5 DESIGN CHOICE] -/
structure Packet where
  /-- the context whose ring holds the packet -/
  ring : Nat
  flags : BitVec 8 := 0
  byte3 : BitVec 8 := 0
  context : BitVec 16 := 0
  paramLen : BitVec 16 := 0
  seq : BitVec 32 := 0
  params : List Byte := []
deriving DecidableEq, Repr

/-- The commands of the block: one constructor per row of the opcode table. [log 1 DESIGN CHOICE] -/
inductive Instr where
  /-- NOP (R148): Command that does nothing and returns an OK reply. -/
  | nop (p : Packet)
  /-- GET_IDENTITY (R148): Returns MODULE_ID, the firmware versions and START_STATUS. -/
  | getIdentity (p : Packet)
  /-- READ_ATTENTION (R144): Returns the oldest attention log entry and removes it, along with OVERFLOW. -/
  | readAttention (p : Packet)
  /-- ACK_ATTENTION (R143): Clears the latched attention cause bits that it names. -/
  | ackAttention (p : Packet)
  /-- SET_ATTN_MASK (R618): Writes ATTN_MASK; bit 2 stays 1. -/
  | setAttnMask (p : Packet)
  /-- OPEN_CONTEXT (R134): Opens the lowest-numbered FREE context, with its rings, for the sending function. -/
  | openContext (p : Packet)
  /-- CLOSE_CONTEXT (R135): Moves a context to CLOSING, with or without force. -/
  | closeContext (p : Packet)
  /-- ATTACH_CONTEXT (R115): Attaches rings to a DETACHED or HALTED context that is not anchored. -/
  | attachContext (p : Packet)
  /-- QUERY_CONTEXT (R145): Returns the context status, DROPPED and the event word, then clears DROPPED and the event word. -/
  | queryContext (p : Packet)
  /-- GRANT_FUNCTION (R133): Grants a virtual function an allowance and areas, and binds its home context. -/
  | grantFunction (p : Packet)
  /-- REVOKE_FUNCTION (R136): Closes every context of a granted function and clears its grant. -/
  | revokeFunction (p : Packet)
  /-- QUERY_OCCUPANCY (R132): Returns the occupancy of the module's run-time tables. -/
  | queryOccupancy (p : Packet)
  /-- UNDEFINED_OPCODE_PACKET (R16): A packet that carries a reserved opcode is taken up and answered REJECTED with BAD_OPCODE. -/
  | undefinedOpcodePacket (opcode : Nat) (p : Packet)
  /-- CREATE_FLASK (R170): Creates a flask with its class, running mode and span length. -/
  | createFlask (p : Packet)
  /-- REMOVE_FLASK (R171): Removes a flask, with or without force, and frees its resources. -/
  | removeFlask (p : Packet)
  /-- STAGE_FLASK (R625): Stages cores, a queue, a regulator or a tier quota in a flask's shadow state. -/
  | stageFlask (p : Packet)
  /-- COMMIT_CONFIG (R177): Issues a generation and commits a series of flasks, each at its parting line. -/
  | commitConfig (p : Packet)
  /-- ADMIT_TENANT (R172): Admits a context as a tenant of a flask. -/
  | admitTenant (p : Packet)
  /-- RELEASE_TENANT (R172): Releases a tenant context from a flask. -/
  | releaseTenant (p : Packet)
  /-- RESET_FLASK (R185): Starts a flask reset under Table 5.13. -/
  | resetFlask (p : Packet)
  /-- QUERY_FLASK (R190): Returns a flask's committed or staged registers. -/
  | queryFlask (p : Packet)
  /-- START_FLASK (R170): Makes a LOADED or STOPPED flask ACTIVE and reserves its paced energy. -/
  | startFlask (p : Packet)
  /-- STOP_FLASK (R170): Suspends a flask's jobs at its next parting line. -/
  | stopFlask (p : Packet)
  /-- LOAD_POUR_IMAGE (R164): Checks and loads a pour image as a new job. -/
  | loadPourImage (p : Packet) (image : PourImage)
  /-- START_JOB (R166): Puts a job into its flask's ready list. -/
  | startJob (p : Packet)
  /-- STOP_JOB (R166): Drains a running job in mode 0 or mode 1. -/
  | stopJob (p : Packet)
  /-- QUERY_JOB (R190): Returns a job's state, fault cause, iterations and cores held. -/
  | queryJob (p : Packet)
  /-- UNLOAD_JOB (R166): Unloads a job and frees its number. -/
  | unloadJob (p : Packet)
  /-- CREATE_SYNC (R191): Creates the lowest-numbered free synchronisation object. -/
  | createSync (p : Packet)
  /-- DESTROY_SYNC (R191): Destroys a synchronisation object that no loaded job names. -/
  | destroySync (p : Packet)
  /-- SIGNAL_SYNC (R160): Applies a signal action, or RESET, to an object from the host. -/
  | signalSync (p : Packet)
  /-- QUERY_SYNC (R190): Returns an object's SYNC_STATE. -/
  | querySync (p : Packet)
  /-- SUBMIT_POUR (R191): Submits a pour to a queue of a free-running C0 flask. -/
  | submitPour (p : Packet) (params : Nat) (results : List (Nat × Nat × List Source))
  /-- LOAD_TILE_PROGRAM (R175): Loads an FK2 tile-task program into a tile-task flask. -/
  | loadTileProgram (p : Packet)
  /-- SUBMIT_TILES (R175): Submits tile tasks to a tile-task flask. -/
  | submitTiles (p : Packet) (tasks : List (Option (Nat × Nat) × Nat))
  /-- QUERY_DRIFT (R236): Returns a tensor's drift record. -/
  | queryDrift (p : Packet)
  /-- SET_DRIFT (R222): Stages new drift record values, which take effect at the writing job's parting line. -/
  | setDrift (p : Packet)
  /-- QUERY_STREAM (R267): Returns a stream's STEPS, LAST_TIME, NONFINITE and size. -/
  | queryStream (p : Packet)
  /-- RESET_STREAM (R267): Replaces a stream's home copy with its initial state at a parting line. -/
  | resetStream (p : Packet)
  /-- EXPORT_STREAM (R262): Writes a stream capsule at the owning flask's parting line. -/
  | exportStream (p : Packet)
  /-- IMPORT_STREAM (R263): Checks a capsule and stages it to replace the stream's home copy. -/
  | importStream (p : Packet)
  /-- ALLOCATE (R341): Maps a new buffer in a tier, in the sender's general region. -/
  | allocate (p : Packet)
  /-- RELEASE (R344): Drops a mapping, together with its claims and pins. -/
  | release (p : Packet)
  /-- SHARE_MEMORY (R343): Maps a source context's pages read-only into a target context. -/
  | shareMemory (p : Packet)
  /-- PIN (R349): Pins pages resident in T1 or T2. -/
  | pin (p : Packet)
  /-- UNPIN (R349): Drops pins on pages. -/
  | unpin (p : Packet)
  /-- MOVE (R371): Raises, lowers or rehomes pages on request. -/
  | move (p : Packet)
  /-- QUERY_TRANSLATION (R371): Returns the page-table entry and the claim state of an address. -/
  | queryTranslation (p : Packet)
  /-- SET_CONTEXT_QUOTA (R348): Sets a context's quota in one tier. -/
  | setContextQuota (p : Packet)
  /-- QUERY_MEMORY (R371): Returns the quotas and charges of a flask or a context. -/
  | queryMemory (p : Packet)
  /-- SET_ERROR_POLICY (R363): Sets THRESHOLD and WINDOW of a memory error source. -/
  | setErrorPolicy (p : Packet)
  /-- EVACUATE_STACK (R371): Relocates every page off HBM3E stack n. -/
  | evacuateStack (p : Packet)
  /-- CREATE_SEQUENCE (R269): Creates a KV sequence with its layout and window. -/
  | createSequence (p : Packet)
  /-- DESTROY_SEQUENCE (R274): Destroys a sequence, through CLOSING if a step is in flight. -/
  | destroySequence (p : Packet)
  /-- QUERY_SEQUENCE (R296): Returns a sequence's FILL, LIVE_FIRST, groups and state. -/
  | querySequence (p : Packet)
  /-- TRIM_SEQUENCE (R297): Lowers FILL and releases the groups above it. -/
  | trimSequence (p : Packet)
  /-- FORK_SEQUENCE (R329): Creates target members and forks the source into them. -/
  | forkSequence (p : Packet)
  /-- DESTROY_FAMILY (R309): Destroys every member of a family. -/
  | destroyFamily (p : Packet)
  /-- QUERY_FAMILY (R328): Returns a family's members and group counts. -/
  | queryFamily (p : Packet)
  /-- CREATE_MAP_TABLE (R330): Creates a map table with its fields. -/
  | createMapTable (p : Packet)
  /-- WRITE_MAP_TILES (R315): Writes tile blocks into the inactive version of a map table. -/
  | writeMapTiles (p : Packet)
  /-- SWITCH_MAP_VERSION (R316): Makes the inactive version active at the owner's parting line. -/
  | switchMapVersion (p : Packet)
  /-- SET_ROUTE (R321): Replaces the route that the prefetcher follows. -/
  | setRoute (p : Packet)
  /-- QUERY_MAP (R328): Returns MAP_STATUS of a map table. -/
  | queryMap (p : Packet)
  /-- DESTROY_MAP_TABLE (R330): Destroys a map table once no loaded job gathers from it. -/
  | destroyMapTable (p : Packet)
  /-- CREATE_TUNDISH (R428): Creates a tundish with its slots, window and alarm settings. -/
  | createTundish (p : Packet)
  /-- DESTROY_TUNDISH (R428): Destroys a tundish once its slots are FREE. -/
  | destroyTundish (p : Packet)
  /-- CONFIGURE_STREAM (R399): Configures, enables or disables an ingest stream as a tundish member. -/
  | configureStream (p : Packet) (point : PointRec)
  /-- LOAD_REMAP (R410): Checks a remap table and stages it for the next frame start. -/
  | loadRemap (p : Packet)
  /-- QUERY_INGEST (R427): Returns STREAM_STATUS of a stream. -/
  | queryIngest (p : Packet)
  /-- QUERY_TUNDISH (R427): Returns TUNDISH_STATUS of a tundish. -/
  | queryTundish (p : Packet)
  /-- OPEN_DECODE (R422): Opens a Codec Engine decode session within capacity. -/
  | openDecode (p : Packet)
  /-- OPEN_ENCODE (R425): Opens an encode session on a stream's log tap. -/
  | openEncode (p : Packet)
  /-- CLOSE_SESSION (R427): Closes a codec session once its last picture is out. -/
  | closeSession (p : Packet)
  /-- QUERY_SESSION (R427): Returns a codec session's counts. -/
  | querySession (p : Packet)
  /-- LOAD_CALIBRATION (R434): Writes calibration records into a set that is not in use, and rebuilds its projection tables. -/
  | loadCalibration (p : Packet)
  /-- SWITCH_CALIBRATION (R435): Switches the calibration set of the listed flasks as a series. -/
  | switchCalibration (p : Packet)
  /-- CREATE_PROJECTION (R436): Creates and builds a projection index table. -/
  | createProjection (p : Packet) (desc : ProjDesc)
  /-- DESTROY_PROJECTION (R454): Destroys a projection index table. -/
  | destroyProjection (p : Packet)
  /-- CREATE_TRACK_SET (R454): Creates a track set with its capacity and parameters. -/
  | createTrackSet (p : Packet) (params : TrackParams)
  /-- DESTROY_TRACK_SET (R454): Destroys a track set. -/
  | destroyTrackSet (p : Packet)
  /-- SET_TRACK_PARAMS (R443): Stages track parameters for the owner's parting line. -/
  | setTrackParams (p : Packet) (params : TrackParams)
  /-- LOAD_LATTICE (R445): Writes a lattice image into the inactive copy. -/
  | loadLattice (p : Packet)
  /-- SWITCH_LATTICE (R445): Makes the inactive lattice copy active at the owner's parting line. -/
  | switchLattice (p : Packet)
  /-- QUERY_SPATIAL (R454): Returns the Spatial Engine status or count words. -/
  | querySpatial (p : Packet)
  /-- CONFIGURE_LOOP (R460): Configures a loop channel and enables or disables it. -/
  | configureLoop (p : Packet)
  /-- SET_LOOP_COEFF (R466): Stages a new section set for the next sample instant. -/
  | setLoopCoeff (p : Packet)
  /-- OPEN_LOOP (R480): Moves a loop channel to OPEN at its next sample instant. -/
  | openLoop (p : Packet)
  /-- CLOSE_LOOP (R467): Moves a loop channel to AUTO or MANUAL at a later sample instant. -/
  | closeLoop (p : Packet)
  /-- SET_SIGNAL (R456): Writes a signal slot's value and VALID. -/
  | setSignal (p : Packet)
  /-- SET_MANUAL (R480): Sets a loop channel's manual output value. -/
  | setManual (p : Packet)
  /-- TRIP_LOOPS (R470): Sets the trip latch from the host. -/
  | tripLoops (p : Packet)
  /-- CLEAR_TRIP (R471): Clears the trip latch when no trip source is asserted. -/
  | clearTrip (p : Packet)
  /-- LOAD_MAPS (R457): Loads receive or transmit map entries. -/
  | loadMaps (p : Packet)
  /-- SET_GATE_LIST (R459): Stages an 802.1Qbv gate control list for a port. -/
  | setGateList (p : Packet) (gates : List (Nat × Nat))
  /-- LOAD_FF_TABLE (R469): Writes the inactive copy of a friction or cogging table, optionally switching the copies. -/
  | loadFfTable (p : Packet)
  /-- ARM_TRACE (R472): Arms, triggers or stops a trace channel. -/
  | armTrace (p : Packet)
  /-- READ_TRACE (R472): Copies a frozen trace to host memory. -/
  | readTrace (p : Packet)
  /-- QUERY_LOOP (R480): Returns LOOP_STATUS of a channel. -/
  | queryLoop (p : Packet)
  /-- CREATE_QP (R473): Creates a resident quadratic problem and its symbolic factor. -/
  | createQp (p : Packet) (desc : QpDesc)
  /-- DESTROY_QP (R480): Destroys a resident problem. -/
  | destroyQp (p : Packet)
  /-- QUERY_QP (R480): Returns QP_STATUS of a problem. -/
  | queryQp (p : Packet)
  /-- CONFIGURE_PORT (R624): Enables an Ethernet link or disables it, and sets its role and rate. -/
  | configurePort (p : Packet)
  /-- QUERY_TIME (R397): Returns TB_NOW, TB_STATUS, TB_ERR and TB_OFFSET. -/
  | queryTime (p : Packet)
  /-- SET_SOURCE (R377): Configures a time source's enable, priority and options. -/
  | setSource (p : Packet)
  /-- SET_UTC_OFFSET (R390): Sets UTC_OFFSET and announces a leap second. -/
  | setUtcOffset (p : Packet)
  /-- SET_CALENDAR (R386): Re-seeds the timebase from the host while SEEDED. -/
  | setCalendar (p : Packet)
  /-- SET_PPS_TOD (R383): Delivers a time-of-day label for the next PPS_IN edge. -/
  | setPpsTod (p : Packet)
  /-- SET_TRIGGER (R392): Stages the mode and timing of a TRIG line. -/
  | setTrigger (p : Packet)
  /-- SET_MODE (R32): Requests a mode change, which commits at the affected flasks' parting lines. -/
  | setMode (p : Packet)
  /-- QUERY_POWER (R544): Returns POWER_STATUS. -/
  | queryPower (p : Packet)
  /-- SET_POWER_POLICY (R544): Sets the module's software power ceiling and pace ceiling. -/
  | setPowerPolicy (p : Packet)
  /-- SET_FLASK_POWER (R544): Sets a free-running flask's power floor and ceiling. -/
  | setFlaskPower (p : Packet)
  /-- QUERY_ENERGY (R544): Returns the energy attributed to a flask or a context. -/
  | queryEnergy (p : Packet)
  /-- LOAD_ENERGY_COEFF (R542): Writes the inactive bank of energy coefficients. -/
  | loadEnergyCoeff (p : Packet)
  /-- READ_VOLTAGE_TABLE (R544): Copies a die's voltage table to host memory. -/
  | readVoltageTable (p : Packet)
  /-- ENTER_STANDBY (R99): Replies, then stops and removes the flasks, powers down and opens the input switch. -/
  | enterStandby (p : Packet)
  /-- RESET_MODULE (R101): Replies, then performs a module reset, after the safe state in driving modes. -/
  | resetModule (p : Packet)
  /-- RESET_DIE (R102): Cycles a compute die and its stack through soft start, BIST and reserve mapping. -/
  | resetDie (p : Packet)
  /-- ARM_SAFE_OUT (R554): Arms or disarms the safety outputs. -/
  | armSafeOut (p : Packet)
  /-- SET_RESULT_CLASS (R573): Sets a result class record at the next 50 µs boundary. -/
  | setResultClass (p : Packet)
  /-- QUERY_RESULT_CLASS (R583): Returns CLASS_STATUS of a class. -/
  | queryResultClass (p : Packet)
  /-- SET_SAFETY_NOTICE (R551): Configures the CAN XL channels of the safe-state notice. -/
  | setSafetyNotice (p : Packet)
  /-- SET_SAFETY_ERR_POLICY (R574): Sets the leaky-counter limits of a safety error source. -/
  | setSafetyErrPolicy (p : Packet)
  /-- QUERY_SAFETY (R583): Returns SAFETY_STATUS and SAFE_CAUSE. -/
  | querySafety (p : Packet)
  /-- ENTER_SAFE_STATE (R549): Host request that puts the module in the safe state. -/
  | enterSafeState (p : Packet)
  /-- SET_C3_LAYOUT (R561): Names dies A, B and C of a C3 flask. -/
  | setC3Layout (p : Packet)
  /-- REVOKE_FLASK (R577): Revokes a flask's resources and resets it with cause REVOKED. -/
  | revokeFlask (p : Packet)
  /-- SET_SAFETY_TIMES (R583): Sets TIME_BOUND_US, EOI_S and DIAG_MS. -/
  | setSafetyTimes (p : Packet)
  /-- READ_SAFETY_LOG (R582): Copies the safety log to host memory. -/
  | readSafetyLog (p : Packet)
  /-- SET_TRUSS (R497): Sets the truss ID, member number, ports and notice channel. -/
  | setTruss (p : Packet)
  /-- QUERY_TRUSS (R513): Returns truss or member status and LISTED_DIGEST. -/
  | queryTruss (p : Packet)
  /-- PAIR_MODULES (R504): Agrees lock-step pairing with a partner member. -/
  | pairModules (p : Packet)
  /-- UNPAIR (R508): Drops the lock-step pair. -/
  | unpair (p : Packet)
  /-- LEAVE_TRUSS (R497): Takes the module out of its truss and sends leave messages. -/
  | leaveTruss (p : Packet)
  /-- READ_DIVERGENCE (R513): Returns the DIVERGENCE record and clears HELD. -/
  | readDivergence (p : Packet)
  /-- TRUSS_APERTURE (R510): Opens an aperture for truss copies, or closes it. -/
  | trussAperture (p : Packet)
  /-- TRUSS_COPY (R510): Sends bytes into another member's aperture. -/
  | trussCopy (p : Packet) (answer : CopyEnd)
  /-- WRITE_IMAGE (R586): Writes a firmware image into the inactive bank and verifies it. -/
  | writeImage (p : Packet) (image : FwImage)
  /-- ACTIVATE_BANK (R587): Activates a component's other bank, as a series or at its switch point. -/
  | activateBank (p : Packet)
  /-- CONFIRM_BANK (R589): Ends a bank's trial. -/
  | confirmBank (p : Packet)
  /-- COMMIT_SECURITY_VERSION (R590): Raises the fused security version counter. -/
  | commitSecurityVersion (p : Packet)
  /-- RELOAD_FLASK (R592): Loads new pour images and swaps them in at a swap boundary. -/
  | reloadFlask (p : Packet) (images : List PourImage)
  /-- RETIRE_DIE (R594): Takes a compute die out of service and records it. -/
  | retireDie (p : Packet)
  /-- RETIRE_SITE (R595): Retires one core site. -/
  | retireSite (p : Packet)
  /-- READMIT (R596): Removes entries from the retirement record. -/
  | readmit (p : Packet)
  /-- READ_SERVICE_LOG (R599): Copies service log entries to host memory. -/
  | readServiceLog (p : Packet)
  /-- READ_RETIREMENT (R597): Copies retirement record entries to host memory. -/
  | readRetirement (p : Packet)
  /-- SET_DIAG_PORT (R600): Enables and configures the ETHDIAG diagnostic service. -/
  | setDiagPort (p : Packet)
  /-- CALIBRATE_ENERGY (R598): Runs the activity suite in Park and writes an energy coefficient record. -/
  | calibrateEnergy (p : Packet)
  /-- INJECT_FAULT (R603): Injects a fault on FK4-600-LD. -/
  | injectFault (p : Packet)
  /-- SET_DEV_TRACE (R602): Enables the development trace ring on FK4-600-LD. -/
  | setDevTrace (p : Packet)
  /-- QUERY_SERVICE (R606): Returns FW_STATUS or SERVICE_STATUS. -/
  | queryService (p : Packet)
  /-- SQ_TAIL (R117): Doorbell write that advances a context's submission ring tail, or is discarded. -/
  | sqTail (fn : Nat) (ctx : Nat) (value : Nat)
  /-- CQ_HEAD (R117): Doorbell write that advances a context's completion ring head; a head out of range halts the context. -/
  | cqHead (fn : Nat) (ctx : Nat) (value : Nat)
  /-- ENABLE (R116): Write of ENABLE in an anchored ring set, which attaches or detaches its rings. -/
  | enable (fn : Nat) (value : Nat)
  /-- SIGNAL_FAULT_CLEAR (R67): W1C write that clears bits of SIGNAL_FAULT. -/
  | signalFaultClear (value : Word)
  /-- ATTN_CAUSE_CLEAR (R143): W1C write that clears latched bits of ATTN_CAUSE. -/
  | attnCauseClear (value : Word)
  /-- START_STATUS_CLEAR (R107): W1C write that clears BANK_FALLBACK, HUB_LOCKED or MP_IMAGE_FAIL. -/
  | startStatusClear (value : Word)
  /-- STRETCH_LATE_CLEAR (R512): W1C write that clears STRETCH_LATE in TRUSS_STATUS. -/
  | stretchLateClear (value : Word)
  /-- TUNDISH_STATUS_CLEAR (R426): W1C write that clears DAMAGE_OVERFLOW or LOW_CAUSE. -/
  | tundishStatusClear (tundish : Nat) (value : Nat)
  /-- WARN_CLEAR (R543): W1C write that clears WARN bits of THERMAL_STATUS. -/
  | warnClear (value : Word)
  /-- STALL_MS (R188): Write of the STALL_MS limit; a value out of range is ignored. -/
  | stallMs (value : Word)
  /-- RESET_CAUSE_READ (R109): Read that returns RESET_CAUSE and clears it. -/
  | resetCauseRead
  /-- DROPPED_READ (R147): Read that returns a ring set's DROPPED count and clears it. -/
  | droppedRead (fn : Nat)
  /-- CONVERSION_COUNT_READ (R235): Read of SAT_COUNT, UF_COUNT or NAN_COUNT, which then clears. -/
  | conversionCountRead (die : Nat) (site : Nat) (word : Nat)
  /-- RC_COUNTER_READ (R11): Read of any other RC counter or PEAK field, which returns its value and clears it. -/
  | rcCounterRead (offset : Nat)
  /-- LOW_HALF_READ (R14): Read of a 64-bit register's low half, which latches its high half and, for TB_NOW, the calendar. -/
  | lowHalfRead (fn : Nat) (offset : Nat)
  /-- HIGH_HALF_WRITE (R14): Write of a 64-bit register's high half, which commits the held low half. -/
  | highHalfWrite (fn : Nat) (offset : Nat) (value : Word)
  /-- REGISTER_WRITE (R11): Write to a register that has no row of its own: RW sets the field, other types are ignored. -/
  | registerWrite (fn : Nat) (offset : Nat) (value : Word)
  /-- UNALIGNED_ACCESS (R617): A register access narrower than 32 bits or misaligned is not served. -/
  | unalignedAccess (offset : Nat) (bytes : Nat) (write : Bool)
  /-- SMBUS_BLOCK_READ (R65): Sideband block read of a word from the management window. -/
  | smbusBlockRead (command : Nat)
  /-- SMBUS_WRITE (R65): Sideband write; only its command byte is acknowledged. -/
  | smbusWrite (command : Nat) (data : List Byte)
  /-- ALERT_RESPONSE (R65): Read at the Alert Response Address, answered with the module's address, which then releases MGMT_ALERT_N. -/
  | alertResponse
  /-- READ_WORDS (R601): Diagnostic request that reads register words. -/
  | readWords (peer : List Byte) (port : Nat) (seq : Nat) (offset : Nat) (count : Nat)
  /-- WRITE_WORDS (R601): Diagnostic write request, acted on only on FK4-600-LD. -/
  | writeWords (peer : List Byte) (port : Nat) (seq : Nat) (offset : Nat) (words : List Word)
  /-- DIAG_READ_SERVICE_LOG (R600): Diagnostic request that reads service log entries. -/
  | diagReadServiceLog (peer : List Byte) (port : Nat) (seq : Nat) (first : Nat) (count : Nat)
  /-- DIAG_READ_SAFETY_LOG (R600): Diagnostic request that reads safety log entries. -/
  | diagReadSafetyLog (peer : List Byte) (port : Nat) (seq : Nat) (first : Nat) (count : Nat)
  /-- DIAG_READ_RETIREMENT (R600): Diagnostic request that reads retirement record entries. -/
  | diagReadRetirement (peer : List Byte) (port : Nat) (seq : Nat) (first : Nat) (count : Nat)
  /-- COLD_START (R100): KA becomes good after Off; Keystone boots, the straps are sampled and the module enters Standby. -/
  | coldStart (straps : Nat) (ksOk : Bool) (ksOtherOk : Bool) (rtc : Option Nat)
  /-- KA_LOSS (R69): Loss of KA: the safety outputs fall invalid and the hub supervisor shuts the module down. -/
  | kaLoss
  /-- KEYSTONE_LOST (R69): Keystone's heartbeat stops; the hub supervisor holds the dies in reset, stops the engines and drops HOST_RDY. -/
  | keystoneLost
  /-- KA_DIP (R67): KA falls below 9 V without the input switch opening. -/
  | kaDip
  /-- KA_OUT_OF_RANGE (R620): KA enters or leaves the 58 V to 60 V band, which changes KA_IN_RANGE. -/
  | kaOutOfRange (inBand : Bool)
  /-- WAKE_ACCEPTED (R61): WAKE has been high for 10 ms and is accepted. -/
  | wakeAccepted
  /-- WAKE_FALL (R62): WAKE falls while the module is starting or running. -/
  | wakeFall
  /-- START_UP (R90): Input power good starts the start-up sequence of Table 3.3. -/
  | startUp (boot : Boot) (railsGood : List Nat) (hubGood : Bool)
  /-- BIST_PASS_1_COMPLETE (R97): A die completes BIST pass 1 and offers its early-compute sites. -/
  | bistPass1Complete (die : Nat) (failing : List Nat)
  /-- HOST_RDY_RISE (R63): HOST_RDY rises once step 12 is reached and the PCIe link is in L0. -/
  | hostRdyRise (speed : Nat) (width : Nat)
  /-- FULL_COMPUTE (R90): Step 15: core-site roles are committed, FULL is set and the attention cause is raised. -/
  | fullCompute (failing : List (Nat × Nat))
  /-- RAIL_SOFT_START_TIMEOUT (R76): A rail misses 50 % of its start voltage within 2 ms and is turned off. -/
  | railSoftStartTimeout (rail : RailId)
  /-- RAIL_RETRY (R76): 100 ms after an attempt began, the regulator retries, or locks the rail out after the fourth attempt. -/
  | railRetry (rail : RailId) (good : Bool)
  /-- IBC_REGULATION_TIMEOUT (R79): An IBC fails to regulate within 60 ms of the input switch closing. -/
  | ibcRegulationTimeout (ibc : Nat)
  /-- OPEN_PHASE (R80): A phase stays below its share for 20 µs under load and is removed. -/
  | openPhase (die : Nat) (phase : Nat)
  /-- SENSE_LOCALISATION (R82): A power or temperature mismatch starts localisation, which declares a phase sense-failed or the input sensor failed. -/
  | senseLocalisation (die : Nat) (phase : Option Nat)
  /-- RAIL_UNDERVOLTAGE (R85): A rail stays below 90 % of its set point for 5 µs and is turned off. -/
  | railUndervoltage (rail : RailId)
  /-- VIN_LOSS (R87): The input switch opens; the dies are stopped, a power-loss record is written and the hub rails go off. -/
  | vinLoss
  /-- VIN_EXTENDED_RANGE (R50): VIN enters its extended range and VIN_RANGE is set. -/
  | vinExtendedRange
  /-- VIN_LOW_EXT (R89): VIN has stayed in 34 V to 36 V for 100 ms, so the budget is capped at 250 W. -/
  | vinLowExt
  /-- VIN_CAP_LIFT (R89): 1 s after VIN rises above 36.5 V with both IBCs regulating, the 250 W cap lifts. -/
  | vinCapLift
  /-- STANDBY_REACHED (R99): The power-down of ENTER_STANDBY completes and STATE reads Standby. -/
  | standbyReached
  /-- MODULE_RESET_BEGIN (R101): The module reset begins once the reply is written and any safe-state notice is sent. -/
  | moduleResetBegin (boot : Boot)
  /-- MP_HEARTBEAT_MISSED (R101): The Management Processor misses its heartbeat for 50 ms, which leads to the safe state and a module reset. -/
  | mpHeartbeatMissed
  /-- PA_HEARTBEAT_MISSED (R575): The Power Arbiter is silent for 1 ms, which leads to the safe state. -/
  | paHeartbeatMissed
  /-- DIE_RESET_COMPLETE (R102): A die reset ends with the die in service, short or absent, and DIE_CHANGE is raised. -/
  | dieResetComplete (die : Nat) (test : DieTest)
  /-- PCIE_PERST_N_ASSERT (R139): PCIE_PERST_N asserted detaches every context and drops HOST_RDY. -/
  | pciePerstNAssert
  /-- PCIE_PERST_N_RELEASE (R139): PCIE_PERST_N released readies the endpoint for link training. -/
  | pciePerstNRelease
  /-- LINK_DOWN (R139): The PCIe link leaves L0 without recovery. -/
  | linkDown
  /-- FUNCTION_LEVEL_RESET (R138): A Function Level Reset detaches the function's contexts. -/
  | functionLevelReset (fn : Nat)
  /-- FLR_COMPLETE (R138): A Function Level Reset completes 100 ms after it started. -/
  | flrComplete (fn : Nat)
  /-- D3HOT (R138): A function enters D3hot and its contexts detach. -/
  | d3hot (fn : Nat)
  /-- HOST_DMA_FAILURE (R112): A host access fails or has no completion within 50 ms, which halts the context or faults the command. -/
  | hostDmaFailure (ctx : Nat) (seq : Option (BitVec 32))
  /-- INTERIM_REPLY (R125): 1 ms after take-up without a final reply, a DEFERRED interim reply is written. -/
  | interimReply (ctx : Nat) (seq : BitVec 32)
  /-- MSIX_INTERRUPT (R131): The context's vector is raised once the 4 µs spacing allows it. -/
  | msixInterrupt (ctx : Nat)
  /-- TRIP_INPUT_ASSERT (R57): A filtered trip input assertion is accepted and sets the trip latch. -/
  | tripInputAssert (line : Nat)
  /-- TRIP_INPUT_DEASSERT (R57): A filtered trip input deassertion is accepted. -/
  | tripInputDeassert (line : Nat)
  /-- SAFE_OUT_READBACK_ERROR (R55): A safety output disagrees with its command for more than 10 µs. -/
  | safeOutReadbackError (line : Nat)
  /-- PPS_IN_EDGE (R383): A PPS_IN rising edge is timestamped and labelled. -/
  | ppsInEdge (time : Nat)
  /-- PPS_LOST (R376): No PPS_IN edge for 1.1 s while PPS is selected. -/
  | ppsLost
  /-- PPS_TOD_LABEL_FRAME (R383): A CAN XL frame carries a time-of-day label. -/
  | ppsTodLabelFrame (channel : Nat) (id : Nat) (year : Nat) (month : Nat) (day : Nat) (hour : Nat) (minute : Nat) (second : Nat) (ns : Nat) (traceable : Bool)
  /-- GPTP_MESSAGE (R382): A gPTP Sync, Follow_Up or delay message arrives on a port. -/
  | gptpMessage (port : Nat) (msg : Gptp)
  /-- SOURCE_QUALIFICATION_LOST (R378): A source loses qualification through missed messages or a timeout, and the timebase changes source. -/
  | sourceQualificationLost (source : Nat)
  /-- SOURCE_ELIGIBLE (R377): A source has stayed qualified for 2 s and becomes eligible, and may be selected. -/
  | sourceEligible (source : Nat)
  /-- SLEW_COMPLETE (R379): The phase offset falls below 100 ns and the state becomes LOCKED. -/
  | slewComplete
  /-- LEAP_SECOND (R390): An announced leap second passes at the end of its UTC day. -/
  | leapSecond
  /-- TRIGGER_PULSE (R391): A TRIG line fires a pulse at its instant. -/
  | triggerPulse (line : Nat)
  /-- TRIGGER_SETTING_EFFECT (R392): A staged periodic trigger setting takes effect at its block start. -/
  | triggerSettingEffect (line : Nat)
  /-- PPS_OUT_SECOND (R393): PPS_OUT rises at each TAI second. -/
  | ppsOutSecond
  /-- SPAN_BOUNDARY (R394): A span boundary falls; paced steps start and results are delivered. -/
  | spanBoundary (data : List (Nat × Nat × List Byte))
  /-- PACE_OVERRUN (R157): A paced step has not completed at the end of its end span and is stopped. -/
  | paceOverrun (job : Nat) (step : Nat)
  /-- PARTING_LINE (R178): A flask reaches a parting line, where commits, re-mapping and switches act. -/
  | partingLine (flask : Nat)
  /-- SERIES_TIMEOUT (R179): A series member finds no parting line within the timeout. -/
  | seriesTimeout (generation : Nat)
  /-- RELOAD_SWAP (R592): At the swap boundary, the old jobs end and the new images run. -/
  | reloadSwap (flask : Nat)
  /-- RELOAD_TIMEOUT (R592): No swap boundary came within the timeout, so the new jobs are unloaded. -/
  | reloadTimeout (flask : Nat)
  /-- JOB_PLACEMENT (R168): The scheduler places a ready job that fits. -/
  | jobPlacement (flask : Nat)
  /-- ENTRY_ISSUE (R153): A pour entry starts once all its waits are satisfied. -/
  | entryIssue (engine : Nat) (queue : Nat)
  /-- CORE_STEP_FIRE (R19): A core fires a step when it holds a token for every input and a credit for every output. -/
  | coreStepFire (job : Nat) (step : Nat) (hit : StepHit)
  /-- ENTRY_COMPLETE (R153): An entry completes, its outputs become visible and its signals are applied. -/
  | entryComplete (engine : Nat) (queue : Nat) (entry : Nat) (agree : Nat) (unit : Nat)
  /-- JOB_STALL (R158): A free-running job shows no progress for STALL_MS and faults with STALLED. -/
  | jobStall (job : Nat)
  /-- FLASK_RESET_COMPLETE (R185): A flask reset completes and the flask returns LOADED or ACTIVE. -/
  | flaskResetComplete (flask : Nat)
  /-- REVOCATION_CONFIRM (R578): A block confirms its revocation to Keystone. -/
  | revocationConfirm (flask : Nat) (block : Nat)
  /-- REVOKE_TIMEOUT (R578): A block has not confirmed its revocation within 40 µs. -/
  | revokeTimeout (flask : Nat) (block : Nat)
  /-- NOP_ENTRY (R152): Pour operation 0x000, which waits and signals only. -/
  | nopEntry (engine : Nat) (queue : Nat) (entry : Nat)
  /-- CONV (R241): Convolution with windows built without copies. -/
  | conv (queue : Nat) (entry : Nat) (core : Nat × Nat) (rec_ : ConvRec) (ep : List EpOp) (ts : List TDesc)
  /-- DWCONV (R245): Depthwise convolution on the EWP. -/
  | dwconv (queue : Nat) (entry : Nat) (core : Nat × Nat) (rec_ : ConvRec) (ep : List EpOp) (ts : List TDesc)
  /-- S2C (R247): Regroups space into channels. -/
  | s2c (queue : Nat) (entry : Nat) (rec_ : RegroupRec) (ts : List TDesc)
  /-- C2S (R247): Regroups channels back into space. -/
  | c2s (queue : Nat) (entry : Nat) (rec_ : RegroupRec) (ts : List TDesc)
  /-- RECUR (R253): One step of a recurrent cell, with a gate program. -/
  | recur (queue : Nat) (entry : Nat) (core : Nat × Nat) (rec_ : RecurRec) (ts : List TDesc) (row : Option (Nat × Bool))
  /-- SSM_STEP (R255): One token step of a diagonal state-space block. -/
  | ssmStep (queue : Nat) (entry : Nat) (core : Nat × Nat) (rec_ : SsmRec) (ts : List TDesc) (row : Option (Nat × Bool))
  /-- SCAN (R256): A linear recurrence over a sequence, in chunks across cores. -/
  | scan (queue : Nat) (entry : Nat) (core : Nat × Nat) (rec_ : ScanRec) (ts : List TDesc) (row : Option (Nat × Bool))
  /-- KV_APPEND (R281): Appends KV records, and allocates groups at the FIRST append. -/
  | kvAppend (queue : Nat) (entry : Nat) (core : Nat × Nat) (rec_ : AttRec) (ts : List TDesc)
  /-- ATTEND (R282): Attention over latent KV in ABSORB or EXPAND mode. -/
  | attend (queue : Nat) (entry : Nat) (core : Nat × Nat) (rec_ : AttRec) (ts : List TDesc)
  /-- ATTEND_PACKED (R286): Attention over packed batches with segment numbers. -/
  | attendPacked (queue : Nat) (entry : Nat) (core : Nat × Nat) (rec_ : AttRec) (ts : List TDesc)
  /-- KV_FORK (R304): Forks or releases family members from a fork table. -/
  | kvFork (queue : Nat) (entry : Nat)
  /-- SAMPLE (R313): Samples codes from logits by key. -/
  | sample (queue : Nat) (entry : Nat) (rec_ : SampleRec) (ts : List TDesc)
  /-- VQ_ENCODE (R311): Finds the nearest codebook entry for each row. -/
  | vqEncode (queue : Nat) (entry : Nat) (rows : Nat) (entries : Nat) (width : Nat) (ts : List TDesc)
  /-- CODE_GATHER (R312): Copies embedding rows by code. -/
  | codeGather (queue : Nat) (entry : Nat) (rows : Nat) (entries : Nat) (width : Nat) (ts : List TDesc)
  /-- TABLE_GATHER (R317): Gathers map table rows by key. -/
  | tableGather (queue : Nat) (entry : Nat) (rec_ : GatherRec)
  /-- BEV_LIFT (R437): Lifts camera features onto the bird's-eye grid. -/
  | bevLift (queue : Nat) (entry : Nat) (core : Nat × Nat) (table : Nat) (chans : Nat) (pitch : Nat) (ts : List TDesc)
  /-- GRAD_W (R324): Computes a weight gradient on the BF16 path. -/
  | gradW (queue : Nat) (entry : Nat) (core : Nat × Nat) (k : Nat) (n : Nat) (split : List Nat) (ts : List TDesc)
  /-- ATTEND_GRAD (R324): Attention backward pass for a packed batch. -/
  | attendGrad (queue : Nat) (entry : Nat) (core : Nat × Nat) (rec_ : AttRec) (ts : List TDesc)
  /-- OPT_STEP (R325): AdamW update of master weights, skipped on a non-finite gradient. -/
  | optStep (queue : Nat) (entry : Nat) (rec_ : OptRec)
  /-- QUANTIZE (R326): Writes master weights in a stored format. -/
  | quantize (queue : Nat) (entry : Nat) (core : Nat × Nat) (k : Nat) (n : Nat) (ts : List TDesc)
  /-- COPY (R351): Migration Engine byte copy. -/
  | copy (queue : Nat) (entry : Nat) (bytes : Nat)
  /-- FILL (R351): Migration Engine pattern fill. -/
  | fill (queue : Nat) (entry : Nat) (bytes : Nat) (pattern : Nat)
  /-- RAISE (R351): Places the flask's claim on a faster tier. -/
  | raise (queue : Nat) (entry : Nat) (pages : Nat) (tier : Nat) (stack : Nat) (place : List (Nat × Nat × Nat))
  /-- LOWER (R351): Drops or lowers the flask's claim. -/
  | lower (queue : Nat) (entry : Nat) (pages : Nat) (tier : Nat)
  /-- REHOME (R351): Moves the home of the owner's pages. -/
  | rehome (queue : Nat) (entry : Nat) (pages : Nat) (tier : Nat) (stack : Nat)
  /-- MIGRATION_COPY_COMPLETE (R356): A page copy completes, switches frames and releases held events. -/
  | migrationCopyComplete (page : Nat)
  /-- FRAME_CLEAR_COMPLETE (R333): Background clearing of a freed frame completes. -/
  | frameClearComplete (frame : Nat)
  /-- MEMORY_ERROR (R363): A correctable or uncorrectable error is found and counted. -/
  | memoryError (source : Nat) (unit : Nat) (uncorrectable : Bool) (frame : Nat) (line : Nat) (reader : Option Nat)
  /-- ERROR_COUNTER_LEAK (R363): An event leaks out of its leaky counter after WINDOW. -/
  | errorCounterLeak (kind : Nat) (source : Nat) (unit : Nat)
  /-- SCRUB_PASS (R366): The patrol scrubber reads and corrects lines on its period. -/
  | scrubPass (store : Nat)
  /-- RELOCATION_COMPLETE (R365): A relocation copy completes on a frame that came free. -/
  | relocationComplete (page : Nat)
  /-- TAKE_BATCH (R416): Takes a tundish batch into the window. -/
  | takeBatch (queue : Nat) (entry : Nat) (tundish : Nat) (early : Bool)
  /-- DECODE_AU (R423): Decodes an access unit. -/
  | decodeAu (queue : Nat) (entry : Nat) (session : Nat) (time : Nat) (au : AuResult)
  /-- FLUSH (R423): Outputs the pictures held for reordering. -/
  | flush (queue : Nat) (entry : Nat) (session : Nat)
  /-- POSE_PUSH (R431): Enters a pose into the history. -/
  | posePush (queue : Nat) (entry : Nat) (extrapUs : Nat)
  /-- ALIGN_POINTS (R439): Aligns a point region to the batch reference time. -/
  | alignPoints (queue : Nat) (entry : Nat) (slot : Nat)
  /-- TRACK_UPDATE (R440): Predicts, gates, assigns, updates and gives birth to tracks. -/
  | trackUpdate (queue : Nat) (entry : Nat) (set : Nat) (most : Nat)
  /-- COSTMAP_BUILD (R444): Builds a time-layered cost cube. -/
  | costmapBuild (queue : Nat) (entry : Nat) (rec_ : CostRec)
  /-- OCTREE_BUILD (R446): Builds a voxel occupancy octree. -/
  | octreeBuild (queue : Nat) (entry : Nat) (rec_ : OctRec)
  /-- PLAN (R448): Lattice search by weighted A* passes. -/
  | plan (queue : Nat) (entry : Nat) (rec_ : PlanRec)
  /-- PUBLISH_TRAJ (R465): Publishes a trajectory into a slot. -/
  | publishTraj (queue : Nat) (entry : Nat) (slot : Nat)
  /-- QP_UPDATE (R474): Applies a change list to a resident problem. -/
  | qpUpdate (queue : Nat) (entry : Nat) (problem : Nat)
  /-- QP_SOLVE (R475): Solves a resident problem for a fixed number of iterations. -/
  | qpSolve (queue : Nat) (entry : Nat) (problem : Nat) (stopAfter : Option Nat)
  /-- CSI2_FRAME_START (R404): A camera frame start arrives, the trigger time is assigned and any staged remap is applied. -/
  | csi2FrameStart (stream : Nat) (time : Nat)
  /-- CSI2_LINE (R409): A camera line arrives, passes through the pipeline and writes slices when they become ready. -/
  | csi2Line (stream : Nat) (line : LineIn)
  /-- CSI2_FRAME_END (R420): A frame end arrives; missing lines are concealed and the member completes. -/
  | csi2FrameEnd (stream : Nat) (phyErr : Nat)
  /-- POINT_PACKET (R412): A point-stream UDP datagram is read into points. -/
  | pointPacket (stream : Nat) (time : Nat) (data : List Byte) (phyErr : Nat)
  /-- TUNDISH_CLOSE (R414): At T + CLOSE_US, a FILLING slot closes READY. -/
  | tundishClose (tundish : Nat) (ref : Nat)
  /-- TUNDISH_WARN (R418): At T + WARN_US, a batch still FILLING raises the low-water alarm. -/
  | tundishWarn (tundish : Nat) (ref : Nat)
  /-- ENCODE_AU_COMPLETE (R425): An encoded access unit is written to the session ring. -/
  | encodeAuComplete (session : Nat) (irap : Bool) (room : Bool) (data : List Byte)
  /-- RECEIVE_FRAME (R457): A frame that matches a receive map writes its signal slot. -/
  | receiveFrame (medium : Nat) (port : Nat) (vlan : Nat) (id : Nat) (mac : Nat) (time : Nat) (payload : List Byte)
  /-- LOOP_SAMPLE (R462): A loop channel computes at its sample instant. -/
  | loopSample (channel : Nat)
  /-- LOOP_OUTPUT_INSTANT (R458): Transmit frames are queued at a loop's output instant. -/
  | loopOutputInstant (channel : Nat)
  /-- FF_TABLE_SWITCH (R469): The table copies exchange at the switch instant. -/
  | ffTableSwitch (table : Nat)
  /-- GATE_CYCLE_START (R459): A staged gate list takes effect at a cycle start. -/
  | gateCycleStart (port : Nat)
  /-- ROUTE_PREFETCH_TICK (R318): Every 100 ms, the prefetcher projects the position and works out the wanted set. -/
  | routePrefetchTick
  /-- TILE_BLOCK_FETCHED (R319): A fetched tile block is CRC-checked and staged. -/
  | tileBlockFetched (table : Nat) (key : Nat) (good : Bool)
  /-- RADIUS_MODE (R320): The position stays off the route, or back on it, for 2 s, and the prefetcher changes mode. -/
  | radiusMode (radius : Bool)
  /-- PROJECTION_BUILD_COMPLETE (R434): Rebuilding of a set's projection tables completes. -/
  | projectionBuildComplete
  /-- IMAGE_WRITE_COMPLETE (R586): An image write finishes and its verification marks the bank verified or FAILED. -/
  | imageWriteComplete (component : Nat)
  /-- KEYSTONE_RESTART (R588): Keystone restarts on its new bank, and its trial passes or fails. -/
  | keystoneRestart (verifies : Bool) (passes : Bool)
  /-- EPOCH_START (R521): Every 50 µs, the effective budget is turned into credits and granted. -/
  | epochStart (r : EpochReading)
  /-- THERMAL_LIMIT (R538): A group stays at its limit for 1 ms and takes the action at limit. -/
  | thermalLimit (group : Nat)
  /-- STRETCH_REQUEST_FALL (R532): After 2,000 epochs below the request in force, the request falls. -/
  | stretchRequestFall
  /-- MODEL_DRIFT (R541): The energy model deviates by more than 10 % for 10 s. -/
  | modelDrift
  /-- COEFF_BANK_SWITCH (R542): The coefficient banks exchange at an epoch start. -/
  | coeffBankSwitch
  /-- STRETCH_NOTICE (R487): A member's stretch notice arrives and the factor in force is worked out again. -/
  | stretchNotice (member : Nat) (request : Nat) (time : Nat)
  /-- STRETCH_BOUNDARY (R488): A new stretch factor takes effect at a flask's stretch boundary. -/
  | stretchBoundary (flask : Nat)
  /-- HELLO (R498): A hello is received and member states move. -/
  | hello (port : Nat) (member : Nat) (trussId : Nat) (moduleId : Nat) (hops : Nat)
  /-- HELLO_TIMEOUT (R498): 30 ms without a hello moves the member to ABSENT. -/
  | helloTimeout (member : Nat)
  /-- HELLO_SEND (R498): Every 10 ms, a hello is sent on each port. -/
  | helloSend
  /-- LEAVE_MESSAGE (R497): A leave message moves its sender to ABSENT. -/
  | leaveMessage (member : Nat)
  /-- TIME_MESSAGE (R502): A peer time message is compared, and may start a follow. -/
  | timeMessage (port : Nat) (offset : Int) (tbState : Nat) (traceable : Bool) (err : Nat)
  /-- TIME_FOLLOW_TIMEOUT (R502): A follow that has not settled after 10 s drops the pair with reason TIME. -/
  | timeFollowTimeout
  /-- CONFIGURATION_DIGEST (R501): A member's configuration digest arrives and is compared. -/
  | configurationDigest (member : Nat) (digest : ConfigDigest)
  /-- CONFIGURATION_DIGEST_SEND (R499): The digest is sent every 1 s or after a change. -/
  | configurationDigestSend
  /-- SIGNATURE_MESSAGE (R507): The partner's span signatures arrive and are compared. -/
  | signatureMessage (member : Nat) (flask : Nat) (span : Nat) (sigs : List (Nat × Nat))
  /-- SIGNATURE_TIMEOUT (R507): Signatures missing 50 µs after the boundary drop the pair as PEER_SILENT. -/
  | signatureTimeout (flask : Nat) (span : Nat)
  /-- PAIR_TIMEOUT (R504): The partner's PAIR_MODULES did not come within 1 s. -/
  | pairTimeout
  /-- COMPARISON_START (R505): Comparison of a flask begins at a period start. -/
  | comparisonStart (flask : Nat)
  /-- AETHEOLINK_LANE_FAILURE (R494): A lane fails and the port retrains. -/
  | aetheolinkLaneFailure (port : Nat) (lane : Nat)
  /-- RETRAIN_COMPLETE (R494): An AetheoLink port finishes retraining. -/
  | retrainComplete (port : Nat)
  /-- APERTURE_WRITE (R510): A truss copy into this module's aperture completes and the counter rises. -/
  | apertureWrite (member : Nat) (aperture : Nat) (offset : Nat) (bytes : List Byte)
  /-- SAFE_STATE_NOTICE (R551): The safe-state notice is repeated every 100 ms. -/
  | safeStateNotice
  /-- KEYSTONE_HALF_MISMATCH (R547): A mismatch between the halves, a RAM error or a VKS fault stops Keystone. -/
  | keystoneHalfMismatch
  /-- PARTITION_AUDIT (R559): Every 1 ms, Keystone compares the owner tags with its copy. -/
  | partitionAudit (tags : List (Nat × Nat × Holdings))
  /-- TRANSLATION_AUDIT (R560): Every 10 ms, the CRCs of the locked entries are compared. -/
  | translationAudit (read : List (Nat × BitVec 64))
  /-- DUPLEX_CHECK (R563): The checkers compare the halves' signatures after both complete. -/
  | duplexCheck (flask : Nat) (job : Nat) (step : Nat) (d : Duplex)
  /-- SLACK_RERUN_COMPLETE (R564): A slack re-run completes and votes 2-of-3. -/
  | slackRerunComplete (flask : Nat) (job : Nat) (step : Nat) (sig : BitVec 64)
  /-- SLACK_WINDOW_END (R564): The slack window ends without a vote, so the vote fails. -/
  | slackWindowEnd (flask : Nat) (job : Nat) (step : Nat)
  /-- CHECKER_TEST (R568): Every DIAG_MS, Keystone tests a C3 flask's checkers. -/
  | checkerTest (flask : Nat) (checker : Nat) (found : Bool)
  /-- EOI_EXPIRY (R569): A C3 flask still SIMPLEX after EOI_S causes C3_SIMPLEX. -/
  | eoiExpiry (flask : Nat)
  /-- RESULT_STALE (R571): A STALE_CHECK class passes its age limit without a VALID result. -/
  | resultStale (cls : Nat)
  /-- CLOCK_FAULT (R575): A hub or timebase oscillator drifts outside its bound against Keystone's. -/
  | clockFault (hub : Bool)
  /-- VIADUCT_LANE_FAILURE (R20): A viaduct link lane fails or crosses its CRC-retry limit and is replaced by a spare, or the link drops to half width on a fifth failure. -/
  | viaductLaneFailure (link : Nat) (lane : Nat)
  /-- ETHERNET_LINK_UP (R624): An enabled Ethernet link finishes training and comes up, which lets gPTP sources qualify, point streams receive and the CONFIGURE_PORT reply complete. -/
  | ethernetLinkUp (port : Nat)
  /-- ETHERNET_LINK_DOWN (R624): An Ethernet link drops, or fails to train within 100 ms, so its sources lose qualification and its streams, transmit frames and diagnostic service stop. -/
  | ethernetLinkDown (port : Nat)
  /-- IBC_REGULATION_LOSS (R89): One IBC stops regulating in operation, which caps the budget at 250 W, possibly entering Limp; both failing acts as loss of VIN. -/
  | ibcRegulationLoss (ibc : Nat)
  /-- TILE_TASK_COMPLETE (R175): An FK2 tile task finishes on its core, which frees the core for the next dispatch and lowers the outstanding count. -/
  | tileTaskComplete (flask : Nat) (core : Nat × Nat)
  /-- TRANSMIT_FRAME_SENT (R458): A queued transmit-map frame wins CAN XL arbitration or finds its 802.1Qbv gate open and is sent. -/
  | transmitFrameSent (map : Nat)
  /-- SRIOV_VF_ENABLE (R137): The host enables or disables virtual functions through SR-IOV, which changes NUM_VF and whether a function can be granted or reach its BAR. -/
  | sriovVfEnable (numVf : Nat)
  /-- PCIE_LINK_DEGRADED (R110): The PCIe link retrains to a lower rate or width while staying up, which updates LINK_SPEED and LINK_WIDTH and raises the LINK cause. -/
  | pcieLinkDegraded (speed : Nat) (width : Nat)
  /-- ENERGY_SUITE_COMPLETE (R598): The CALIBRATE_ENERGY activity suite finishes, up to 2 s after take-up, and writes its coefficient record and final reply. -/
  | energySuiteComplete (events : List Nat) (leak : List (Nat × List Nat))
  /-- QP_SYMBOLIC_FACTOR_COMPLETE (R473): The symbolic factor of a new resident problem is built, the problem exists and CREATE_QP gives its final reply. -/
  | qpSymbolicFactorComplete (problem : Nat)
  /-- MAP_TILE_WRITE_COMPLETE (R315): The tile blocks of a WRITE_MAP_TILES reach T3 and the inactive directory, and the command gives its final reply. -/
  | mapTileWriteComplete (table : Nat)
deriving DecidableEq, Repr

end Sys2Proof
end

