-- ==== Sys2Proof/Decode.lean ====
section
/-!
DEFINITION. The command that a word spells by the bits of spec/opcode_table.json. The table gives no row any bits (every row's
list of fields is empty): commands reach the block as packets, accesses and events, not as words.
-/

namespace Sys2Proof

/-- No row of the table gives bits, so no word spells a command. [log 1 DESIGN CHOICE] -/
def decodeTableWord (_nbits _w : Nat) : Option Instr := none

end Sys2Proof
end

