-- ==== Sys2Proof/Machine/State.lean ====
section
/-!
DEFINITION. The state of the FK4 module as a block: every register, queue, table, counter, mode and pin the spec
gives it, and the queue of commands that wait, first in, first out. Plain data.
-/

namespace Sys2Proof.Machine

/-- Why the block stops with a fault. No meaning of this model answers one: the manual gives every event
and every command an effect, and a state without a row in a table stays as it is (00_scope.md, "Wording"). [log 4 DEDUCED] -/
inductive Fault where
  /-- raised by nothing: kept so that the type is not empty; safe -/
  | none
deriving DecidableEq, Repr

/-- Why a command has no meaning here. -/
inductive Refusal where
  /-- raised by an arm of `exec` whose command has no meaning yet; safe -/
  | notModelled (mnemonic : String)
deriving DecidableEq, Repr

/-- The machine. `now` is the timebase in TAI nanoseconds (R374). -/
structure State where
  fuses : Fuses := {}
  lines : Lines := {}
  sup : Supply := {}
  host : HostIf := HostIf.atReset
  ex : Exec := {}
  pa : Power := {}
  safe : Safe := {}
  svc : Service := {}
  mem : Tiers := {}
  ta : Tensor := {}
  tb : TimeBlock := {}
  ing : Ingest := {}
  sp : Spatial := {}
  ctl : Control := {}
  truss : Truss := {}
  now : Nat := 0
  /-- host memory, by 64-bit address; an unlisted byte reads 0 -/
  hostMem : List Host.Cell := []
  /-- free values drawn so far (the model's own counter) -/
  drawn : Nat := 0
  pending : List Instr := []
deriving DecidableEq, Repr

/-- The machine right after reset: the keep-alive domain runs, the module is in Standby (Table 2.8).
[log 10 DESIGN CHOICE, 11 DESIGN CHOICE, 12 DESIGN CHOICE] -/
def State.reset : State := { safe := { sources := ErrSource.defaults, selfTestOk := true } }

end Sys2Proof.Machine
end

