-- ==== Sys2Proof/Machine/Ops.lean ====
section
/-!
DEFINITION. The named operations that the meanings share: sparse tables, memories, attention, replies,
the take-up of a command packet.
-/

namespace Sys2Proof

/-- What a table holds at `k`; `d` is its resting row. -/
def Tab.get {α : Type} (d : α) : Tab α → Nat → α
  | [], _ => d
  | (a, x) :: r, k => if k = a then x else Tab.get d r k

/-- A table with a row put at its place, numbers rising. -/
def Tab.put {α : Type} : Tab α → Nat → α → Tab α
  | [], k, v => [(k, v)]
  | (a, x) :: r, k, v =>
    if k < a then (k, v) :: (a, x) :: r
    else if k = a then (k, v) :: r
    else (a, x) :: Tab.put r k v

/-- A table without its row at `k`. -/
def Tab.del {α : Type} : Tab α → Nat → Tab α
  | [], _ => []
  | (a, x) :: r, k => if k = a then r else (a, x) :: Tab.del r k

/-- A table with `v` at `k`; a resting row is not listed. -/
def Tab.set {α : Type} [DecidableEq α] (d : α) (t : Tab α) (k : Nat) (v : α) : Tab α :=
  if v = d then Tab.del t k else Tab.put t k v

/-- The canonical form: numbers strictly rising and no resting row. -/
def Tab.wf {α : Type} [DecidableEq α] (d : α) : Tab α → Bool
  | [] => true
  | [(_, x)] => decide (x ≠ d)
  | (a, x) :: (b, y) :: r => decide (x ≠ d) && decide (a < b) && Tab.wf d ((b, y) :: r)

/-- The lowest number below `n` at which the table's row satisfies `f`, counting from `k`. -/
def lowest (f : Nat → Bool) : Nat → Nat → Option Nat
  | 0, _ => none
  | n + 1, k => if f k then some k else lowest f n (k + 1)

/-- A memory: bytes by address, an unlisted byte reads 0. -/
abbrev Memory := List Host.Cell

/-- The canonical form of a memory: addresses strictly rising, no listed byte equal to 0. -/
def Memory.wf (m : Memory) : Bool := Tab.wf (0 : Byte) m

/-- The byte at an address. [log 9 DESIGN CHOICE] -/
def Memory.byte (m : Memory) (a : Nat) : Byte := Tab.get (0 : Byte) m a

/-- Writes one byte. -/
def Memory.setByte (m : Memory) (a : Nat) (b : Byte) : Memory := Tab.set (0 : Byte) m a b

/-- Reads `n` bytes from an address up. -/
def Memory.read (m : Memory) (a : Nat) : Nat → List Byte
  | 0 => []
  | n + 1 => m.byte a :: Memory.read m (a + 1) n

/-- Writes bytes from an address up. -/
def Memory.write (m : Memory) (a : Nat) : List Byte → Memory
  | [] => m
  | b :: bs => Memory.write (m.setByte a b) (a + 1) bs

/-! ### Parameter bytes of a packet -/

/-- Byte `o` of the packet's parameters, `o` counted from the packet's start; bytes from 12 + PARAM_LEN
on are zero whatever they hold (R123). -/
def Packet.u8 (p : Packet) (o : Nat) : Nat :=
  if o < 12 + p.paramLen.toNat then (p.params.getD (o - 12) 0).toNat else 0

def Packet.u16 (p : Packet) (o : Nat) : Nat := p.u8 o + 256 * p.u8 (o + 1)
def Packet.u32 (p : Packet) (o : Nat) : Nat := p.u16 o + 65536 * p.u16 (o + 2)
def Packet.u48 (p : Packet) (o : Nat) : Nat := p.u32 o + 2 ^ 32 * p.u16 (o + 4)
def Packet.u64 (p : Packet) (o : Nat) : Nat := p.u32 o + 2 ^ 32 * p.u32 (o + 4)

/-- Are bytes `o` to `o + n - 1` all zero? -/
def Packet.zeros (p : Packet) (o n : Nat) : Bool := (List.range n).all fun k => p.u8 (o + k) = 0

namespace Machine

/-! ### Rows of the state's tables -/

def State.ctx (s : State) (c : Nat) : Ctx := Tab.get Ctx.rest s.host.ctxs c
def State.setCtx (s : State) (c : Nat) (x : Ctx) : State :=
  { s with host := { s.host with ctxs := Tab.set Ctx.rest s.host.ctxs c x } }
def State.fn (s : State) (f : Nat) : Fn := Tab.get Fn.rest s.host.fns f
def State.setFn (s : State) (f : Nat) (x : Fn) : State :=
  { s with host := { s.host with fns := Tab.set Fn.rest s.host.fns f x } }
def State.die (s : State) (n : Nat) : Die := Tab.get Die.rest s.sup.dies n
def State.setDie (s : State) (n : Nat) (x : Die) : State :=
  { s with sup := { s.sup with dies := Tab.set Die.rest s.sup.dies n x } }
def State.flask (s : State) (f : Nat) : Flask := Tab.get Flask.rest s.ex.flasks f
def State.setFlask (s : State) (f : Nat) (x : Flask) : State :=
  { s with ex := { s.ex with flasks := Tab.set Flask.rest s.ex.flasks f x } }
def State.job (s : State) (j : Nat) : Job := Tab.get Job.rest s.ex.jobs j
def State.setJob (s : State) (j : Nat) (x : Job) : State :=
  { s with ex := { s.ex with jobs := Tab.set Job.rest s.ex.jobs j x } }
def State.sync (s : State) (o : Nat) : Sync := Tab.get Sync.rest s.ex.syncs o
def State.setSync (s : State) (o : Nat) (x : Sync) : State :=
  { s with ex := { s.ex with syncs := Tab.set Sync.rest s.ex.syncs o x } }
/-- Queues are numbered engine code × 64 + queue. -/
def State.queue (s : State) (e q : Nat) : Queue := Tab.get Queue.rest s.ex.queues (64 * e + q)
def State.setQueue (s : State) (e q : Nat) (x : Queue) : State :=
  { s with ex := { s.ex with queues := Tab.set Queue.rest s.ex.queues (64 * e + q) x } }
def State.diePower (s : State) (n : Nat) : DiePower := Tab.get DiePower.rest s.pa.dies n
def State.setDiePower (s : State) (n : Nat) (x : DiePower) : State :=
  { s with pa := { s.pa with dies := Tab.set DiePower.rest s.pa.dies n x } }
def State.flaskPower (s : State) (f : Nat) : FlaskPower := Tab.get FlaskPower.rest s.pa.flasks f
def State.setFlaskPower (s : State) (f : Nat) (x : FlaskPower) : State :=
  { s with pa := { s.pa with flasks := Tab.set FlaskPower.rest s.pa.flasks f x } }
def State.c3 (s : State) (f : Nat) : C3 := Tab.get C3.rest s.safe.c3 f
def State.setC3 (s : State) (f : Nat) (x : C3) : State :=
  { s with safe := { s.safe with c3 := Tab.set C3.rest s.safe.c3 f x } }
def State.rclass (s : State) (c : Nat) : RClass := Tab.get RClass.rest s.safe.classes c
def State.setRclass (s : State) (c : Nat) (x : RClass) : State :=
  { s with safe := { s.safe with classes := Tab.set RClass.rest s.safe.classes c x } }
def State.comp (s : State) (k : Nat) : Component := Tab.get Component.rest s.svc.comps k
def State.setComp (s : State) (k : Nat) (x : Component) : State :=
  { s with svc := { s.svc with comps := Tab.set Component.rest s.svc.comps k x } }

/-! ### Attention (R142 to R145) -/

/-- No context concerned (R144). -/
def noCtx : Nat := 0x3FF

/-- STATE of SIGNAL_STATUS (Table 2.8). -/
def State.stateCode (s : State) : Nat :=
  match s.lines.run with
  | .off => 0
  | .standby => 1
  | .startUp => 2
  | .running => if s.safe.safeState then 4 else 3

/-- ATTN_CAUSE with its mirror bits (Table 4.12, R143). -/
def State.causeWord (s : State) : BitVec 16 :=
  s.host.cause ||| (if s.lines.fault ≠ 0 then 2 else 0) ||| (if s.stateCode = 4 then 4 else 0)

/-- A cause is pending (R142). -/
def State.attnPending (s : State) : Bool := decide (s.causeWord &&& s.host.mask ≠ 0)

/-- Brings the lines that follow other state to their level: HOST_ATTN_N with vector 0 at its
assertion (R64, R142), MGMT_ALERT_N released when SIGNAL_FAULT is clear (R65). [log 8 DESIGN CHOICE] -/
def settle (s : State) : State :=
  let level := (s.attnPending && s.host.hostRdy) || s.lines.lockdown
  let irqs := if level && !s.host.attnLine && s.host.hostRdy then s.host.attnIrqs + 1 else s.host.attnIrqs
  { s with
    host := { s.host with attnLine := level, attnIrqs := irqs }
    lines := { s.lines with alert := s.lines.alert && decide (s.lines.fault ≠ 0) } }

/-- A step that goes on. [log 4 DEDUCED] -/
def next (s : State) : Host.Outcome State Fault Refusal := .next (settle s)

/-- Adds an entry to the attention log of 64 entries (R144). -/
def pushLog (e : AttnEntry) (s : State) : State :=
  if s.host.log.length < 64 then { s with host := { s.host with log := s.host.log ++ [e] } }
  else { s with host := { s.host with log := s.host.log.drop 1 ++ [e], overflow := true } }

/-- Sets bit `b` of a context's event word; its vector is due (R145). -/
def setEvent (c b : Nat) (s : State) : State :=
  let x := s.ctx c
  if x.state = .free then s
  else s.setCtx c { x with event := x.event ||| BitVec.ofNat 32 (2 ^ b), irqPending := true }

/-- An event that sets cause `b`, named by `area` and `detail` (R144). -/
def attn (b area detail : Nat) (s : State) : State :=
  pushLog ⟨s.now, b, area, detail, noCtx, 0⟩
    { s with host := { s.host with cause := s.host.cause ||| BitVec.ofNat 16 (2 ^ b) } }

/-- As `attn`, for an event that concerns context `c`, whose event word gets the cause's bit (R145). -/
def attnCtx (b area detail c : Nat) (s : State) : State :=
  setEvent c b (pushLog ⟨s.now, b, area, detail, c, 0⟩
    { s with host := { s.host with cause := s.host.cause ||| BitVec.ofNat 16 (2 ^ b) } })

/-- An event of a chapter's own bit (16 to 31) of a context's event word: CONTEXT_EVENT (R145, R615). -/
def ctxEvent (c b area detail : Nat) (s : State) : State :=
  setEvent c b (pushLog ⟨s.now, 13, area, detail, c, 0⟩
    { s with host := { s.host with cause := s.host.cause ||| BitVec.ofNat 16 (2 ^ 13) } })

/-- A bit of SIGNAL_FAULT becomes set: an attention cause, and MGMT_ALERT_N is asserted (R65, R67). -/
def setFault (b : Nat) (s : State) : State :=
  let was := s.lines.fault.getLsbD b
  let s := { s with lines := { s.lines with
    fault := s.lines.fault ||| BitVec.ofNat 8 (2 ^ b), alert := s.lines.alert || !was } }
  pushLog ⟨s.now, 1, 0, b, noCtx, 0⟩ s

/-- Adds an entry to the service log of 4,096 entries (R599). -/
def serviceLog (e : ServiceEntry) (s : State) : State :=
  let l := if s.svc.log.length < 4096 then s.svc.log else s.svc.log.drop 1
  { s with svc := { s.svc with log := l ++ [e], logWritten := s.svc.logWritten + 1 } }

/-- Adds an entry to the development trace ring: kind 1 a result, 2 an issue, 3 a completion, 4 a commit, 5 an epoch (R602).
[log 116 DEDUCED] -/
def traceNote (kind a b : Nat) (s : State) : State :=
  if s.svc.traceOn then { s with svc := { s.svc with trace := s.svc.trace ++ [(kind, a, b)] } } else s

/-- Adds an entry to the safety log of 64 entries (R582). -/
def safetyLog (area detail flask cls : Nat) (s : State) : State :=
  let l := if s.safe.log.length < 64 then s.safe.log else s.safe.log.drop 1
  { s with safe := { s.safe with log := l ++ [⟨s.now, area, detail, flask, cls, s.stateCode⟩] } }

/-- A lasting fault: its cause, and the service log (R364, Table 18.4). -/
def lastingFault (area detail who unit : Nat) (s : State) : State :=
  serviceLog { time := s.now, kind := 1, area := area, detail := detail, who := who, unit := unit }
    (attn 3 area detail s)

/-- Enters a unit in the retirement record of 65,536 entries; a full record sets RECORD_FULL and raises
LASTING_FAULT (R597). -/
def retire (kind unit index : Nat) (s : State) : State :=
  if s.sup.record.length < 65536 then
    serviceLog { time := s.now, kind := 2, who := unit, unit := index }
      { s with sup := { s.sup with record := s.sup.record ++ [⟨kind, unit, index, s.now⟩] } }
  else attn 3 0x0B 0 { s with sup := { s.sup with recordFull := true, outNow := s.sup.outNow ++ [⟨kind, unit, index, s.now⟩] } }

/-- The units out of service: those of the retirement record and those out for the present run (R596, R597).
[log 115 DEDUCED] -/
def State.outUnits (s : State) : List Retired := s.sup.record ++ s.sup.outNow

/-- Is a unit retired? -/
def State.isRetired (s : State) (kind unit index : Nat) : Bool :=
  s.outUnits.any fun r => decide (r.kind = kind ∧ r.unit = unit ∧ r.index = index)

/-! ### Replies (R118, R124, R125, R131, R140) -/

/-- Replies reach the host: the rings are attached and the context runs or closes. -/
def Ctx.hearing (x : Ctx) : Bool := x.enable && (x.state = .opened || x.state = .closing)

/-- Writes the mirror of a context: SQ head, CQ tail, a count that rises by one (R118). [log 8 DESIGN CHOICE] -/
def writeMirror (c : Nat) (s : State) : State :=
  let x := s.ctx c
  let n := x.mirrorCount + 1
  let bytes := leBytes 2 x.sqHead ++ leBytes 2 x.cqTail ++ leBytes 4 n.toNat
  { s.setCtx c { x with mirrorCount := n } with hostMem := Memory.write s.hostMem x.ring.mirror bytes }

/-- The 32 bytes of a status reply (Table 4.5). [log 8 DESIGN CHOICE] -/
def replyBytes (seq : BitVec 32) (cls area detail : Nat) (ret : List Byte) : List Byte :=
  (leBytes 4 seq.toNat ++ leBytes 1 cls ++ leBytes 1 area ++ leBytes 1 detail ++ [0] ++ ret
    ++ List.replicate 24 0).take 32

/-- Writes a reply into the completion ring and then the mirror; a reply that has no ring to go to is
discarded and counted in DROPPED (R140). [log 8 DESIGN CHOICE] -/
def post (c : Nat) (seq : BitVec 32) (quiet : Bool) (cls area detail : Nat) (ret : List Byte) (s : State) :
    State :=
  let x := s.ctx c
  if x.hearing then
    let n := 2 ^ x.ring.cqOrder
    let y := { x with cqTail := (x.cqTail + 1) % n, irqPending := x.irqPending || !quiet }
    writeMirror c { s.setCtx c y with
      hostMem := Memory.write s.hostMem (x.ring.cqBase + 32 * x.cqTail) (replyBytes seq cls area detail ret) }
  else if x.state = .free then s
  else s.setCtx c { x with dropped := satInc x.dropped }

/-- The final reply of a command in flight (R125). -/
def finish (t : Ticket) (cls area detail : Nat) (ret : List Byte) (s : State) : State :=
  let x := s.ctx t.ctx
  match x.inFlight.find? (fun u => decide (u.uid = t.uid)) with
  | none => s
  | some u =>
    let y := { x with inFlight := x.inFlight.filter (fun u => decide (u.uid ≠ t.uid)) }
    if u.lost then s.setCtx t.ctx { y with dropped := satInc y.dropped }
    else post t.ctx t.seq t.quiet cls area detail ret (s.setCtx t.ctx y)

/-- Final reply OK without return values. -/
def finishOk (t : Ticket) (s : State) : State := finish t 0 (t.opcode / 256) 0 [] s

/-- Final reply for a command that may or may not wait. -/
def finishOpt (t : Option Ticket) (cls area detail : Nat) (ret : List Byte) (s : State) : State :=
  match t with
  | none => s
  | some t => finish t cls area detail ret s

/-! ### Taking up a packet (R121 to R127) -/

/-- What an opcode's own part answers: refused without effect, done with a final reply, or accepted with the
final reply to come. -/
inductive Answer where
  | reject (area detail : Nat)
  | done (s : State) (cls area detail : Nat) (ret : List Byte)
  | later (s : State)

/-- Done with class OK and return values from byte 8. -/
def ok (s : State) (ret : List Byte := []) : Answer := .done s 0 0 0 ret

/-- A reserved value in a parameter field (R16, R123). -/
def reserved : Answer := .reject 1 2
/-- NOT_PERMITTED (Table 4.18). -/
def notPermitted : Answer := .reject 1 7

/-- The function that owns the context whose ring holds the packet. -/
def State.sender (s : State) (p : Packet) : Nat := (s.ctx p.ring).fn

/-- The sender may use an opcode (R113, R608). -/
def State.permits (s : State) (p : Packet) (opcode : Nat) (pfOnly : Bool) : Bool :=
  let f := s.sender p
  if f = 0 then true
  else !pfOnly && (opcode / 256 < 2 || ((s.fn f).granted && (s.fn f).areas.getLsbD (opcode / 256)))

/-- Replies written and not yet consumed, U of R127. -/
def Ctx.unread (x : Ctx) : Nat :=
  let n := 2 ^ x.ring.cqOrder
  (x.cqTail + n - x.cqHead) % n

/-- Reply slots held for packets in flight, V of R127. -/
def Ctx.slots (x : Ctx) : Nat := x.inFlight.foldl (fun k t => k + if t.lost then 0 else if t.interim then 1 else 2) 0

/-- R127: the next packet of the context may be taken up. [log 5 DESIGN CHOICE] -/
def Ctx.mayTake (x : Ctx) (fence : Bool) : Bool :=
  decide (x.state = .opened) && decide (x.sqHead ≠ x.sqTail) && decide (x.inFlight.length < 128)
    && (!fence || x.inFlight.isEmpty)
    && decide (x.unread + x.slots + 2 ≤ 2 ^ x.ring.cqOrder - 1)

/-- The check of Table 4.4 that fails first, with its detail code. [log 6 DEDUCED] -/
def State.packetCheck (s : State) (p : Packet) (opcode : Nat) (known : Bool) (least : Nat) (pfOnly : Bool) :
    Option Nat :=
  let x := s.ctx p.ring
  if p.context.toNat % 1024 ≠ p.ring then some 4
  else if p.seq ≠ x.expSeq then some (if p.seq + 1 = x.expSeq then 6 else 5)
  else if p.byte3 ≠ 0 ∨ p.flags.toNat / 4 ≠ 0 ∨ p.context.toNat / 1024 ≠ 0 then some 2
  else if !known then some 1
  else if 52 < p.paramLen.toNat ∨ p.paramLen.toNat < least then some 3
  else if !s.permits p opcode pfOnly then some 7
  else none

/-- The return values of a reply refused by a check of Table 4.4 (R126). -/
def refusalReturn (p : Packet) (opcode : Nat) (x : Ctx) : List Byte :=
  leBytes 2 opcode ++ leBytes 1 p.flags.toNat ++ [0] ++ leBytes 4 x.expSeq.toNat ++ leBytes 2 p.ring

/-- Take-up: the SQ head of context `c` moves on by one, and the expected sequence number where `bump` is set (R122, R127).
[log 5 DESIGN CHOICE] -/
def moveHead (c : Nat) (bump : Bool) (s : State) : State :=
  let x := s.ctx c
  let s1 := s.setCtx c { x with
    sqHead := (x.sqHead + 1) % 2 ^ x.ring.sqOrder, expSeq := if bump then x.expSeq + 1 else x.expSeq }
  { s1 with host := { s1.host with taken := s1.host.taken + 1 } }

/-- The state after the take-up of a packet that passes every check. [log 5 DESIGN CHOICE] -/
def State.taken (s : State) (p : Packet) : State := moveHead p.ring true s

/-- The command in flight that a packet becomes. -/
def State.ticketOf (s : State) (p : Packet) (opcode : Nat) : Ticket :=
  { ctx := p.ring, uid := s.host.taken, seq := p.seq, opcode := opcode, quiet := p.flags.getLsbD 1 }

/-- The final reply of a packet. -/
def replyTo (p : Packet) (cls area detail : Nat) (ret : List Byte) (s : State) : State :=
  post p.ring p.seq (p.flags.getLsbD 1) cls area detail ret s

/-- The command stays in flight: its final reply comes later (R125). -/
def waitReply (t : Ticket) (s : State) : State :=
  let z := s.ctx t.ctx
  writeMirror t.ctx (s.setCtx t.ctx { z with inFlight := z.inFlight ++ [t] })

/-- What becomes of a packet by its opcode's answer; `s` is the state after its take-up. -/
def giveAnswer (p : Packet) (t : Ticket) (s : State) : Answer → State
  | .reject a d => replyTo p 3 a d [] s
  | .done s2 cls a d ret => replyTo p cls (if d = 0 then t.opcode / 256 else a) d ret s2
  | .later s2 => waitReply t s2

/-- A packet refused by the check of Table 4.4 with detail `d`: taken up, the expected sequence number rising only where the
packet was the expected one, and answered REJECTED with what R126 returns. -/
def refuseTaken (p : Packet) (opcode d : Nat) (s : State) : State :=
  let s1 := moveHead p.ring (d ≠ 4 ∧ d ≠ 5 ∧ d ≠ 6) s
  replyTo p 3 1 d (refusalReturn p opcode (s1.ctx p.ring)) s1

/-- Takes up the packet at the SQ head of its ring: the conditions of R127, the checks of Table 4.4 in order,
then the opcode's own part `body`. A packet that cannot be taken up waits. [log 5 DESIGN CHOICE, 6 DEDUCED] -/
def takeUp (opcode least : Nat) (known pfOnly : Bool) (p : Packet) (s : State)
    (body : State → Ticket → Answer) : State :=
  if !s.host.hostRdy || !(s.ctx p.ring).mayTake (p.flags.getLsbD 0) then s
  else match s.packetCheck p opcode known least pfOnly with
    | some d => refuseTaken p opcode d s
    | none => giveAnswer p (s.ticketOf p opcode) (s.taken p) (body (s.taken p) (s.ticketOf p opcode))

/-- The packet may be taken up and passes every check of Table 4.4 (R121, R127). -/
def State.passes (s : State) (p : Packet) (opcode least : Nat) (pfOnly : Bool) : Bool :=
  s.host.hostRdy && (s.ctx p.ring).mayTake (p.flags.getLsbD 0) && (s.packetCheck p opcode true least pfOnly).isNone

/-- A command packet of a defined opcode: `least` is its minimum PARAM_LEN, `pfOnly` whether only the
privileged physical function may send it. -/
def command (opcode least : Nat) (pfOnly : Bool) (p : Packet) (s : State) (body : State → Ticket → Answer) :
    Host.Outcome State Fault Refusal :=
  next (takeUp opcode least true pfOnly p s body)

/-- As `command`, for a command whose acceptance lets other work of the block go on: `after`. -/
def commandThen (after : State → State) (opcode least : Nat) (pfOnly : Bool) (p : Packet) (s : State)
    (body : State → Ticket → Answer) : Host.Outcome State Fault Refusal :=
  let t := takeUp opcode least true pfOnly p s body
  next (if s.passes p opcode least pfOnly then after t else t)

/-- Reads `n` bytes of a source: 0 host memory. [log 9 DESIGN CHOICE] -/
def State.hostRead (s : State) (a n : Nat) : List Byte := Memory.read s.hostMem a n

/-- Writes bytes to host memory. -/
def State.hostWrite (s : State) (a : Nat) (bs : List Byte) : State :=
  { s with hostMem := Memory.write s.hostMem a bs }

end Machine
end Sys2Proof
end

