-- ==== Sys2Proof/Machine/Pipeline.lean ====
section
/-!
DEFINITION. The camera pipeline (Table 12.3, R406 to R410, R420), point records (R411) and the log tap (R425), as functions of
a record and its input.
-/

namespace Sys2Proof.Machine

/-- A number as FP32, rounded to nearest even. -/
def fOfNat (n : Nat) : Nat := toF32 (Num.ofInt n)

/-- floor of a finite FP32 value. -/
def ffloor (a : Nat) : Int :=
  match f32 a with
  | .fin neg m e =>
    let v : Int := if neg then -(m : Int) else m
    if 0 ≤ e then v * 2 ^ e.toNat else v / 2 ^ (-e).toNat
  | _ => 0

/-! ### PixelLines (R420) -/

abbrev PixelLines := List (Option (List (List Nat)))

/-- RAW data carry one channel; of these, CFA 1 to 4 is a Bayer pattern. -/
def CamRec.raw (r : CamRec) : Bool := decide (0x2A ≤ r.dtype ∧ r.dtype ≤ 0x2E)
def CamRec.bayer (r : CamRec) : Bool := r.raw && decide (1 ≤ r.cfa ∧ r.cfa ≤ 4)

/-- Steps of `st` lines away from a line: the nearest good one. -/
def goodFrom (ls : PixelLines) (st : Int) : Nat → Int → Option Nat
  | 0, _ => none
  | n + 1, y =>
    if y < 0 then none
    else match ls[y.toNat]? with
      | some (some _) => some y.toNat
      | _ => goodFrom ls st n (y + st)

/-- The line that stands for line `y`: itself, the nearest good line above it with the same row phase, else the nearest below. -/
def CamRec.lineFor (r : CamRec) (ls : PixelLines) (y : Nat) : Option Nat :=
  let st : Int := if r.bayer then 2 else 1
  match goodFrom ls (-st) (ls.length + 1) y with
  | some k => some k
  | none => goodFrom ls st (ls.length + 1) y

/-- Every line up to `y` has a line to stand for it. -/
def CamRec.linesUp (r : CamRec) (ls : PixelLines) (n : Nat) : Bool := (List.range n).all fun y => (r.lineFor ls y).isSome

/-- Channel `c` of a source pixel. -/
def CamRec.source (r : CamRec) (ls : PixelLines) (y x c : Nat) : Nat :=
  match r.lineFor ls y with
  | none => 0
  | some k => ((((ls.getD k none).getD []).getD x []).getD c 0)

/-! ### Unpack, Level, Demosaic, Colour -/

/-- Bits of a RAW sample; 8 of the other types. -/
def CamRec.bits (r : CamRec) : Nat := if r.raw then 8 + 2 * (r.dtype - 0x2A) else 8

/-- The Bayer colour of a site: 0 R, 1 G, 2 B, by CFA. -/
def CamRec.colourAt (r : CamRec) (y x : Nat) : Nat :=
  let p := 2 * (y % 2) + x % 2
  match r.cfa with
  | 1 => [0, 1, 1, 2].getD p 0
  | 2 => [1, 0, 2, 1].getD p 0
  | 3 => [1, 2, 0, 1].getD p 0
  | _ => [2, 1, 1, 0].getD p 0

/-- The Level stage of channel `c` of a site. [log 74 DEDUCED] -/
def CamRec.level (r : CamRec) (ls : PixelLines) (y x c : Nat) : Nat :=
  let v : Int := r.source ls y x c % 2 ^ r.bits
  let p := if r.bayer then 2 * (y % 2) + x % 2 else if r.raw then 0 else (Config.levelPhase c).toNat
  fmax 0 (fmul (toF32 (Num.ofInt (v - (r.black.getD p 0 : Int)))) (r.gain.getD p 0))

/-- A coordinate beyond an edge takes the site of the same colour inside it. [log 74 DEDUCED] -/
def mirrored (n : Nat) (v : Int) : Nat :=
  let w : Int := if v < 0 then -v else if (n : Int) ≤ v then 2 * n - 2 - v else v
  min (n - 1) w.toNat

/-- The sites round a site that a missing colour is the mean of, left to right and top to bottom. -/
def CamRec.around (r : CamRec) (y x c : Nat) : List (Nat × Nat) :=
  let at_ := fun (dy dx : Int) => (mirrored r.height (y + dy), mirrored r.width (x + dx))
  let ofColour := fun (l : List (Int × Int)) => l.filter fun (d : Int × Int) =>
    r.colourAt ((y : Int) + d.1 + 2).toNat ((x : Int) + d.2 + 2).toNat = c
  let near := ofColour [(-1, 0), (0, -1), (0, 1), (1, 0)]
  let ds := if near.isEmpty then ofColour [(-1, -1), (-1, 1), (1, -1), (1, 1)] else near
  ds.map fun (d : Int × Int) => at_ d.1 d.2

/-- The Demosaic stage. -/
def CamRec.demosaic (r : CamRec) (ls : PixelLines) (y x c : Nat) : Nat :=
  if r.colourAt y x = c then r.level ls y x 0
  else
    let vs := (r.around y x c).map fun (q : Nat × Nat) => r.level ls q.1 q.2 0
    fmul (match vs with | [] => 0 | v :: vs => vs.foldl fadd v) (if vs.length = 2 then 0x3F000000 else 0x3E800000)

/-- The input of the Colour stage: a decoded picture enters here (R423). [log 74 DEDUCED] -/
def CamRec.input (r : CamRec) (ls : PixelLines) (y x c : Nat) : Nat :=
  if r.decoded then fOfNat (r.source ls y x c)
  else if r.bayer then r.demosaic ls y x c
  else if r.raw then (if c = 0 then r.level ls y x 0 else (Config.monoInput c).toNat)
  else r.level ls y x c

/-- A 3 × 3 matrix with offsets: the Colour stage's expression. -/
def matrix3 (m off ins : List Nat) (c : Nat) : Nat :=
  ffma (m.getD (3 * c) 0) (ins.getD 0 0) (ffma (m.getD (3 * c + 1) 0) (ins.getD 1 0)
    (ffma (m.getD (3 * c + 2) 0) (ins.getD 2 0) (off.getD c 0)))

/-- The Colour stage of a source pixel. -/
def CamRec.colour (r : CamRec) (ls : PixelLines) (y x : Nat) : List Nat :=
  let ins := (List.range 3).map (r.input ls y x)
  (List.range 3).map (matrix3 r.m r.off ins)

/-! ### Remap (R408, R409) -/

def flerp (p q w : Nat) : Nat := ffma w (fsub q p) p

/-- Grid points to a row, and rows of the grid. -/
def Remap.cols (t : Remap) : Nat := (t.outW + t.g - 1) / t.g + 1
def Remap.rows (t : Remap) : Nat := (t.outH + t.g - 1) / t.g + 1
def Remap.point (t : Remap) (j i : Nat) : Nat × Nat := t.points.getD (j * t.cols + i) (0, 0)

/-- The largest source line that grid row `j` needs. -/
def Remap.need (t : Remap) (j : Nat) : Nat :=
  let ys := (List.range t.cols).flatMap fun i => [(t.point j i).2, (t.point (j + 1) i).2]
  let top := ys.foldl (fun (k : Int) v => if (f32 v).isFin then max k (ffloor v + 2) else k) 0
  min (t.srcH - 1) top.toNat

/-- A coordinate that FILL stands for whatever BORDER says. -/
def offGrid (a : Nat) : Bool := match f32 a with | .nan => true | v => (Num.fin false 65536 0).lt v.abs

/-- Channel `c` of a source pixel, or what BORDER puts beyond the edges. -/
def CamRec.bordered (r : CamRec) (t : Remap) (ls : PixelLines) (y x : Int) (c : Nat) : Nat :=
  let inside := decide (0 ≤ y ∧ y < r.height ∧ 0 ≤ x ∧ x < r.width)
  if !inside && !t.clamp then r.fill.getD c 0
  else (r.colour ls (min (r.height - 1) (max 0 y).toNat) (min (r.width - 1) (max 0 x).toNat)).getD c 0

/-- The Remap stage of an output pixel's channel. -/
def CamRec.remapped (r : CamRec) (t : Option Remap) (ls : PixelLines) (oy ox c : Nat) : Nat :=
  match t with
  | none => (r.colour ls oy ox).getD c 0
  | some t =>
    let i := ox / t.g
    let j := oy / t.g
    let u := toF32 (.fin false (ox % t.g) (-(Nat.log2 t.g : Int)))
    let v := toF32 (.fin false (oy % t.g) (-(Nat.log2 t.g : Int)))
    let mid := fun (f : Nat × Nat → Nat) =>
      flerp (flerp (f (t.point j i)) (f (t.point j (i + 1))) u) (flerp (f (t.point (j + 1) i)) (f (t.point (j + 1) (i + 1))) u) v
    let sx := mid (·.1)
    let sy := mid (·.2)
    if offGrid sx || offGrid sy then r.fill.getD c 0
    else
      let x0 := ffloor sx
      let y0 := ffloor sy
      let fx := fsub sx (toF32 (Num.ofInt x0))
      let fy := fsub sy (toF32 (Num.ofInt y0))
      let p := fun (y x : Int) => r.bordered t ls y x c
      flerp (flerp (p y0 x0) (p y0 (x0 + 1)) fx) (flerp (p (y0 + 1) x0) (p (y0 + 1) (x0 + 1)) fx) fy

/-! ### Normalise, Convert, Regroup (R407) -/

/-- The output tensor's conversion. -/
def CamRec.desc (r : CamRec) : TDesc :=
  { fmt := Fmt.ofCode r.outFmt, stochastic := r.cvt % 4 = 1, ovf := bitAt r.cvt 2, scale := r.scaleMode, fixedExp := r.fixedExp }

def CamRec.outW (r : CamRec) (t : Option Remap) : Nat := match t with | some t => t.outW | none => r.width
def CamRec.outH (r : CamRec) (t : Option Remap) : Nat := match t with | some t => t.outH | none => r.height

/-- Slices of a frame, and the rows that slice `j` spans. -/
def CamRec.sliceCount (r : CamRec) (t : Option Remap) : Nat := match t with | some t => (r.outH (some t) + t.g - 1) / t.g | none => 1
def CamRec.sliceRows (r : CamRec) (t : Option Remap) (j : Nat) : Nat × Nat :=
  match t with
  | some t => (j * t.g, min t.outH ((j + 1) * t.g))
  | none => (0, r.height)

/-- Source lines that slice `j` needs. -/
def CamRec.sliceNeeds (r : CamRec) (t : Option Remap) (j : Nat) : Nat := match t with | some t => t.need j + 1 | none => r.height

/-- Normalise and convert a value of channel `c` to element `k` of the output. -/
def CamRec.stored (r : CamRec) (c k v : Nat) : Nat × Counts :=
  let y := fmul (fsub v (r.mean.getD c 0)) (r.scale.getD c 0)
  r.desc.store k ((f32 y).shift (-(if r.scaleMode = 1 then r.fixedExp else 0)))

/-- Columns and rows of the regrouped map; its bytes. -/
def CamRec.gridW (r : CamRec) (t : Option Remap) : Nat := (r.outW t + r.b - 1) / r.b
def CamRec.gridH (r : CamRec) (t : Option Remap) : Nat := (r.outH t + r.b - 1) / r.b
def CamRec.outBytes (r : CamRec) (t : Option Remap) : Nat :=
  r.gridW t * r.gridH t * (r.b * r.b * r.outC) * (Fmt.ofCode r.outFmt).bytes

/-- The output of rows `lo` to `hi`, `f` giving the value of a pixel's channel: the offset in the region and the stored
elements, regrouped; a padded position is +0. -/
def CamRec.output (r : CamRec) (t : Option Remap) (lo hi : Nat) (f : Nat → Nat → Nat → Nat) : Nat × List Byte × Counts :=
  let w := r.outW t
  let h := r.outH t
  let g0 := lo / r.b
  let g1 := (hi + r.b - 1) / r.b
  let per := r.b * r.b * r.outC
  let vals := (List.range (g1 - g0)).flatMap fun gy => (List.range (r.gridW t)).flatMap fun gx =>
    (List.range per).map fun k =>
      let c := k % r.outC
      let y := (g0 + gy) * r.b + k / r.outC / r.b
      let x := gx * r.b + k / r.outC % r.b
      if y < h ∧ x < w then r.stored c (((g0 + gy) * r.gridW t + gx) * per + k) (f y x c) else (0, {})
  let n := (Fmt.ofCode r.outFmt).bytes
  (g0 * r.gridW t * per * n, vals.flatMap fun (v : Nat × Counts) => leBytes n v.1
    , vals.foldl (fun (a : Counts) (v : Nat × Counts) => a.add v.2) {})

/-- Slice `j` of a frame. -/
def CamRec.slice (r : CamRec) (t : Option Remap) (ls : PixelLines) (j : Nat) : Nat × List Byte × Counts :=
  let rows := r.sliceRows t j
  r.output t rows.1 rows.2 (r.remapped t ls)

/-- The region of an absent optional member: its fill (Table 12.6). [log 74 DEDUCED] -/
def CamRec.filled (r : CamRec) (t : Option Remap) : List Byte := (r.output t 0 (r.outH t) fun _ _ c => r.fill.getD c 0).2.1

/-! ### Log tap (R425) -/

/-- Sums in order; a mean by a power of two. -/
def fmean (vs : List Nat) : Nat :=
  fmul (match vs with | [] => 0 | v :: vs => vs.foldl fadd v) (toF32 (.fin false 1 (-(Nat.log2 vs.length : Int))))

/-- Rounded to nearest even and clamped to 0 to 1,023. -/
def tapCode (v : Nat) : Nat :=
  match f32 v with
  | .fin false m e => min 1023 (roundInt .nearest m e)
  | .inf false => 1023
  | _ => 0

/-- The tapped picture: the Colour stage downscaled by `d`, through the tap's matrix, chroma averaged over 2 × 2. -/
def CamRec.tapped (r : CamRec) (ls : PixelLines) (d : Nat) (tap : List Nat) : List Nat × List Nat :=
  let w := r.width / d
  let h := r.height / d
  let m := tap.take 9
  let off := tap.drop 9
  let rgb := fun (y x c : Nat) => fmean ((List.range d).flatMap fun dy => (List.range d).map fun dx =>
    (r.colour ls (y * d + dy) (x * d + dx)).getD c 0)
  let ycc := fun (y x c : Nat) => matrix3 m off ((List.range 3).map (rgb y x)) c
  ((List.range h).flatMap fun y => (List.range w).map fun x => tapCode (ycc y x 0)
    , (List.range (h / 2)).flatMap fun y => (List.range (w / 2)).flatMap fun x => [1, 2].map fun c =>
        tapCode (fmean [ycc (2 * y) (2 * x) c, ycc (2 * y) (2 * x + 1) c, ycc (2 * y + 1) (2 * x) c, ycc (2 * y + 1) (2 * x + 1) c]))

/-! ### Points (R411) -/

/-- The number at a field locator in a datagram or point. -/
def Locator.read (l : Locator) (bs : List Byte) : Nat :=
  let b := (bs.drop l.at_).take l.bytes
  leNat (if l.big then b.reverse else b)

/-- raw × scale + offset. -/
def PointField.read (x : PointField) (bs : List Byte) : Nat := fadd (fmul (fOfNat (x.loc.read bs)) x.scale) x.offset

/-- A value rounded to an integer and saturated. -/
def satOf (top v : Nat) : Nat :=
  match f32 v with
  | .fin false m e => min top (roundInt .nearest m e)
  | .inf false => top
  | _ => 0

/-- One point: its azimuth (FP32) and, unless r is 0, its 16 bytes. [log 75 DEDUCED] -/
def PointRec.point (t : PointRec) (bs : List Byte) : Nat × Option (List Byte) :=
  let ch := match t.channel with | some f => f.loc.read bs | none => 0
  let el := match t.channel, t.elevation with
    | some _, _ => (t.channels.getD ch (0, 0)).1
    | none, some f => f.read bs
    | none, none => 0
  let az0 := t.azimuth.read bs
  let az := if t.channel.isSome then fadd az0 (t.channels.getD ch (0, 0)).2 else az0
  let r := t.range.read bs
  let flat := fmul r (fcos el)
  let i := match t.intensity with | some f => satOf 255 (f.read bs) | none => (Config.pointField 0).toNat
  let c := if t.channel.isSome then ch else (Config.pointField 1).toNat
  let o := match t.tOff with | some f => satOf 65535 (f.read bs) | none => (Config.pointField 2).toNat
  (az, if (f32 r).isZero then none
       else some (leBytes 4 (fmul flat (fcos az)) ++ leBytes 4 (fmul flat (fsin az)) ++ leBytes 4 (fmul r (fsin el))
         ++ leBytes 1 i ++ leBytes 1 c ++ leBytes 2 o))

/-- The azimuth passes START_AZ between two points. -/
def passes (start : Nat) (before : Option Nat) (az : Nat) : Bool :=
  match before with
  | none => false
  | some p => (flt p start && !flt az start) || (flt az p && (flt p start || !flt az start))

end Sys2Proof.Machine
end

