-- ==== Sys2Proof/Machine/Geometry.lean ====
section
/-!
DEFINITION. Poses, rotations, alignment and projection as functions of their inputs (spec 13_fusion_tracking_planning.md,
R430 to R438).
-/

namespace Sys2Proof.Machine

/-! ### FP32 helpers -/

def fdiv (a b : Nat) : Nat := (f32 a).divTo .fp32 (f32 b)
def fPi : Nat := 0x40490FDB
def fTwoPi : Nat := 0x40C90FDB
def fHalf : Nat := 0x3F000000
/-- 10^-9 and 10^-6 as FP32. -/
def fNano : Nat := 0x3089705F
def fMicro : Nat := 0x358637BD
/-- FP64 to FP32 and back. -/
def fOfD (a : Nat) : Nat := toF32 (f64 a)
def dOfF (a : Nat) : Nat := Fmt.fp64.ieee (f32 a)
def fOfInt (v : Int) : Nat := toF32 (Num.ofInt v)
def dOfInt (v : Int) : Nat := Fmt.fp64.ieee (Num.ofInt v)

/-- Products summed in ascending index order. -/
def fdot (a b : List Nat) : Nat :=
  match a.zipWith fmul b with
  | [] => 0
  | p :: ps => ps.foldl fadd p

abbrev Mat := List (List Nat)

def Mat.at_ (m : Mat) (i j : Nat) : Nat := (m.getD i []).getD j 0
def Mat.tr (m : Mat) (cols : Nat) : Mat := (List.range cols).map fun j => m.map fun r => r.getD j 0
def Mat.mulVec (m : Mat) (v : List Nat) : List Nat := m.map fun r => fdot r v
/-- a × b, b having `cols` columns. -/
def Mat.mul (a b : Mat) (cols : Nat) : Mat := a.map fun r => (Mat.tr b cols).map fun c => fdot r c
def Mat.zip (f : Nat → Nat → Nat) (a b : Mat) : Mat := a.zipWith (fun x y => x.zipWith f y) b

/-- An angle wrapped to (−π, π]. -/
def wrapAngle : Nat → Nat → Nat
  | 0, a => a
  | n + 1, a =>
    if flt fPi a then wrapAngle n (fsub a fTwoPi)
    else if flt (fneg fPi) a then a
    else if (f32 a).isFin then wrapAngle n (fadd a fTwoPi) else a

/-! ### Poses (R431, R432) -/

/-- A pose record (Table 13.1) from its bytes. -/
def poseOf (bs : List Byte) : Pose :=
  let n := fun (a w : Nat) => leNat ((bs.drop a).take w)
  { time := n 0 8, x := n 8 8, y := n 16 8, z := n 24 8, yaw := n 32 4, pitch := n 36 4, roll := n 40 4, vx := n 44 4, vy := n 48 4
    yawRate := n 52 4, sigma := n 56 4 }

/-- The 64 bytes of a pose record. -/
def Pose.bytes (p : Pose) : List Byte :=
  leBytes 8 p.time ++ leBytes 8 p.x ++ leBytes 8 p.y ++ leBytes 8 p.z ++ leBytes 4 p.yaw ++ leBytes 4 p.pitch ++ leBytes 4 p.roll
    ++ leBytes 4 p.vx ++ leBytes 4 p.vy ++ leBytes 4 p.yawRate ++ leBytes 4 p.sigma ++ [0, 0, 0, 0]

/-- Rz(YAW) × Ry(PITCH) × Rx(ROLL) (Table 13.1). -/
def Pose.rot (p : Pose) : Mat :=
  let cy := fcos p.yaw
  let sy := fsin p.yaw
  let cp := fcos p.pitch
  let sp := fsin p.pitch
  let cr := fcos p.roll
  let sr := fsin p.roll
  let rz : Mat := [[cy, fneg sy, 0], [sy, cy, 0], [0, 0, fOne]]
  let ry : Mat := [[cp, 0, sp], [0, fOne, 0], [fneg sp, 0, cp]]
  let rx : Mat := [[fOne, 0, 0], [0, cr, fneg sr], [0, sr, cr]]
  Mat.mul (Mat.mul rz ry 3) rx 3

/-- Interpolation of an FP32 quantity, w from a to b. [log 80 DEDUCED] -/
def fmix (w a b : Nat) : Nat := fadd a (fmul w (fsub b a))

/-- The pose between two poses. [log 80 DEDUCED] -/
def Pose.between (a b : Pose) (t : Nat) : Pose :=
  let w := fdiv (fOfNat (t - a.time)) (fOfNat (b.time - a.time))
  let d := fun (p q : Nat) => dadd p (dmul (dOfF w) (dsub q p))
  { time := t, x := d a.x b.x, y := d a.y b.y, z := d a.z b.z
    yaw := fadd a.yaw (fmul w (wrapAngle 64 (fsub b.yaw a.yaw))), pitch := fmix w a.pitch b.pitch, roll := fmix w a.roll b.roll
    vx := fmix w a.vx b.vx, vy := fmix w a.vy b.vy, yawRate := fmix w a.yawRate b.yawRate, sigma := fmix w a.sigma b.sigma }

/-- The newest pose carried on at constant velocity and yaw rate. [log 80 DEDUCED] -/
def Pose.onward (a : Pose) (t : Nat) : Pose :=
  let dt := fmul (fOfNat (t - a.time)) fNano
  let v := (Mat.mulVec a.rot [a.vx, a.vy, 0]).map fun u => dOfF (fmul u dt)
  { a with time := t, x := dadd a.x (v.getD 0 0), y := dadd a.y (v.getD 1 0), z := dadd a.z (v.getD 2 0)
           yaw := fadd a.yaw (fmul a.yawRate dt) }

/-- The pose at time t from a history, newest first; `none` is unavailable (R432). [log 80 DEDUCED] -/
def poseAt (extrapUs t : Nat) : List Pose → Option Pose
  | [] => none
  | p :: rest =>
    if p.time ≤ t then (if t ≤ p.time + 1000 * extrapUs then some (p.onward t) else none)
    else
      let rec find : Pose → List Pose → Option Pose
        | _, [] => none
        | b, a :: r => if a.time ≤ t then some (a.between b t) else find a r
      find p rest

/-! ### Alignment (R438) -/

/-- M and c from the pose at τ to the pose at T. -/
def alignment (a b : Pose) : Mat × List Nat :=
  let rt := Mat.tr b.rot 3
  let d := [fOfD (dsub a.x b.x), fOfD (dsub a.y b.y), fOfD (dsub a.z b.z)]
  (Mat.mul rt a.rot 3, Mat.mulVec rt d)

/-- M × p + c. -/
def alignPoint (m : Mat × List Nat) (p : List Nat) : List Nat := (Mat.mulVec m.1 p).zipWith fadd m.2

/-! ### Calibration (Table 13.2) -/

/-- A calibration record as its bytes; its fields. -/
abbrev CalRec := List Byte

def CalRec.num (r : CalRec) (a w : Nat) : Nat := leNat ((r.drop a).take w)
def CalRec.kind (r : CalRec) : Nat := r.num 0 1
def CalRec.camera (r : CalRec) : Bool := decide (r.kind = 1 ∨ r.kind = 2)
def CalRec.rot (r : CalRec) : Mat := (List.range 3).map fun i => (List.range 3).map fun j => r.num (8 + 12 * i + 4 * j) 4
def CalRec.trans (r : CalRec) : List Nat := (List.range 3).map fun i => r.num (44 + 4 * i) 4

/-- |v| ≤ 2^k. -/
def Num.inside (v : Num) (k : Int) : Bool := match v with
  | .fin _ m e => !(Num.fin false 1 k).lt (.fin false m e)
  | _ => false

/-- ROT is an orthonormal matrix with determinant +1 within the bound of R434: its rows' products differ from those of the
identity by at most 2^-12, its determinant is positive. [log 81 DEDUCED] -/
def rotOk (m : Mat) : Bool :=
  let v := fun (i j : Nat) => f32 (m.at_ i j)
  let prod := fun (i j : Nat) => ((v i 0).mul (v j 0)).add (((v i 1).mul (v j 1)).add ((v i 2).mul (v j 2)))
  let minor := fun (a b c d : Num) => (a.mul d).add (b.mul c).neg
  let det := ((v 0 0).mul (minor (v 1 1) (v 1 2) (v 2 1) (v 2 2))).add
    (((v 0 1).neg.mul (minor (v 1 0) (v 1 2) (v 2 0) (v 2 2))).add ((v 0 2).mul (minor (v 1 0) (v 1 1) (v 2 0) (v 2 1))))
  (List.range 3).all (fun i => (List.range 3).all fun j =>
      ((prod i j).add (if i = j then .fin true 1 0 else Num.zero)).inside (-12))
    && Num.zero.lt det

/-! ### Projection (Table 13.3, R436) -/

def ProjDesc.entries (d : ProjDesc) : Nat := d.w * d.h * d.sensors.length * d.zs.length

/-- Fields within Table 13.3. -/
def ProjDesc.ok (d : ProjDesc) : Bool :=
  let fin := fun (a : Nat) => (f32 a).isFin
  decide (1 ≤ d.w ∧ d.w ≤ 1024 ∧ 1 ≤ d.h ∧ d.h ≤ 1024) && !flt d.cell 0x3D4CCCCD && !flt 0x40800000 d.cell && fin d.cell
    && fin d.x0 && fin d.y0 && decide (1 ≤ d.zs.length ∧ d.zs.length ≤ 8) && d.zs.all fin
    && decide (1 ≤ d.sensors.length ∧ d.sensors.length ≤ 16 ∧ d.sensors.Nodup) && d.sensors.all (fun k => decide (k < 64))
    && decide (2 ≤ d.fw ∧ d.fw ≤ 4096 ∧ 2 ≤ d.fh ∧ d.fh ≤ 4096 ∧ 1 ≤ d.stride ∧ d.stride ≤ 64)

/-- Image coordinates of a point in the camera frame. -/
def CalRec.image (r : CalRec) (c : List Nat) : Nat × Nat :=
  let x := c.getD 0 0
  let y := c.getD 1 0
  let z := c.getD 2 0
  let fx := r.num 56 4
  let fy := r.num 60 4
  let cx := r.num 64 4
  let cy := r.num 68 4
  if r.kind = 1 then (ffma fx (fdiv x z) cx, ffma fy (fdiv y z) cy)
  else
    let rr := fsqrt (fadd (fmul x x) (fmul y y))
    if (f32 rr).isZero then (cx, cy)
    else
      let th := (Config.atan2 rr z).toNat
      let t2 := fmul th th
      let poly := [r.num 84 4, r.num 80 4, r.num 76 4, r.num 72 4].foldl (fun a k => fadd (fmul a t2) k) 0
      let td := fmul th (fadd fOne (fmul t2 poly))
      (ffma fx (fdiv (fmul td x) rr) cx, ffma fy (fdiv (fmul td y) rr) cy)

/-- One entry of a projection index table: feature index, FXQ, FYQ. -/
def ProjDesc.entry (d : ProjDesc) (rec_ : CalRec) (ix iy h : Nat) : Nat × Nat × Nat :=
  let hidden : Nat × Nat × Nat := (0xFFFFFFFF, 0, 0)
  let px := fadd d.x0 (fmul (fadd (fOfNat iy) fHalf) d.cell)
  let py := fadd d.y0 (fmul (fadd (fOfNat ix) fHalf) d.cell)
  let p := [px, py, d.zs.getD h 0].zipWith fsub rec_.trans
  let c := Mat.mulVec (Mat.tr rec_.rot 3) p
  if flt (c.getD 2 0) (rec_.num 92 4) then hidden
  else
    let (u, v) := rec_.image c
    let st := fOfNat d.stride
    let uf := fsub (fdiv (fadd u fHalf) st) fHalf
    let vf := fsub (fdiv (fadd v fHalf) st) fHalf
    let out := fun (a n : Nat) => !(f32 a).isFin || flt a 0 || flt (fOfNat (n - 1)) a
    if out uf d.fw || out vf d.fh then hidden
    else
      let u0 := min (ffloor uf).toNat (d.fw - 2)
      let v0 := min (ffloor vf).toNat (d.fh - 2)
      let q := fun (a k : Nat) => match f32 (fmul (fsub a (fOfNat k)) 0x47000000) with
        | .fin _ m e => roundInt .nearest m e
        | _ => 0
      (v0 * d.fw + u0, q uf u0, q vf v0)

/-- A copy of the table from the records of a set. -/
def ProjDesc.build (d : ProjDesc) (rec_ : Nat → CalRec) : List (Nat × Nat × Nat) :=
  (List.range d.h).flatMap fun iy => (List.range d.w).flatMap fun ix => d.sensors.flatMap fun k =>
    (List.range d.zs.length).map fun h => d.entry (rec_ k) ix iy h

end Sys2Proof.Machine
end

