-- ==== Sys2Proof/Machine/Loops.lean ====
section
/-!
DEFINITION. A loop channel's arithmetic as functions of its inputs: cascade, tables, set-points, transfer, map fields
(spec 14_control_and_solver.md, R457 to R468). Values are FP64 codes.
-/

namespace Sys2Proof.Machine

/-! ### FP64 helpers -/

/-- 1.0, 10^-9, 2^-30, 2^-40 and 0.5 as FP64. -/
def dOne : Nat := 0x3FF0000000000000
def dNano : Nat := 0x3E112E0BE826D695
def dTiny30 : Nat := 0x3E10000000000000
def dTiny40 : Nat := 0x3D70000000000000
def dHalf : Nat := 0x3FE0000000000000

def dFinite (a : Nat) : Bool := (f64 a).isFin

/-- clamp, with 1 where it changes the value. [log 87 DEDUCED] -/
def dclamp (v lo hi : Nat) : Nat × Nat := if dlt v lo then (lo, 1) else if dlt hi v then (hi, 1) else (v, 0)

/-- lerp of R408 in FP64. -/
def dlerp (p q w : Nat) : Nat := dfma w (dsub q p) p

/-- The integer at or below a finite value. -/
def numFloor : Num → Int
  | .fin neg m e =>
    let v : Int := if neg then -(m : Int) else m
    if 0 ≤ e then v * 2 ^ e.toNat else v / 2 ^ (-e).toNat
  | _ => 0

/-! ### The cascade (R462) -/

/-- One section at one sample: the section after it, its output, clamps counted. `hold` skips the integrator update of the
transfer sample (R467). [log 87 DEDUCED] -/
def Section.run (k : Section) (x : Nat) (hold : Bool) : Section × Nat × Nat :=
  let c := fun i => k.c.getD i 0
  let lim := fun (k : Section) (out : Nat) =>
    if k.clamp then let r := dclamp out k.yMin k.yMax; (k, r.1, r.2) else (k, out, 0)
  if k.kind = 0 then
    let out := dfma (c 0) x k.s1
    let s1 := dfma (dneg (c 3)) out (dfma (c 1) x k.s2)
    let s2 := dfma (dneg (c 4)) out (dmul (c 2) x)
    lim { k with s1 := s1, s2 := s2 } out
  else if k.kind = 1 then
    let i := if hold then (k.s1, 0) else dclamp (dfma (c 1) x k.s1) k.yMin k.yMax
    ({ k with s1 := i.1 }, dfma (c 0) x i.1, i.2)
  else lim k (dmul (c 0) x)

/-- What a run of the cascade leaves: sections, their outputs, clamps, the last output. -/
structure CascadeOut where
  sections : List Section
  outs : List Nat
  clamps : Nat
  x : Nat

def runCascade (hold : Bool) : List Section → Nat → CascadeOut
  | [], x => { sections := [], outs := [], clamps := 0, x := x }
  | k :: ks, x =>
    let r := k.run x hold
    let t := runCascade hold ks r.2.1
    { sections := r.1 :: t.sections, outs := r.2.1 :: t.outs, clamps := r.2.2 + t.clamps, x := t.x }

/-- One section preset from its input at a transfer: the section and what it passes on (R467). -/
def Section.preset (k : Section) (x held ff : Nat) : Section × Nat :=
  let c := fun i => k.c.getD i 0
  let lim := fun out => if k.clamp then (dclamp out k.yMin k.yMax).1 else out
  if k.kind = 0 then
    let den := dadd (dadd dOne (c 3)) (c 4)
    if dlt (dabs den) dTiny30 then ({ k with s1 := 0, s2 := 0 }, lim 0)
    else
      let out := dmul (ddiv (dadd (dadd (c 0) (c 1)) (c 2)) den) x
      ({ k with s1 := dsub out (dmul (c 0) x), s2 := dsub (dmul (c 2) x) (dmul (c 4) out) }, lim out)
  else if k.kind = 1 then
    let i := (dclamp (dsub (dsub held ff) (dmul (c 0) x)) k.yMin k.yMax).1
    ({ k with s1 := i }, dfma (c 0) x i)
  else (k, lim (dmul (c 0) x))

def presetCascade (held ff : Nat) : List Section → Nat → List Section
  | [], _ => []
  | k :: ks, x => let r := k.preset x held ff; r.1 :: presetCascade held ff ks r.2

/-- The sections with every state 0. -/
def zeroCascade (l : List Section) : List Section := l.map fun k => { k with s1 := 0, s2 := 0 }

/-! ### Tables (R468, R469) -/

/-- The copy that samples at an instant read. [log 90 DESIGN CHOICE] -/
def FfTable.copyAt (t : FfTable) (at_ : Nat) : FfCopy :=
  match t.switchAt with
  | some w => if w ≤ at_ then t.inactive else t.active
  | none => t.active

/-- A table's contribution at a position and velocity, and whether both were finite. A copy that nothing has loaded
gives a free value. [log 90 DESIGN CHOICE] -/
def FfCopy.value (t : FfCopy) (pos vel deadband : Nat) : Nat × Bool :=
  if !dFinite pos ∨ (t.friction ∧ !dFinite vel) then (0, false)
  else if t.points = [] then ((Config.tableUnset pos).toNat, true)
  else
    let step := ddiv t.pitch (dOfInt (if t.wrap then 1024 else 1023))
    let q := f64 (ddiv (dsub pos t.pos0) step)
    let point := fun (i : Nat) => dOfF (t.points.getD i 0)
    let mix := fun (i j : Nat) (w : Num) => dlerp (point i) (point j) (Fmt.fp64.ieee w)
    let v := if t.wrap then
        if !q.isFin then (Config.wrapRaw pos).toNat
        else
          let k := numFloor q
          let i := (k % 1024).toNat
          mix i ((i + 1) % 1024) (q.add (Num.ofInt k).neg)
      else
        let q := if q.lt .zero then .zero else if (Num.ofInt 1023).lt q then Num.ofInt 1023 else q
        let i := (numFloor q).toNat
        mix i (min 1023 (i + 1)) (q.add (Num.ofInt i).neg)
    if !t.friction then (v, true)
    else
      let zero := (f64 deadband).isZero
      let f := if zero then (if dlt vel 0 then dneg dOne else if dlt 0 vel then dOne else 0)
        else (dclamp (ddiv vel deadband) (dneg dOne) dOne).1
      (dmul v f, true)

/-! ### Trajectories (R463) -/

/-- The set-point of a trajectory's column at an instant. [log 87 DEDUCED] -/
def Traj.pointAt (t : Traj) (column at_ : Nat) : Nat :=
  let n := t.points.length / max 1 t.columns
  let point := fun (i : Nat) => dOfF (t.points.getD (i * t.columns + column) 0)
  let p := ddiv (dOfInt ((at_ : Int) - t.t0)) (dOfInt t.dt)
  if dlt p 0 then point 0
  else if !dlt p (dOfInt ((n : Int) - 1)) then point (n - 1)
  else
    let i := (numFloor (f64 p)).toNat
    dlerp (point i) (point (i + 1)) (dsub p (dOfInt i))

/-! ### Samples (R462 to R467) -/

/-- What a sample of a channel reads: set-point, whether it is VALID, feedback, whether it is fresh, feedforward, whether
positions and velocities are finite. -/
structure LoopIn where
  sp : SetPoint
  spValid : Bool
  y : Nat
  fresh : Bool
  ff : Nat
  ffOk : Bool

/-- The error (R462). -/
def LoopRec.error (r : LoopRec) (sp y : Nat) : Nat := if r.errNeg then dsub y sp else dsub sp y

/-- The limits of R462: U_MIN to U_MAX, then SLEW from the present output. -/
def LoopRec.limit (r : LoopRec) (u : Nat) : Nat × Nat := dclamp u r.uMin r.uMax
/-- [log 87 DEDUCED] -/
def LoopRec.slewed (r : LoopRec) (prev u : Nat) : Nat × Nat :=
  let d := dmul r.slew (dmul (dOfInt r.periodNs) dNano)
  dclamp u (dsub prev d) (dadd prev d)

/-- The values a trace may record: r, y, x, u, feedforward, section outputs. -/
def LoopIn.values (i : LoopIn) (r : LoopRec) (u : Nat) (outs : List Nat) : List Nat :=
  [i.sp.value, i.y, r.error i.sp.value i.y, u, i.ff] ++ outs

/-- A stale sample (R464): the output is held; the channel enters FAULTED after STALE_TRIP in a row. -/
def LoopCh.staleSample (c : LoopCh) : LoopCh :=
  let n := c.staleRun + 1
  let fault := decide (c.record.staleTrip ≤ n)
  { c with
    staleRun := n, stale := satInc c.stale, outValid := false
    state := if fault then .faulted else c.state
    u := if fault && c.record.tripOutUsed then c.record.tripOut else c.u }

/-- A sample in AUTO (R462); `held` is the held output of a transfer sample. -/
def LoopCh.autoSample (c : LoopCh) (i : LoopIn) (held : Option Nat) : LoopCh :=
  let r := c.record
  let x0 := r.error i.sp.value i.y
  let base := match held with
    | none => c.cascade
    | some h => if r.bumpless then presetCascade h i.ff c.cascade x0 else zeroCascade c.cascade
  let o := runCascade (held.isSome && r.bumpless) base x0
  let a := r.limit (dadd o.x i.ff)
  let b := r.slewed c.u a.1
  let bump := match held with
    | none => false
    | some h => dlt (dmul dTiny40 (if dlt (dabs h) dOne then dOne else dabs h)) (dabs (dsub a.1 h))
  { c with
    cascade := o.sections, u := b.1, sp := i.sp, outValid := i.spValid && i.ffOk
    clamped := satAdd c.clamped (o.clamps + a.2 + b.2), bumps := if bump then satInc c.bumps else c.bumps
    staleRun := 0, values := i.values r b.1 o.outs }

/-- A sample in MANUAL: the manual value, then the SLEW limit (Table 14.4). -/
def LoopCh.manualSample (c : LoopCh) (i : LoopIn) : LoopCh :=
  let b := c.record.slewed c.u c.manual
  { c with u := b.1, sp := i.sp, outValid := true, staleRun := 0, values := i.values c.record b.1 (c.values.drop 5) }

/-- A channel's sample in its state. [log 87 DEDUCED] -/
def LoopCh.sample (c : LoopCh) (i : LoopIn) (held : Option Nat) : LoopCh :=
  let c := if c.state = .auto ∨ c.state = .manual then { c with samples := satInc c.samples } else c
  match c.state with
  | .auto => if i.fresh then c.autoSample i held else c.staleSample
  | .manual => if i.fresh then c.manualSample i else c.staleSample
  | _ => { c with values := i.values c.record c.u (c.values.drop 5) }

/-! ### Frames (R457, R465) -/

/-- The bytes of a field type. -/
def fieldBytes : Nat → Nat
  | 0 => 2 | 1 => 2 | _ => 4

/-- The integer nearest to a finite value, ties to even. -/
def numRound : Num → Int
  | .fin neg m e => let k : Int := roundInt .nearest m e; if neg then -k else k
  | _ => 0

/-- The raw field a transmit map writes for a value (R457). -/
def MapField.raw (f : MapField) (v : Nat) : Nat :=
  let q := ddiv (dsub v (dOfF f.offset)) (dOfF f.scale)
  let sat := fun (w : Nat) (lo hi : Int) => match f64 q with
    | .nan => (Config.nanRaw f.kind).toNat
    | .inf neg => twosOf w (if neg then lo else hi)
    | n => twosOf w (max lo (min hi (numRound n)))
  match f.kind with
  | 0 => sat 16 (-32768) 32767
  | 1 => sat 16 0 65535
  | 2 => sat 32 (-2147483648) 2147483647
  | 3 => sat 32 0 4294967295
  | _ => fOfD q

/-- The value a receive map takes from a raw field (R457). -/
def MapField.valueOf (f : MapField) (raw : Nat) : Nat :=
  let v := match f.kind with
    | 0 => dOfInt (twosVal 16 raw)
    | 1 => dOfInt raw
    | 2 => dOfInt (twosVal 32 raw)
    | 3 => dOfInt raw
    | _ => dOfF raw
  dadd (dmul v (dOfF f.scale)) (dOfF f.offset)

/-- Bytes laid over a list from a position up, cut at its end. [log 89 DEDUCED] -/
def layOver (l : List Byte) (at_ : Nat) (bs : List Byte) : List Byte :=
  (List.range l.length).map fun i => if at_ ≤ i ∧ i < at_ + bs.length then bs.getD (i - at_) 0 else l.getD i 0

/-- The payload of a transmit map: fields in order, then the status byte. [log 89 DEDUCED] -/
def FrameMap.payload (m : FrameMap) (value : Nat → Nat) (status : Nat) : List Byte :=
  let body := m.fields.foldl (fun l f => layOver l f.at_ (leBytes (fieldBytes f.kind) (f.raw (value f.slot))))
    (List.replicate m.length 0)
  if m.statusAt = 0xFF then body else layOver body m.statusAt (leBytes 1 status)

/-! ### Traces (R472) -/

/-- Samples that a trace holds. [log 91 DEDUCED] -/
def traceDepth : Nat := 65536

/-- The trigger: the last PRE samples stay, 65,536 − PRE further ones follow. [log 91 DEDUCED] -/
def TraceCh.fire (t : TraceCh) (at_ : Nat) : TraceCh :=
  let ring := t.ring.drop (t.ring.length - t.pre)
  { t with state := 2, ring := ring, trigTime := at_, trigIndex := ring.length, left := traceDepth - t.pre }

/-- One sample into a trace. -/
def TraceCh.put (t : TraceCh) (v at_ : Nat) : TraceCh :=
  let ring := t.ring ++ [v]
  let t := { t with ring := ring.drop (ring.length - traceDepth), last := some v, lastTime := at_ }
  if t.state = 2 then { t with left := t.left - 1, state := if t.left ≤ 1 then 3 else 2 } else t

/-- One sample instant of the loop that a trace follows. [log 91 DEDUCED] -/
def TraceCh.see (t : TraceCh) (v at_ : Nat) : TraceCh :=
  if t.state ≠ 1 ∧ t.state ≠ 2 then t
  else
    let t := { t with seen := t.seen + 1 }
    if t.seen % max 1 t.decim ≠ 0 then t
    else
      let crossed := match t.last with
        | none => false
        | some p => (decide (t.trigger = 2) && flt p t.level && !flt v t.level && !(f32 v).isNan)
            || (decide (t.trigger = 3) && !flt p t.level && !(f32 p).isNan && flt v t.level)
      (if t.state = 1 && crossed then t.fire at_ else t).put v at_

end Sys2Proof.Machine
end

