-- ==== Sys2Proof/Machine/Solver.lean ====
section
/-!
DEFINITION. Resident problems: checks, symbolic factor, factorisation, the solve and its policy as functions
(spec 14_control_and_solver.md, R473 to R477). Values are FP64 codes.
-/

namespace Sys2Proof.Machine

/-! ### Descriptions (Table 14.6) -/

def Pattern.nnz (p : Pattern) : Nat := p.foldl (fun k c => k + c.length) 0

/-- Row indices rise within their columns and stay below a bound. -/
def Pattern.okFor (p : Pattern) (cols rows : Nat) : Bool :=
  decide (p.length = cols) && p.all fun c => c.all (· < rows) && (c.zip (c.drop 1)).all fun (x : Nat × Nat) => decide (x.1 < x.2)

/-- The description is within Table 14.6. -/
def QpDesc.ok (d : QpDesc) : Bool :=
  let pos := fun a => dFinite a && dlt 0 a
  let bound := fun a => !(f64 a).isNan && !dlt a 0
  decide (1 ≤ d.n ∧ d.n ≤ 4096 ∧ 1 ≤ d.m ∧ d.m ≤ 8192)
    && d.pPat.okFor d.n d.n && d.aPat.okFor d.n d.m
    && ((List.range d.n).zip d.pPat).all (fun (x : Nat × List Nat) => x.2.all (· ≤ x.1))
    && decide (d.order.length = d.n) && d.order.all (· < d.n) && decide d.order.Nodup
    && pos d.sigma && pos d.rho && pos d.alpha && dlt d.alpha 0x4000000000000000
    && decide (1 ≤ d.iters ∧ d.iters ≤ 1000) && bound d.epsPri && bound d.epsDua
    && decide (d.shiftMax ≤ 255 ∧ d.warm ≤ 2 ∧ d.stages * d.stageVars ≤ d.n)
    && !(decide (d.stages = 0) && (d.shift || decide (d.warm = 2)))
    && decide (d.p.length = d.pPat.nnz ∧ d.a.length = d.aPat.nnz ∧ d.q.length = d.n ∧ d.l.length = d.m ∧ d.u.length = d.m)
    && (d.p ++ d.a ++ d.q).all dFinite && (d.l ++ d.u).all fun a => !(f64 a).isNan

/-- The entries of a matrix in stored order: (row, column, position in the value array). -/
def Pattern.entries (p : Pattern) : List (Nat × Nat × Nat) :=
  let cells := ((List.range p.length).zip p).flatMap fun (x : Nat × List Nat) => x.2.map fun i => (i, x.1)
  (List.range cells.length).zip cells |>.map fun (x : Nat × Nat × Nat) => (x.2.1, x.2.2, x.1)

/-! ### The symbolic factor -/

/-- Is element (i, j) of P + SIGMA I + RHO AᵀA structurally present? -/
def QpDesc.present (d : QpDesc) (i j : Nat) : Bool :=
  decide (i = j) || (d.pPat.getD (max i j) []).contains (min i j)
    || (d.aPat.getD i []).any fun k => (d.aPat.getD j []).contains k

/-- The rows below the diagonal of column j of L in elimination order: those of M and those of the columns whose first
row below the diagonal is j. -/
def QpDesc.columnsOf (d : QpDesc) : Nat → List (List Nat)
  | 0 => []
  | k + 1 =>
    let before := d.columnsOf k
    let own := (List.range d.n).filter fun i => decide (k < i) && d.present (d.order.getD i 0) (d.order.getD k 0)
    let kids := before.flatMap fun c => if c.head? = some k then c.drop 1 else []
    before ++ [(List.range d.n).filter fun i => own.contains i || kids.contains i]

/-- Entries of L, the diagonal counted. [log 92 DESIGN CHOICE] -/
def nnzOf (cols : List (List Nat)) : Nat := cols.foldl (fun k c => k + 1 + c.length) 0

/-- ITER_MACS (R473). -/
def QpDesc.iterMacs (d : QpDesc) (nnzL : Nat) : Nat :=
  2 * nnzL + 2 * d.aPat.nnz + d.pPat.nnz + 6 * d.n + 8 * d.m

/-- Bytes of the Solver store (R473). [log 92 DESIGN CHOICE] -/
def QpDesc.storeBytes (d : QpDesc) (nnzL : Nat) : Nat :=
  16 * (d.pPat.nnz + d.aPat.nnz + nnzL) + 64 * (d.n + d.m)

/-! ### Products and sums in ascending stored order (R475) -/

/-- Adds a product to an element of a vector. -/
def addAt (v : List Nat) (i x : Nat) : List Nat := v.set i (dadd (v.getD i 0) x)

def zeros (n : Nat) : List Nat := List.replicate n 0

/-- A × x. -/
def QpDesc.mulA (d : QpDesc) (x : List Nat) : List Nat :=
  d.aPat.entries.foldl (fun v (e : Nat × Nat × Nat) => addAt v e.1 (dmul (d.a.getD e.2.2 0) (x.getD e.2.1 0))) (zeros d.m)
/-- Aᵀ × w. -/
def QpDesc.mulAt (d : QpDesc) (w : List Nat) : List Nat :=
  d.aPat.entries.foldl (fun v (e : Nat × Nat × Nat) => addAt v e.2.1 (dmul (d.a.getD e.2.2 0) (w.getD e.1 0))) (zeros d.n)
/-- P × x from the upper triangle. -/
def QpDesc.mulP (d : QpDesc) (x : List Nat) : List Nat :=
  d.pPat.entries.foldl (fun v (e : Nat × Nat × Nat) =>
    let a := d.p.getD e.2.2 0
    let v := addAt v e.1 (dmul a (x.getD e.2.1 0))
    if e.1 = e.2.1 then v else addAt v e.2.1 (dmul a (x.getD e.1 0))) (zeros d.n)

/-- [log 93 DEDUCED] -/
def ddot (a b : List Nat) : Nat := (a.zipWith dmul b).foldl dadd 0
def dmaxAbs (v : List Nat) : Nat := v.foldl (fun m a => if dlt m (dabs a) then dabs a else m) 0

/-! ### Factorisation -/

/-- The value of an entry of A, if stored. -/
def QpDesc.aAt (d : QpDesc) (i j : Nat) : Option Nat :=
  (d.aPat.entries.find? fun e => decide (e.1 = i ∧ e.2.1 = j)).map fun e => d.a.getD e.2.2 0
def QpDesc.pAt (d : QpDesc) (i j : Nat) : Nat :=
  match d.pPat.entries.find? fun e => decide (e.1 = min i j ∧ e.2.1 = max i j) with
  | some e => d.p.getD e.2.2 0
  | none => 0

/-- Element (i, j) of M: (P + SIGMA I) + RHO × AᵀA. [log 93 DEDUCED] -/
def QpDesc.mAt (d : QpDesc) (i j : Nat) : Nat :=
  let ata := (d.aPat.getD i []).foldl (fun t k => match d.aAt k i, d.aAt k j with
    | some a, some b => dadd t (dmul a b)
    | _, _ => t) 0
  dadd (if i = j then dadd (d.pAt i j) d.sigma else d.pAt i j) (dmul d.rho ata)

/-- Row `i` of L up to the columns below `n`, from the rows before it: (column, value), columns rising. -/
def QpDesc.rowUpTo (d : QpDesc) (cols : List (List Nat)) (rows : List (List (Nat × Nat))) (i : Nat) : Nat → List (Nat × Nat)
  | 0 => []
  | j + 1 =>
    let row := d.rowUpTo cols rows i j
    if !(cols.getD j []).contains i then row
    else
      let rj := rows.getD j []
      let t := row.foldl (fun t (x : Nat × Nat) => match rj.find? fun y => decide (y.1 = x.1) with
        | some y => dsub t (dmul x.2 y.2)
        | none => t) (d.mAt (d.order.getD i 0) (d.order.getD j 0))
      row ++ [(j, ddiv t ((rj.getLast?.map (·.2)).getD 0))]

/-- The first `n` rows of L, the diagonal last; none where a pivot is not above 0 or not finite. [log 93 DEDUCED] -/
def QpDesc.factorRows (d : QpDesc) (cols : List (List Nat)) : Nat → Option (List (List (Nat × Nat)))
  | 0 => some []
  | i + 1 =>
    match d.factorRows cols i with
    | none => none
    | some rows =>
      let row := d.rowUpTo cols rows i i
      let v := d.order.getD i 0
      let pivot := row.foldl (fun t (x : Nat × Nat) => dsub t (dmul x.2 x.2)) (d.mAt v v)
      if dFinite pivot && dlt 0 pivot then some (rows ++ [row ++ [(i, dsqrt pivot)]]) else none

/-- Solves L y = b in elimination order. -/
def lowerSolve (b : List Nat) (rows : List (List (Nat × Nat))) : List Nat :=
  rows.foldl (fun y row =>
    let t := (row.dropLast).foldl (fun t (x : Nat × Nat) => dsub t (dmul x.2 (y.getD x.1 0))) (b.getD y.length 0)
    y ++ [ddiv t ((row.getLast?.map (·.2)).getD 0)]) []

/-- Solves Lᵀ x = y: unknown k from those above it, whose column entries are taken in ascending order. -/
def upperSolve (rows : List (List (Nat × Nat))) (y : List Nat) : Nat → List Nat
  | 0 => []
  | n + 1 =>
    let k := rows.length - (n + 1)
    let above := upperSolve rows y n
    let at_ := fun (row : List (Nat × Nat)) => (row.find? fun x => decide (x.1 = k)).map (·.2)
    let t := ((rows.drop (k + 1)).zip above).foldl (fun t (x : List (Nat × Nat) × Nat) => match at_ x.1 with
      | some v => dsub t (dmul v x.2)
      | none => t) (y.getD k 0)
    ddiv t ((at_ (rows.getD k [])).getD 0) :: above

/-- M⁻¹ × b by L and Lᵀ under ORDER. -/
def QpDesc.solveM (d : QpDesc) (rows : List (List (Nat × Nat))) (b : List Nat) : List Nat :=
  let y := lowerSolve (d.order.map fun v => b.getD v 0) rows
  let x := upperSolve rows y rows.length
  (List.range d.n).map fun v => x.getD (d.order.idxOf v) 0

/-! ### The iteration (R475) -/

/-- A point: x, z, y. -/
abbrev QpPoint := List Nat × List Nat × List Nat

def QpDesc.cold (d : QpDesc) : QpPoint := (zeros d.n, zeros d.m, zeros d.m)

/-- One iteration. -/
def QpDesc.iterate (d : QpDesc) (rows : List (List (Nat × Nat))) (w : QpPoint) : QpPoint :=
  let x := w.1
  let z := w.2.1
  let y := w.2.2
  let beta := dsub dOne d.alpha
  let inv := ddiv dOne d.rho
  let rhs := ((x.zipWith (fun a q => dsub (dmul d.sigma a) q) d.q).zipWith dadd
    (d.mulAt (z.zipWith (fun a b => dsub (dmul d.rho a) b) y)))
  let xt := d.solveM rows rhs
  let zt := d.mulA xt
  let relax := fun (t o : List Nat) => t.zipWith (fun a b => dadd (dmul d.alpha a) (dmul beta b)) o
  let zr := relax zt z
  let zn := ((zr.zip y).zip (d.l.zip d.u)).map fun (c : (Nat × Nat) × Nat × Nat) =>
    (dclamp (dadd c.1.1 (dmul inv c.1.2)) c.2.1 c.2.2).1
  let dy := (zr.zip zn).map fun (c : Nat × Nat) => dmul d.rho (dsub c.1 c.2)
  (relax xt x, zn, y.zipWith dadd dy)

def QpDesc.iterated (d : QpDesc) (rows : List (List (Nat × Nat))) (w : QpPoint) : Nat → QpPoint
  | 0 => w
  | n + 1 => d.iterate rows (d.iterated rows w n)

/-- rp, rd and the objective at a point. -/
def QpDesc.residuals (d : QpDesc) (w : QpPoint) : Nat × Nat × Nat :=
  let px := d.mulP w.1
  let rp := dmaxAbs ((d.mulA w.1).zipWith dsub w.2.1)
  let rd := dmaxAbs ((px.zipWith dadd d.q).zipWith dadd (d.mulAt w.2.2))
  (rp, rd, dadd (dmul dHalf (ddot w.1 px)) (ddot d.q w.1))

/-! ### Solve and policy (R476, R477) -/

/-- x moved on one stage of the horizon block. [log 93 DEDUCED] -/
def QpDesc.shifted (d : QpDesc) (x : List Nat) : List Nat :=
  (List.range d.n).map fun i => if i < (d.stages - 1) * d.stageVars then x.getD (i + d.stageVars) 0 else x.getD i 0

/-- The starting point (Table 14.6 WARM). -/
def Qp.startPoint (p : Qp) : QpPoint :=
  match p.prev with
  | none => p.desc.cold
  | some w =>
    if p.coldNext ∨ p.desc.warm = 0 then p.desc.cold
    else if p.desc.warm = 2 then (p.desc.shifted w.1, w.2.1, w.2.2)
    else w

/-- What a solve gives: the problem after it, the output bytes, the solution's own part of its result. -/
structure QpOut where
  qp : Qp
  bytes : List Byte
  out : OutState

/-- The bytes of Table 14.8. -/
def qpBytes (status flags shifts iters : Nat) (res : Nat × Nat × Nat) (x y : List Nat) : List Byte :=
  [status, flags, shifts, 0].map (BitVec.ofNat 8) ++ leBytes 4 iters ++ leBytes 8 res.1 ++ leBytes 8 res.2.1 ++ leBytes 8 res.2.2
    ++ List.replicate 32 0 ++ (x ++ y).flatMap (leBytes 8)

/-- QP_SOLVE; `stopAfter` is the number of iterations that end before DEADLINE, where it stops the solve. [log 93 DEDUCED] -/
def Qp.solve (p : Qp) (stopAfter : Option Nat) : QpOut :=
  let d := p.desc
  let due := p.factorDue
  let start := p.startPoint
  let bounds := (d.l.zip d.u).any fun (b : Nat × Nat) => dlt b.2 b.1
  let run := !p.inputMissing && !bounds
  let made := if run && due then d.factorRows (d.columnsOf d.n) d.n else some p.factor
  let p := match made with
    | some rows => { p with factor := rows, factorDue := due && !run }
    | none => p
  let iters := match stopAfter with | some k => min k d.iters | none => d.iters
  let ran := if run && made.isSome then iters else 0
  let w := d.iterated p.factor start ran
  let res := d.residuals w
  let bad := !(w.1 ++ w.2.1 ++ w.2.2).all dFinite
  let status :=
    if p.inputMissing then 6 else if bounds then 4 else if made.isNone then 3
    else if ran < d.iters then 2 else if bad then 5
    else if dlt d.epsPri res.1 || dlt d.epsDua res.2.1 || (f64 res.1).isNan || (f64 res.2.1).isNan then 1 else 0
  let refactored := if run && due && made.isSome then 2 else 0
  let p := { p with
    solves := satInc p.solves, lastStatus := status, coldNext := decide (status = 3 ∨ status = 5)
    failures := if status = 0 then p.failures else satInc p.failures }
  if status = 0 then
    { qp := { p with prev := some w, prevOut := p.input, shifts := 0 }
      bytes := qpBytes 0 refactored 0 ran res w.1 w.2.2, out := p.input }
  else
    let clean := fun (v : List Nat) => v.map fun a => if dFinite a then a else 0
    let invalid : QpOut :=
      { qp := p, bytes := qpBytes status refactored p.shifts ran res (clean w.1) (clean w.2.2)
        out := { p.input with attrs := { p.input.attrs with valid := false } } }
    match p.prev with
    | none => invalid
    | some v =>
      if d.shift && decide (p.shifts < d.shiftMax) then
        let x := d.shifted v.1
        let out : OutState := { p.prevOut with attrs := { p.prevOut.attrs with shifted := true } }
        { qp := { p with prev := some (x, v.2.1, v.2.2), prevOut := out, shifts := p.shifts + 1, shifted := satInc p.shifted }
          bytes := qpBytes status (refactored + 1) (p.shifts + 1) ran res x v.2.2, out := out }
      else invalid

/-! ### Change lists (R474) -/

/-- One change: WHAT, INDEX, value. -/
structure QpChange where
  what : Nat
  index : Nat
  value : Nat
deriving DecidableEq, Repr

/-- A change list's changes, or none where R474 refuses it. -/
def Qp.changes (p : Qp) (header : List Byte) (body : List (List Byte)) : Option (List QpChange) :=
  let d := p.desc
  let changes := body.map fun b => ({ what := leNat (b.take 1), index := leNat ((b.drop 4).take 4), value := leNat (b.drop 8) } : QpChange)
  let size := fun w => if w = 0 then d.p.length else if w = 1 then d.a.length else if w = 2 then d.n else d.m
  let good := fun (c : QpChange) => decide (c.what ≤ 4 ∧ c.index < size c.what)
    && (if c.what ≤ 2 then dFinite c.value else !(f64 c.value).isNan)
  if (header.drop 4).all (· = 0) && body.all (fun b => ((b.drop 1).take 3).all (· = 0)) && changes.all good then some changes else none

/-- Applies one change. -/
def Qp.change (p : Qp) (c : QpChange) : Qp :=
  let d := p.desc
  match c.what with
  | 0 => { p with desc := { d with p := d.p.set c.index c.value }, factorDue := true }
  | 1 => { p with desc := { d with a := d.a.set c.index c.value }, factorDue := true }
  | 2 => { p with desc := { d with q := d.q.set c.index c.value } }
  | 3 => { p with desc := { d with l := d.l.set c.index c.value } }
  | _ => { p with desc := { d with u := d.u.set c.index c.value } }

end Sys2Proof.Machine
end

