-- ==== Sys2Proof/Machine/KvLayout.lean ====
section
/-!
DEFINITION. The layout of KV sequences: records, pages, groups, windows (spec 08_attention_kv.md, R269 to R272).
-/

namespace Sys2Proof.Machine

/-- 64 KiB units of a page size. -/
def unitsOf (big : Bool) : Nat := if big then 32 else 1
/-- Bytes of a page size. -/
def bytesOf (big : Bool) : Nat := 65536 * unitsOf big

/-! ### Layout (R269 to R272) -/

/-- Bytes of a record. -/
def recBytes (lLat rPos : Nat) (f : Fmt) : Nat := (lLat + rPos) * f.bytes
def Seq.recSize (x : Seq) : Nat := recBytes x.lLat x.rPos x.fmt

/-- Where the records of a page begin (Table 8.2). -/
def recordsAt (n : Nat) : Nat := 64 + 64 * ((n + 63) / 64)

/-- The largest count, from `n` down, whose records fit a page. -/
def pTokFrom (page d : Nat) : Nat → Nat
  | 0 => 0
  | n + 1 => if recordsAt (n + 1) + (n + 1) * d ≤ page then n + 1 else pTokFrom page d n

def pTokOf (page d : Nat) : Nat := pTokFrom page d (page / max 1 d)

/-- Group slots of a window (R272). -/
def Seq.gMax (x : Seq) : Nat := (x.maxTokens + x.pTok - 1) / max 1 x.pTok
/-- The slot of group g. -/
def Seq.slot (x : Seq) (g : Nat) : Nat :=
  if g < x.pinHead then g else x.pinHead + (g - x.pinHead) % max 1 (x.gMax - x.pinHead)
def Seq.layerSpan (x : Seq) : Nat := x.gMax * bytesOf x.big
/-- Bytes of a window, a multiple of 2 MiB. -/
def Seq.window (x : Seq) : Nat := (x.layers * x.layerSpan + 0x1FFFFF) / 0x200000 * 0x200000
/-- The address of the page of group g in layer l. -/
def Seq.pageVa (x : Seq) (l g : Nat) : Nat := x.wbase + l * x.layerSpan + x.slot g * bytesOf x.big

/-- The group of a sequence whose page lies at an address of its window: layer and group. -/
def Seq.at_ (x : Seq) (va : Nat) : Option (Nat × Nat × Nat) :=
  if x.state = .free ∨ va < x.wbase ∨ x.wbase + x.layers * x.layerSpan ≤ va then none
  else
    let l := (va - x.wbase) / max 1 x.layerSpan
    let slot := (va - x.wbase) % max 1 x.layerSpan / bytesOf x.big
    (x.groups.find? fun y => decide (x.slot y.1 = slot)).map fun y => (l, y.1, y.2)

end Sys2Proof.Machine
end

