-- ==== Sys2Proof/Machine/MemOps.lean ====
section
/-!
DEFINITION. Operations on pages, frames and mappings (spec 10_memory_tiers.md): allocation, charges, the state
machine of Table 10.7, access to bytes, loss, relocation.
-/

namespace Sys2Proof.Machine

/-! ### Pages and frames -/

def State.page (s : State) (k : Nat) : Page := Tab.get Page.rest s.mem.pages k
def State.setPage (s : State) (k : Nat) (x : Page) : State :=
  { s with mem := { s.mem with pages := Tab.set Page.rest s.mem.pages k x } }
def State.pageNums (s : State) : List Nat := s.mem.pages.map (·.1)
/-- Applies an operation at every page of a list. -/
def overPages (op : Nat → State → State) : List Nat → State → State
  | [], s => s
  | k :: ks, s => overPages op ks (op k s)

/-- First frame of the stacks, of T2 and of T3 behind the system partition; one past the last (Table 10.1). -/
def stackBase (n : Nat) : Nat := 0x1000000 + n * 0x80000
def stackEnd (n : Nat) : Nat := stackBase n + 0x60000
def t2Base : Nat := 0x2000000
def t2End : Nat := t2Base + 0x400000
def t3Base : Nat := 0x10000000 + 0x80000
def t3End : Nat := 0x10000000 + 0x8000000

/-- The stack of a T1 frame, the die of a T0 frame. -/
def stackOf (frame : Nat) : Nat := (frame - 0x1000000) / 0x80000
def t0Die (frame : Nat) : Nat := frame / 0x4000

/-- Frame `k` of core site `p` of die `d` (Table 10.1). -/
def t0Frame (d p k : Nat) : Nat := d * 0x4000 + p * 0x20 + k

/-- Frames that a page takes: home, raised copy, destination; each with its units. -/
def Page.frames (x : Page) : List (Nat × Nat) :=
  (x.homeFrame, unitsOf x.big) :: ((x.copyAt.map fun c => (c.2, unitsOf x.big)).toList
    ++ (x.dest.map fun d => (d.frame, unitsOf x.big)).toList)

/-- Frames of retired T1 banks and T2 bank sets (R364): an entry of kind 5 or 6 of the retirement record. -/
def retiredFrames (r : Retired) : List (Nat × Nat) :=
  if r.kind = 5 then [(stackBase r.unit + 256 * r.index, 256)]
  else if r.kind = 6 then [(t2Base + 32768 * r.index, 32768)]
  else []

/-- Every frame that is taken or out of service, with its units, rising. -/
def State.takenFrames (s : State) : List (Nat × Nat) :=
  sortBy ((s.mem.pages.flatMap fun x => x.2.frames) ++ s.outUnits.flatMap retiredFrames) fun a b => decide (a.1 ≤ b.1)

/-- The lowest place for `size` units from `lo` up, aligned to `size`, outside the taken frames. [log 62 DEDUCED] -/
def firstFit (size : Nat) : List (Nat × Nat) → Nat → Nat
  | [], lo => (lo + size - 1) / size * size
  | (a, n) :: r, lo =>
    let c := (lo + size - 1) / size * size
    if c + size ≤ a then c else firstFit size r (max lo (a + n))

/-- `k` frames from `lo` up to `hi`, lowest first; fewer where there are no more. [log 62 DEDUCED] -/
def takeFrames (taken : List (Nat × Nat)) (size hi : Nat) : Nat → Nat → List Nat
  | 0, _ => []
  | k + 1, lo =>
    let c := firstFit size taken lo
    if c + size ≤ hi then c :: takeFrames taken size hi k (c + size) else []

/-- A stack takes new frames: its die is in service and it is not being evacuated (R359, R371). -/
def State.stackOpen (s : State) (n : Nat) : Bool :=
  (s.die n).rails = .good && (s.die n).out.isNone && !(s.die n).parked && !(s.die n).parking && !(s.die n).resetting
    && !(s.mem.evac.any fun e => decide (e.stack = n)) && !(s.svc.retiring.any fun r => decide (r.die = n))

/-- Distance round the ring of four dies. -/
def ringDistance (a b : Nat) : Nat := min ((a + 4 - b % 4) % 4) ((b + 4 - a % 4) % 4)

/-- Stacks in ring order of distance from `n`, a tie to the lower number (R341). -/
def ringOrder (n : Nat) : List Nat :=
  sortBy [0, 1, 2, 3] fun a b => decide (ringDistance n a < ringDistance n b
    ∨ (ringDistance n a = ringDistance n b ∧ a ≤ b))

/-- The die with most cores of a flask, a tie to the lower number (R341). -/
def State.mainDie (s : State) (f : Nat) : Nat :=
  ([0, 1, 2, 3].foldl (fun (b : Nat × Nat) n =>
    let k := ((s.flask f).committed.cores.filter fun c => decide (c.1 = n)).length
    if b.2 < k then (n, k) else b) (0, 0)).1

/-- `k` frames of a tier: in T1 on the stack named (4: none named) and then on the others in ring order, unless
STACK_STRICT. Nothing where there are too few. -/
def State.allocFrames (s : State) (f tier stack : Nat) (strict big : Bool) (k : Nat) : Option (List Nat) :=
  let taken := s.takenFrames
  let got :=
    if tier = 1 then
      let first := if stack < 4 then stack else s.mainDie f
      let order := (if strict then [first] else ringOrder first).filter s.stackOpen
      order.foldl (fun got n => got ++ takeFrames taken (unitsOf big) (stackEnd n) (k - got.length) (stackBase n)) []
    else if tier = 2 then takeFrames taken (unitsOf big) t2End k t2Base
    else if tier = 3 then takeFrames taken (unitsOf big) t3End k t3Base
    else []
  if got.length = k then some got else none

/-- Frees a frame: T1 and T2 frames are cleared in the background (R333). -/
def freeFrame (frame : Nat) (big : Bool) (s : State) : State :=
  if 0x1000000 ≤ frame ∧ frame < 0x10000000 then
    { s with mem := { s.mem with clearing := s.mem.clearing ++ [(frame, unitsOf big)] } }
  else s

/-- Pages by number whose frames wait to be cleared before a command completes (R333). -/
def State.uncleared (s : State) (frames : List Nat) (big : Bool) : List Nat :=
  (s.mem.clearing.filter fun c => frames.any fun a =>
    decide (a < c.1 + c.2 ∧ c.1 < a + unitsOf big)).map (·.1)

/-- Makes pages of a flask and context on given frames, each in HOME and zero; answers their numbers. -/
def makePages (f c tier : Nat) (big kv : Bool) (frames : List Nat) (s : State) : State × List Nat :=
  let n := s.mem.made
  let nums := (List.range frames.length).map (n + ·)
  let pages := (nums.zip frames).foldl (fun t (x : Nat × Nat) => Tab.put t x.1
    { Page.rest with used := true, big := big, owner := f, ctx := c, homeTier := tier, homeFrame := x.2, kv := kv })
    s.mem.pages
  ({ s with mem := { s.mem with pages := pages, made := n + frames.length } }, nums)

/-! ### Mappings and addresses -/

/-- Bytes of a mapping. -/
def Mapping.bytes (m : Mapping) : Nat := m.pages.length * bytesOf m.big

/-- The mapping of one KV page under an address of a context's KV region (R272). -/
def State.kvMapAt (s : State) (c va : Nat) : Option Mapping :=
  s.ta.seqs.findSome? fun (x : Nat × Seq) =>
    if x.2.owner ≠ c then none
    else (x.2.at_ va).map fun y =>
      { ctx := c, flask := x.2.flask, va := x.2.pageVa y.1 y.2.1, big := x.2.big, write := true, own := true, kv := true
        pages := [((Tab.get Group.rest s.ta.groups y.2.2).pages).getD y.1 0] }

/-- The mapping of a context that holds an address. -/
def State.mapAt (s : State) (c va : Nat) : Option Mapping :=
  match s.mem.maps.find? fun m => decide (m.ctx = c ∧ m.va ≤ va ∧ va < m.va + m.bytes) with
  | some m => some m
  | none => s.kvMapAt c va

/-- The page under an address of a mapping. -/
def Mapping.pageAt (m : Mapping) (va : Nat) : Nat := m.pages.getD ((va - m.va) / bytesOf m.big) 0

/-- A range of a context meets a mapping. -/
def State.rangeUsed (s : State) (c va n : Nat) : Bool :=
  s.mem.maps.any fun m => decide (m.ctx = c ∧ m.va < va + n ∧ va < m.va + m.bytes)

/-- The numbers of `n` bytes' pages from `va`, `none` where an address is not mapped. The range is aligned to pages. -/
def State.rangePages (s : State) (c : Nat) : Nat → Nat → Nat → Option (List (Mapping × Nat))
  | 0, _, n => if n = 0 then some [] else none
  | fuel + 1, va, n =>
    if n = 0 then some []
    else match s.mapAt c va with
      | none => none
      | some m =>
        let b := bytesOf m.big
        let into := (va - m.va) % b
        if n + into ≤ b then some [(m, m.pageAt va)]
        else (s.rangePages c fuel (va + b - into) (n + into - b)).map fun r => (m, m.pageAt va) :: r

/-- The pages of a range, enough fuel given. -/
def State.pagesOf (s : State) (c va n : Nat) : Option (List (Mapping × Nat)) := s.rangePages c (n / 65536 + 2) va n

/-- Flasks that reference a page through some mapping, the owner among them while it maps it (Table 10.17). -/
def State.refFlasks (s : State) (k : Nat) : List Nat :=
  ((s.mem.maps.filter fun m => m.pages.contains k).map (·.flask)).dedup
/-- Contexts that map a page, the owners of KV sequences among them. -/
def State.refCtxs (s : State) (k : Nat) : List Nat :=
  let gs := (s.ta.groups.filter fun (g : Nat × Group) => g.2.pages.contains k).map (·.1)
  ((s.mem.maps.filter fun m => m.pages.contains k).map (·.ctx)
    ++ (s.ta.seqs.filter fun (x : Nat × Seq) => x.2.groups.any fun y => gs.contains y.2).map (·.2.owner)).dedup

/-- Entries of the translation store in use: a table of 512 entries at levels 0 to 2 and of 32 at level 3, for
each table that a context's mappings need (R335, R339). [log 65 DEDUCED] -/
def State.xlatUsed (s : State) : Nat :=
  let ctxs := (s.mem.maps.map (·.ctx) ++ s.ta.seqs.map (·.2.owner)).dedup
  ctxs.foldl (fun k c =>
    let kv := (s.ta.seqs.filter fun (x : Nat × Seq) => decide (x.2.owner = c)).flatMap fun (x : Nat × Seq) =>
      x.2.groups.flatMap fun y => (List.range x.2.layers).map fun l => (x.2.pageVa l y.1, x.2.big)
    let pages := kv ++ (s.mem.maps.filter fun m => decide (m.ctx = c)).flatMap fun m =>
      (List.range m.pages.length).map fun i => (m.va + i * bytesOf m.big, m.big)
    let l1 := (pages.map fun x => x.1 / 2 ^ 39).dedup.length
    let l2 := (pages.map fun x => x.1 / 2 ^ 30).dedup.length
    let l3 := ((pages.filter fun x => !x.2).map fun x => x.1 / 2 ^ 21).dedup.length
    k + 512 + 512 * l1 + 512 * l2 + 32 * l3) 0

/-- The translation store's size in entries (R339). [log 65 DEDUCED] -/
def xlatSize : Nat := 16777216

/-- Notes the highest use of the translation store. -/
def notePeak (s : State) : State := { s with mem := { s.mem with xlatPeak := max s.mem.xlatPeak s.xlatUsed } }

/-! ### Charges (R345 to R350) -/

/-- The fastest tier that a flask claims or pins of a page; 3 for none. -/
def Page.claimOf (x : Page) (f : Nat) : Nat :=
  ((x.claims.filter fun c => decide (c.flask = f)).map (·.tier) ++ (x.pins.filter fun p => decide (p.1 = f)).map (·.2)).foldl
    min 3
/-- As `claimOf`, without what a job's reservation carries. -/
def Page.freeClaimOf (x : Page) (f : Nat) : Nat :=
  ((x.claims.filter fun c => decide (c.flask = f ∧ c.job = none)).map (·.tier)
    ++ (x.pins.filter fun p => decide (p.1 = f)).map (·.2)).foldl min 3
/-- The tier that a page's home charge falls on: of a KV group, the tier that holds it (R273). -/
def Page.heldTier (x : Page) : Nat := match x.dest, x.kv, x.mstate with
  | some d, true, .rehoming => d.tier
  | _, _, _ => x.homeTier

/-- Loaded jobs' reservations of a flask in a tier: raised copies, and pins (R350). -/
def State.reservedIn (s : State) (f tier : Nat) (pin : Bool) : Nat :=
  s.ex.jobs.foldl (fun k (x : Nat × Job) => if x.2.used ∧ x.2.flask = f then
    k + (if pin then x.2.image.peakPins else x.2.image.peakRaised).getD tier 0
      + (if tier = 1 ∧ !pin then x.2.image.returnPool * unitsOf false else 0) else k) 0

/-- T3 space and staging pools of the map tables of a flask, in 64 KiB units (R314). [log 60 DEDUCED] -/
def State.mapCharge (s : State) (f tier : Nat) : Nat :=
  s.ta.maps.foldl (fun k (x : Nat × MapTable) =>
    let m := x.2
    if !m.created || decide (m.owner ≠ f) then k
    else k + (if tier = 3 then m.t3Bytes / 65536 else 0)
           + (if tier = m.tier then m.slots * (m.rows * m.rowBytes) / 65536 else 0)) 0

/-- Remap tables of the streams of a flask's tundishes, in T2, in 64 KiB units (R410). -/
def State.remapCharge (s : State) (f tier : Nat) : Nat :=
  if tier ≠ 2 then 0
  else s.ing.streams.foldl (fun k (x : Nat × InStream) =>
    if !x.2.joined || decide ((Tab.get Tundish.rest s.ing.tundishes x.2.tundish).flask ≠ f) then k
    else (x.2.remap.toList ++ x.2.stagedRemap.toList).foldl (fun k t => k + (32 + 8 * t.points.length + 65535) / 65536) k) 0

/-- A flask's charge in a tier, reservations included (R345). -/
def State.charge (s : State) (f tier : Nat) : Nat :=
  s.mem.pages.foldl (fun k (p : Nat × Page) =>
    let x := p.2
    if x.owner ≠ f then k
    else k + (if x.heldTier = tier then unitsOf x.big else 0)
           + (if x.freeClaimOf f = tier ∧ tier < x.homeTier then unitsOf x.big else 0)) 0
  + s.reservedIn f tier false + s.mapCharge f tier + s.remapCharge f tier

/-- A flask's pin charge in a tier: pins of its own pages, and claims on pages of others (R349). -/
def State.pinCharge (s : State) (f tier : Nat) : Nat :=
  s.mem.pages.foldl (fun k (p : Nat × Page) =>
    let x := p.2
    let t := if x.owner = f then ((x.pins.filter fun q => decide (q.1 = f)).map (·.2)).foldl min 3 else x.freeClaimOf f
    if t = tier then k + unitsOf x.big else k) 0
  + s.reservedIn f tier true

/-- A context's home charge in a tier (R348). -/
def State.ctxCharge (s : State) (c tier : Nat) : Nat :=
  s.mem.pages.foldl (fun k (p : Nat × Page) =>
    if p.2.ctx = c ∧ p.2.heldTier = tier then k + unitsOf p.2.big else k) 0

def State.quotaOf (s : State) (f tier : Nat) : Nat := (Tab.get (0, 0) (s.flask f).committed.quota tier).1
def State.pinQuotaOf (s : State) (f tier : Nat) : Nat := (Tab.get (0, 0) (s.flask f).committed.quota tier).2
def State.ctxQuotaOf (s : State) (c tier : Nat) : Nat := Tab.get 0xFFFFFFFF s.mem.ctxQuota (4 * c + tier)

/-- `n` more units of home frames fit the flask's and the context's quota (R345, R348). -/
def State.roomFor (s : State) (f c tier n : Nat) : Bool :=
  decide (s.charge f tier + n ≤ s.quotaOf f tier)
    && (s.ctxQuotaOf c tier = 0xFFFFFFFF || decide (s.ctxCharge c tier + n ≤ s.ctxQuotaOf c tier))
/-- `n` more units fit the flask's pin quota. -/
def State.pinRoom (s : State) (f tier n : Nat) : Bool := decide (s.pinCharge f tier + n ≤ s.pinQuotaOf f tier)

/-- Retirement record entries of a kind. -/
def State.retiredOf (s : State) (kind : Nat) : Nat := (s.outUnits.filter fun r => decide (r.kind = kind)).length
/-- Spare flash blocks: 10 % of 8 TiB in blocks of 32 MiB (R333). [log 62 DEDUCED] -/
def t3Spares : Nat := 26214

/-- Capacity of a tier less its retired units (R346, Table 10.14). [log 65 DEDUCED] -/
def State.capacity (s : State) (tier : Nat) : Nat :=
  if tier = 1 then 4 * 0x60000 - 256 * s.retiredOf 5 - 0x60000 * s.retiredOf 8
  else if tier = 2 then 0x400000 - 32768 * s.retiredOf 6 - (if s.svc.traceOn then 65536 else 0)
  else if tier = 3 then 0x8000000 - 0x80000 - 512 * (s.retiredOf 9 - t3Spares)
  else 0

/-- The quota sum of a tier: the greater of staged and committed, over the flasks (R346). -/
def State.quotaSum (s : State) (tier : Nat) : Nat :=
  (List.range 16).foldl (fun k f =>
    let a := Tab.get (0, 0) (s.flask f).committed.quota tier
    let b := Tab.get (0, 0) (s.flask f).shadow.quota tier
    k + max (a.1 + a.2) (b.1 + b.2)) 0

/-- STAGE_FLASK kind 3 keeps the quota sum within the capacity (R346). -/
def quotaFits (f tier q pin : Nat) (s : State) : Bool :=
  let a := Tab.get (0, 0) (s.flask f).committed.quota tier
  let b := Tab.get (0, 0) (s.flask f).shadow.quota tier
  decide (s.quotaSum tier - max (a.1 + a.2) (b.1 + b.2) + max (a.1 + a.2) (q + pin) ≤ s.capacity tier)

/-- Frames of a tier that are free and cleared, in 64 KiB units. -/
def State.freeUnits (s : State) (tier : Nat) : Nat :=
  let lo := if tier = 1 then stackBase 0 else if tier = 2 then t2Base else t3Base
  let hi := if tier = 1 then stackEnd 3 else if tier = 2 then t2End else t3End
  let taken := ((s.mem.pages.flatMap fun x => x.2.frames) ++ s.mem.clearing).filter fun a => decide (lo ≤ a.1 ∧ a.1 < hi)
  s.capacity tier - taken.foldl (fun k a => k + a.2) 0

/-- OVER bit of a flask in a tier (R347). -/
def State.overQuota (s : State) (f tier : Nat) : Bool := decide (s.quotaOf f tier < s.charge f tier)

/-- After a commit of quotas: OVER_QUOTA in each tenant's event word where a charge lies above its quota (R347). -/
def noteOverQuota (f : Nat) (s : State) : State :=
  if s.overQuota f 1 || s.overQuota f 2 || s.overQuota f 3 then
    overPages (fun c => ctxEvent c 29 3 0) (s.flask f).tenants s
  else s

/-! ### Bytes of pages -/

/-- The frame's contents that serve accesses: the raised copy, or the home (R355). [log 9 DESIGN CHOICE] -/
def Page.serving (x : Page) : List Host.Cell := if x.copyAt.isSome then x.copy else x.data
def Page.servingPoison (x : Page) : List Nat := if x.copyAt.isSome then x.copyPoison else x.poison
/-- The tier that serves. -/
def Page.tier (x : Page) : Nat := match x.copyAt with | some c => c.1 | none => x.homeTier
def Page.servingFrame (x : Page) : Nat := match x.copyAt with | some c => c.2 | none => x.homeFrame
/-- Bytes of a poison line. -/
def Page.lineBytes (x : Page) : Nat := if x.tier = 3 then 4096 else 64

/-- Writes one byte of a page: to the serving frame; a raised copy becomes DIRTY (R336, R355). -/
def Page.write (x : Page) (o : Nat) (b : Byte) : Page :=
  if x.copyAt.isSome then { x with copy := Memory.setByte x.copy o b, dirty := true }
  else { x with data := Memory.setByte x.data o b }

/-- Reads a byte of a context's virtual range; 0 where nothing is mapped. -/
def State.vbyte (s : State) (c va : Nat) : Byte :=
  match s.mapAt c va with
  | none => 0
  | some m => Memory.byte (s.page (m.pageAt va)).serving ((va - m.va) % bytesOf m.big)

/-- Reads `n` bytes of a context's virtual range. -/
def State.vread (s : State) (c va : Nat) : Nat → List Byte
  | 0 => []
  | n + 1 => s.vbyte c va :: s.vread c (va + 1) n

/-- Writes a byte of a context's virtual range; an address that is not mapped takes nothing. -/
def vwriteByte (c va : Nat) (b : Byte) (s : State) : State :=
  match s.mapAt c va with
  | none => s
  | some m => let k := m.pageAt va
              s.setPage k ((s.page k).write ((va - m.va) % bytesOf m.big) b)

/-- Writes bytes of a context's virtual range, addresses rising. -/
def vwrite (c va : Nat) : List Byte → State → State
  | [], s => s
  | b :: bs, s => vwrite c (va + 1) bs (vwriteByte c va b s)

/-- Clears the poison of whole lines that a write covers (R362). [log 66 DEDUCED] -/
def unpoison (c va n : Nat) (s : State) : State :=
  match s.pagesOf c va n with
  | none => s
  | some ps => overPages (fun k s =>
      match ps.find? fun x => decide (x.2 = k) with
      | none => s
      | some (m, _) =>
        let x := s.page k
        let start := match (m.pages.findIdx? (· = k)) with | some i => m.va + i * bytesOf m.big | none => m.va
        let keep := fun (l : Nat) => !decide (va ≤ start + l * x.lineBytes ∧ start + (l + 1) * x.lineBytes ≤ va + n)
        if x.copyAt.isSome then s.setPage k { x with copyPoison := x.copyPoison.filter keep }
        else s.setPage k { x with poison := x.poison.filter keep }) (ps.map (·.2)) s

/-- A mapped range is readable, or writable: every page mapped, WRITE set, none LOST. -/
def State.rangeOk (s : State) (c va n : Nat) (write : Bool) : Bool :=
  match s.pagesOf c va n with
  | none => false
  | some ps => ps.all fun x => (!write || x.1.write) && decide ((s.page x.2).mstate ≠ .lost)

/-! ### The state machine of a page (Table 10.7) -/

/-- The target: the fastest tier among the claims, or the home (R356). -/
def Page.target (x : Page) : Nat := (x.claims.map (·.tier) ++ x.pins.map (·.2)).foldl min x.homeTier

/-- Adds a claim of a flask; its raise takes the place of its earlier claim of the same job. -/
def Page.claim (x : Page) (c : Claim) : Page :=
  { x with claims := c :: x.claims.filter fun d => !decide (d.flask = c.flask ∧ d.job = c.job) }

/-- Lowers a flask's claims to a tier, or drops them (3). -/
def Page.lowerClaim (x : Page) (f tier : Nat) : Page :=
  let cs := x.claims.map fun c => if c.flask = f then { c with tier := max c.tier tier } else c
  { x with claims := cs.filter fun c => !decide (c.flask = f ∧ 3 ≤ c.tier) }

/-- Adds bytes moved for a flask (MOVED). -/
def addMoved (f n : Nat) (s : State) : State :=
  let x := Tab.get MoveCount.rest s.mem.counts f
  { s with mem := { s.mem with counts := Tab.put s.mem.counts f { x with movedBytes := x.movedBytes + n } } }

/-- Begins a copy to a tier, if a frame is free: the page is RAISING, LOWERING or REHOMING. -/
def startMove (k : Nat) (st : MState) (tier stack f c : Nat) (frame : Option Nat) (s : State) : State :=
  let x := s.page k
  let go := fun (a : Nat) => s.setPage k { x with mstate := st, dest := some ⟨tier, a, f, c⟩ }
  if st = .lowering ∧ tier = x.homeTier then go x.homeFrame
  else match tier, frame with
    | 0, some a => go a
    | 0, none => s
    | _, _ => match s.allocFrames f tier stack false x.big 1 with
      | some (a :: _) => go a
      | _ => s

/-- Takes up the move that a page in HOME or RAISED needs for its claims (Table 10.7). -/
def reckon (k f c stack : Nat) (frame : Option Nat) (s : State) : State :=
  let x := s.page k
  match x.mstate, x.copyAt with
  | .home, _ => if x.target < x.homeTier then startMove k .raising x.target stack f c frame s else s
  | .raised, some (t, a) =>
    if x.target < t then startMove k .raising x.target stack f c frame s
    else if x.target = t then s
    else if x.target = x.homeTier ∧ !x.dirty then
      freeFrame a x.big (s.setPage k { x with mstate := .home, copyAt := none, copy := [], copyPoison := [] })
    else startMove k .lowering x.target 4 f c none s
  | _, _ => s

/-- One event reaches a page (Table 10.7). [log 63 DEDUCED] -/
def pageEvent (k : Nat) (e : PageEvent) (s : State) : State :=
  let x := s.page k
  let hold := s.setPage k { x with held := x.held ++ [e] }
  match e, x.mstate with
  | .unpin f, .lost => s.setPage k { x with pins := x.pins.filter fun p => p.1 ≠ f }
  | .lower f t, .lost => s.setPage k (x.lowerClaim f t)
  | _, .lost => s
  | _, .rehoming => hold
  | .raise f c t stack job pin frame, .raising =>
    if (x.dest.map (·.tier)).getD 3 ≤ t then s.setPage k (x.claim ⟨f, t, job, pin⟩)
    else s.setPage k { x with held := x.held ++ [.raise f c t stack job pin frame] }
  | .pin f c t, .raising =>
    if (x.dest.map (·.tier)).getD 3 ≤ t then s.setPage k { x with pins := (x.pins.filter (· ≠ (f, t))) ++ [(f, t)] }
    else s.setPage k { x with held := x.held ++ [.pin f c t] }
  | _, .raising => hold
  | .rehome _ _ _ _, .raised => hold
  | .rehome _ _ _ _, .lowering => hold
  | .rehome f c t stack, .home =>
    if x.pins.any (fun p => decide (p.2 = x.homeTier)) ∨ x.claims.any (fun c => c.pin && decide (c.tier = x.homeTier)) ∨ t = x.homeTier then s
    else startMove k .rehoming t stack f c none s
  | .raise f c t stack job pin frame, .lowering =>
    let y := x.claim ⟨f, t, job, pin⟩
    if t ≤ x.tier then
      let s1 := match x.dest with
        | some d => if d.frame = x.homeFrame then s else freeFrame d.frame x.big s
        | none => s
      reckon k f c stack frame (s1.setPage k { y with mstate := .raised, dest := none })
    else s.setPage k y
  | .pin f c t, .lowering =>
    let y := { x with pins := (x.pins.filter (· ≠ (f, t))) ++ [(f, t)] }
    if t ≤ x.tier then
      let s1 := match x.dest with
        | some d => if d.frame = x.homeFrame then s else freeFrame d.frame x.big s
        | none => s
      reckon k f c 4 none (s1.setPage k { y with mstate := .raised, dest := none })
    else s.setPage k y
  | .lower f t, .lowering => s.setPage k (x.lowerClaim f t)
  | .unpin f, .lowering => s.setPage k { x with pins := x.pins.filter fun p => p.1 ≠ f }
  | .raise f c t stack job pin frame, _ => reckon k f c stack frame (s.setPage k (x.claim ⟨f, t, job, pin⟩))
  | .pin f c t, _ => reckon k f c 4 none (s.setPage k { x with pins := (x.pins.filter (· ≠ (f, t))) ++ [(f, t)] })
  | .lower f t, _ => reckon k f x.ctx 4 none (s.setPage k (x.lowerClaim f t))
  | .unpin f, _ => reckon k f x.ctx 4 none (s.setPage k { x with pins := x.pins.filter fun p => p.1 ≠ f })

/-- Lets held events act, in the order in which they came (R357). [log 63 DEDUCED] -/
def replay (k : Nat) (s : State) : State :=
  let x := s.page k
  x.held.foldl (fun s e => pageEvent k e s) (s.setPage k { x with held := [] })

/-- The copy of a page completes: the switch, then the held events (R355, Table 10.7). [log 63 DEDUCED] -/
def copyComplete (k : Nat) (s : State) : State :=
  let x := s.page k
  match x.dest with
  | none => s
  | some d =>
    let s := addMoved d.flask (bytesOf x.big) s
    match x.mstate with
    | .raising =>
      let s := match x.copyAt with | some c => freeFrame c.2 x.big s | none => s
      replay k (reckon k d.flask d.ctx 4 none (s.setPage k { x with
        mstate := .raised, copyAt := some (d.tier, d.frame), dest := none
        copy := x.serving, copyPoison := x.servingPoison }))
    | .lowering =>
      let s := match x.copyAt with | some c => freeFrame c.2 x.big s | none => s
      if d.tier = x.homeTier then
        replay k (reckon k d.flask d.ctx 4 none (s.setPage k { x with
          mstate := .home, copyAt := none, dest := none, dirty := false
          data := x.copy, poison := x.copyPoison, copy := [], copyPoison := [] }))
      else
        replay k (reckon k d.flask d.ctx 4 none (s.setPage k { x with
          mstate := .raised, copyAt := some (d.tier, d.frame), dest := none }))
    | .rehoming =>
      let s := freeFrame x.homeFrame x.big s
      let y := { x with mstate := .home, homeTier := d.tier, homeFrame := d.frame, dest := none
                        claims := x.claims.filter fun c => decide (c.tier < d.tier) || decide (c.flask ≠ x.owner) }
      replay k (reckon k d.flask d.ctx 4 none (s.setPage k y))
    | _ => s

/-- Frees a page from every tier. -/
def freePage (k : Nat) (s : State) : State :=
  let x := s.page k
  let s := x.frames.foldl (fun s a => freeFrame a.1 x.big s) s
  s.setPage k Page.rest

/-- A page of a tundish slot stays with its tundish (R413). -/
def State.inSlot (s : State) (k : Nat) : Bool :=
  s.ing.tundishes.any fun (x : Nat × Tundish) => x.2.slots.any fun y => y.pages.contains k

/-- Frees a page if nothing maps it any more (R344, Table 10.7). -/
def freeUnmapped (k : Nat) (s : State) : State :=
  if (s.page k).used && !s.inSlot k && s.mem.maps.all fun m => !m.pages.contains k then freePage k s else s

/-- Drops claims and pins of a flask on a page, which it no longer maps. -/
def dropFlask (f k : Nat) (s : State) : State :=
  if (s.refFlasks k).contains f then s
  else pageEvent k (.lower f 3) (pageEvent k (.unpin f) s)

/-- Removes the mappings of a test: claims and pins held through them are dropped, pages that nothing references are
freed (R344). -/
def unmapWhere (f : Mapping → Bool) (s : State) : State :=
  let gone := s.mem.maps.filter f
  let s := { s with mem := { s.mem with maps := s.mem.maps.filter fun m => !f m } }
  gone.foldl (fun s m =>
    overPages freeUnmapped m.pages (overPages (dropFlask m.flask) (if m.own then [] else m.pages) s)) s

/-! ### Waits for moves -/

/-- A page has reached what is asked for. -/
def Page.reached (x : Page) : Goal → Bool
  | .raised t => decide (x.tier ≤ t) && decide (x.mstate ≠ .lost) && !(x.held.any fun e => match e with
      | .raise .. | .pin .. => true | _ => false)
  | .lowered f => decide (x.mstate ≠ .lowering ∧ x.mstate ≠ .raising) && !(x.held.any fun e => match e with
      | .lower g _ => decide (g = f) | _ => false)
  | .homed t => decide (x.homeTier = t) && decide (x.mstate ≠ .rehoming)

/-- A wait has come to its end: every page reached, freed or lost. -/
def State.waitOver (s : State) (w : MoveWait) : Bool :=
  w.pages.all fun k => !(s.page k).used || (s.page k).mstate = .lost || (s.page k).reached w.goal

/-- Gives their final replies to the commands whose pages have all moved (PIN, MOVE). -/
def sweepMoves (s : State) : State :=
  let over_ := s.mem.moves.filter s.waitOver
  let s := { s with mem := { s.mem with moves := s.mem.moves.filter fun w => !over_.contains w } }
  over_.foldl (fun s w => match w.mover with | .command t => finishOk t s | .entry _ _ _ => s) s

/-- An entry still waits for its pages (R287, R351). -/
def State.entryMoving (s : State) (engine queue entry : Nat) : Bool :=
  s.mem.moves.any fun w => decide (w.mover = .entry engine queue entry)

/-! ### Revocation, die loss, relocation (R358, R359, R365) -/

/-- Stops the moves of one page that a revoked party asked for, unless another flask claims the destination; drops
its held events; a T0 copy of its jobs is dropped without write-back (R358). -/
def revokePage (f : Nat) (c : Option Nat) (k : Nat) (s : State) : State :=
  let x := s.page k
  let heldF := fun (e : PageEvent) => match e with
    | .raise g d _ _ _ _ _ => decide (g = f) && (c = none || c = some d)
    | .pin g d _ => decide (g = f) && (c = none || c = some d)
    | .rehome g d _ _ => decide (g = f) && (c = none || c = some d)
    | .unpin g => decide (g = f) && c = none
    | .lower g _ => decide (g = f) && c = none
  let y := { x with held := x.held.filter fun e => !heldF e }
  let mine := match y.dest with
    | some d => decide (d.flask = f) && (c = none || c = some d.ctx)
    | none => false
  let others := match y.dest with
    | some d => y.claims.any (fun q => decide (q.flask ≠ f ∧ q.tier ≤ d.tier)) || y.pins.any (fun q => decide (q.1 ≠ f ∧ q.2 ≤ d.tier))
    | none => false
  let (y, freed) := match y.dest with
    | some d =>
      if mine && !(others && decide (y.mstate = MState.raising)) then
        ({ y with dest := none, mstate := if y.copyAt.isSome then .raised else .home },
          if d.frame = y.homeFrame then [] else [d.frame])
      else (y, [])
    | none => (y, [])
  let t0 := match y.copyAt with
    | some (0, _) => y.claims.any fun q => decide (q.flask = f ∧ q.tier = 0)
    | _ => false
  let y := if t0 then { y with copyAt := none, copy := [], copyPoison := [], dirty := false, mstate := .home
                               claims := y.claims.filter fun q => !decide (q.flask = f ∧ q.tier = 0) } else y
  freed.foldl (fun s a => freeFrame a x.big s) (s.setPage k y)

/-- A flask reset: the flask's moves are stopped, what waits for them ends with it (R358). -/
def tiersFlaskReset (f : Nat) (s : State) : State :=
  let s := overPages (revokePage f none) s.pageNums s
  { s with mem := { s.mem with moves := s.mem.moves.filter fun w => match w.mover with
      | .command _ => true
      | .entry e q _ => !((s.queue e q).pours.head?.any fun r => r.flask == f) } }

/-- A context teardown: that context's moves are stopped (R358). -/
def tiersCtxTorn (c : Nat) (s : State) : State :=
  match (List.range 16).find? fun f => decide (c ∈ (s.flask f).tenants) with
  | none => s
  | some f => overPages (revokePage f (some c)) s.pageNums s

/-- A frame lies on stack `n` or in T0 of die `n`. -/
def onDie (n frame : Nat) : Bool :=
  if frame < 0x1000000 then decide (t0Die frame = n)
  else decide (frame < 0x2000000) && decide (stackOf frame = n)

/-- Every line of a page. -/
def allLines (big : Bool) : List Nat := List.range (1024 * unitsOf big)

/-- Table 10.8 for one page. -/
def pageDieLost (n k : Nat) (s : State) : State :=
  let x := s.page k
  let homeLost := onDie n x.homeFrame
  let copyLost := match x.copyAt with | some c => onDie n c.2 | none => false
  let destLost := match x.dest with | some d => onDie n d.frame | none => false
  if !x.used || !(homeLost || copyLost || destLost) then s
  else
    let tell := fun (s : State) => overPages (fun c => ctxEvent c 28 3 0) ((x.ctx :: s.refCtxs k).dedup) s
    let freeC := fun (s : State) => match x.copyAt with
      | some c => if onDie n c.2 then s else freeFrame c.2 x.big s | none => s
    let freeD := fun (s : State) => match x.dest with
      | some d => if onDie n d.frame ∨ d.frame = x.homeFrame then s else freeFrame d.frame x.big s | none => s
    if homeLost then
      tell (freeD (freeC (s.setPage k { x with mstate := .lost, copyAt := none, dest := none, copy := []
                                               copyPoison := [], claims := [], held := [], poison := allLines x.big })))
    else if copyLost then
      let t := x.tier
      let y := { x with mstate := .home, copyAt := none, dest := none, copy := [], copyPoison := [], dirty := false
                        claims := x.claims.filter fun c => decide (t < c.tier), held := []
                        poison := if x.dirty then allLines x.big else x.poison }
      tell (freeD (s.setPage k y))
    else
      let t := match x.dest with | some d => d.tier | none => 3
      let y := { x with dest := none, mstate := if x.copyAt.isSome then .raised else .home
                        claims := if x.mstate = MState.raising then x.claims.filter fun c => decide (t < c.tier) else x.claims
                        held := [] }
      tell (s.setPage k y)

/-- A compute die is lost: Table 10.8 for every page (R359). -/
def tiersDieLost (n : Nat) (s : State) : State := sweepMoves (overPages (pageDieLost n) s.pageNums s)

/-- A frame must be vacated: its bank or bank set is retired, or its stack is evacuated. -/
def State.mustVacate (s : State) (frame : Nat) : Bool :=
  (s.outUnits.flatMap retiredFrames).any (fun a => decide (a.1 ≤ frame ∧ frame < a.1 + a.2))
    || (decide (0x1000000 ≤ frame ∧ frame < 0x2000000) && (s.mem.evac.any (fun e => decide (e.stack = stackOf frame)) || s.svc.retiring.any fun r => decide (r.die = stackOf frame)))
    || (decide (frame < 0x1000000) && (s.die (t0Die frame)).parking)

/-- The pages that relocation has still to move. -/
def State.toRelocate (s : State) : List Nat :=
  s.pageNums.filter fun k => ((s.page k).frames).any fun a => s.mustVacate a.1

/-- A new frame for a relocated one, in the same tier: the same stack first, then ring order (R364, R365). -/
def State.relocTo (s : State) (x : Page) (frame : Nat) : Option Nat :=
  let tier := if frame < 0x2000000 then 1 else if frame < 0x10000000 then 2 else 3
  (s.allocFrames x.owner tier (if tier = 1 then stackOf frame else 4) false x.big 1).bind List.head?

/-- Relocates the frames of a page that must be vacated; state, claims, pins and charges stay (R365). -/
def relocate (k : Nat) (s : State) : State :=
  let x := s.page k
  let s1 := if s.mustVacate x.homeFrame then
      match s.relocTo x x.homeFrame with
      | some a => s.setPage k { x with homeFrame := a }
      | none =>
        -- a parking die: the page goes to T2 beneath its address, its former home recorded (R37)
        if x.homeTier = 1 ∧ (s.die (stackOf x.homeFrame)).parking = true then
          match s.allocFrames x.owner 2 4 false x.big 1 with
          | some (a :: _) => noteOverQuota x.owner
              (s.setPage k { x with homeFrame := a, homeTier := 2, former := some (stackOf x.homeFrame) })
          | _ => s
        else s
    else s
  let x := s1.page k
  match x.copyAt with
  | none => s1
  | some (t, b) =>
    if !s1.mustVacate b then s1
    else match (if 1 ≤ t then s1.relocTo x b else none) with
      | some a => s1.setPage k { x with copyAt := some (t, a) }
      | none =>
        let parking := (s1.die (if t = 0 then t0Die b else stackOf b)).parking
        if parking ∧ t ≤ 1 ∧ x.mstate = .raised then
          s1.setPage k { x with
            mstate := .home, copyAt := none, copy := [], copyPoison := [], dirty := false
            data := if x.dirty then x.copy else x.data, poison := if x.dirty then x.copyPoison else x.poison
            claims := x.claims.filter fun c => decide (x.homeTier ≤ c.tier) }
        else s1

/-- No frame on stack `n` is in use. -/
def memStackEmpty (n : Nat) (s : State) : Bool :=
  s.mem.pages.all fun x => x.2.frames.all fun a => !decide (stackBase n ≤ a.1 ∧ a.1 < stackEnd n)

/-- No frame on die `n`, core stores and stack, is in use. -/
def memDieClear (n : Nat) (s : State) : Bool := s.mem.pages.all fun x => x.2.frames.all fun a => !onDie n a.1

/-- Stack `n` is to be evacuated: no new frame is taken there (R371). -/
def memEvacuate (n : Nat) (s : State) : State :=
  if s.mem.evac.any fun e => decide (e.stack = n) then s
  else { s with mem := { s.mem with evac := s.mem.evac ++ [{ stack := n }] } }

/-- A stack that is empty ends its evacuation; EVACUATE_STACK gets its final reply (Table 10.17). -/
def sweepEvac (s : State) : State :=
  let ended := s.mem.evac.filter fun e => memStackEmpty e.stack s
  let s := { s with mem := { s.mem with evac := s.mem.evac.filter fun e => !ended.contains e } }
  ended.foldl (fun s e => finishOpt e.ticket 0 3 0 (leBytes 4 e.moved) s) s

/-- A job in RUNNING or DRAINING. -/
def Job.live (j : Job) : Bool := j.state = .running || j.state = .draining

/-- A job RUNNING in a paced flask holds a page's entry in translation caches (R337). -/
def State.pageLocked (s : State) (m : Mapping) : Bool :=
  decide ((s.flask m.flask).mode = .paced) && match m.job with
    | some j => (s.job j).live
    | none => false

/-- The page-table entry of a page through a mapping (Table 10.2). -/
def State.pte (s : State) (m : Mapping) (k : Nat) : Nat :=
  let x := s.page k
  List.foldl (· + ·) 0 [1, 2, fieldAt 2 2 x.tier, flagAt 4 m.write, flagAt 5 (!x.pins.isEmpty || x.claims.any fun c => c.pin || c.flask ≠ x.owner),
    flagAt 6 (decide (2 ≤ ((x.owner :: s.refFlasks k).dedup).length)), flagAt 7 x.dirty, fieldAt 8 3 x.mstate.code
    , flagAt 11 (!x.servingPoison.isEmpty), fieldAt 12 4 x.owner, fieldAt 16 36 x.servingFrame, fieldAt 52 2 x.homeTier
    , flagAt 63 (s.pageLocked m)]

/-- The locked entries of a paced flask, as its memory management units hold them (R337, R560). -/
def State.lockedBytes (s : State) (f : Nat) : List Byte :=
  (s.mem.maps.filter fun m => decide (m.flask = f)).flatMap fun m =>
    if s.pageLocked m then m.pages.flatMap fun k => leBytes 8 (s.pte m k) else []

/-! ### Removal of contexts and flasks, resets -/

/-- A context reaches FREE: its mappings go (R344). -/
def tiersCtxFreed (c : Nat) (s : State) : State :=
  let s := unmapWhere (fun m => decide (m.ctx = c)) s
  { s with mem := { s.mem with
      ctxQuota := Tab.del (Tab.del (Tab.del s.mem.ctxQuota (4 * c + 1)) (4 * c + 2)) (4 * c + 3) } }

/-- A flask is removed: the mappings of its tenants go, and its claims (R171). -/
def tiersFlaskRemoved (f : Nat) (s : State) : State :=
  let s := unmapWhere (fun m => decide (m.flask = f)) s
  let s := overPages (fun k s => pageEvent k (.lower f 3) (pageEvent k (.unpin f) s)) s.pageNums s
  { s with mem := { s.mem with counts := Tab.del s.mem.counts f } }

/-- The segments of a job are released (R340). -/
def tiersJobUnloaded (j : Nat) (s : State) : State :=
  let s := unmapWhere (fun m => decide (m.job = some j)) s
  let f := (s.job j).flask
  overPages (fun k s =>
    let x := s.page k
    if x.claims.any fun c => decide (c.job = some j) then
      reckon k f x.ctx 4 none (s.setPage k { x with claims := x.claims.filter fun c => decide (c.job ≠ some j) })
    else s) s.pageNums s

/-- Power-on and module reset: T0 to T2 lose their contents, and with the contexts go all page tables (Table 3.6). -/
def tiersCleared (s : State) : State :=
  { s with mem := { s.mem with pages := [], maps := [], clearing := [], waitClear := [], moves := [], evac := []
                               ctxQuota := [], counts := [] } }

/-- RESET_DIE: the frames of stack `n` and the core stores of die `n` are cleared; no page uses them (R102). -/
def memStackCleared (n : Nat) (s : State) : State :=
  { s with mem := { s.mem with clearing := s.mem.clearing.filter fun a => !onDie n a.1 } }

/-- A parked die is back: each page that parking rehomed to T2 is rehomed to its former stack (R37). -/
def memReturnHomes (n : Nat) (s : State) : State :=
  overPages (fun k s =>
    let x := s.page k
    if x.former = some n then pageEvent k (.rehome x.owner x.ctx 1 n) (s.setPage k { x with former := none }) else s)
    s.pageNums s

end Sys2Proof.Machine
end

