-- ==== Sys2Proof/Machine/KvOps.lean ====
section
/-!
DEFINITION. Operations on KV sequences, page groups and families (spec 08_attention_kv.md, 09_rollouts_and_tables.md).
-/

namespace Sys2Proof.Machine

def State.seq (s : State) (q : Nat) : Seq := Tab.get Seq.rest s.ta.seqs q
def State.setSeq (s : State) (q : Nat) (x : Seq) : State := { s with ta := { s.ta with seqs := Tab.set Seq.rest s.ta.seqs q x } }
def State.group (s : State) (g : Nat) : Group := Tab.get Group.rest s.ta.groups g
def State.setGroup (s : State) (g : Nat) (x : Group) : State :=
  { s with ta := { s.ta with groups := Tab.set Group.rest s.ta.groups g x } }
def State.kvCount (s : State) (f : Nat) : KvCount := Tab.get KvCount.rest s.ta.counts f
def State.setKvCount (s : State) (f : Nat) (x : KvCount) : State :=
  { s with ta := { s.ta with counts := Tab.put s.ta.counts f x } }

/-- The sequences that are not FREE. -/
def State.seqNums (s : State) : List Nat := s.ta.seqs.map (·.1)
/-- Members of a family. -/
def State.members (s : State) (k : Nat) : List Nat := s.seqNums.filter fun q => decide ((s.seq q).family = some k)
/-- Families in use. -/
def State.families (s : State) : List Nat := (s.seqNums.filterMap fun q => (s.seq q).family).dedup

/-- REFS of a page group: the windows that map it. -/
def State.refs (s : State) (g : Nat) : Nat :=
  (s.ta.seqs.filter fun (x : Nat × Seq) => x.2.groups.any fun y => decide (y.2 = g)).length

/-- The tier that holds a group (R273). -/
def State.groupTier (s : State) (g : Nat) : Nat :=
  match (s.group g).pages with
  | [] => 1
  | p :: _ => (s.page p).heldTier

/-! ### Groups -/

/-- Allocates a page group of a flask in a tier, within its quotas (R273, R287). [log 55 DEDUCED] -/
def allocGroup (f c tier : Nat) (big : Bool) (layers : Nat) (pinned : Bool) (s : State) : Option (State × Nat) :=
  let units := layers * unitsOf big
  if !s.roomFor f c tier units ∨ (pinned ∧ !s.pinRoom f tier units) then none
  else match s.allocFrames f tier 4 false big layers with
    | none => none
    | some frames =>
      let (s1, nums) := makePages f c tier big true frames s
      let s2 := if pinned then
          overPages (fun k s => s.setPage k { s.page k with pins := [(f, tier)] }) nums s1
        else s1
      let g := s2.ta.groupsMade
      some ({ s2 with ta := { s2.ta with groups := Tab.put s2.ta.groups g { used := true, flask := f, pages := nums }
                                         groupsMade := g + 1 } }, g)

/-- Frees a group that no window maps. -/
def freeGroup (g : Nat) (s : State) : State :=
  if s.refs g = 0 then (overPages freePage (s.group g).pages s).setGroup g Group.rest else s

/-- A sequence drops its reference to its group k (R309). -/
def dropGroup (q k : Nat) (s : State) : State :=
  let x := s.seq q
  match x.groups.find? fun y => decide (y.1 = k) with
  | none => s
  | some (_, g) => freeGroup g (s.setSeq q { x with groups := Tab.del x.groups k })

/-- Drops every reference of a sequence. -/
def dropAll (q : Nat) (s : State) : State := ((s.seq q).groups.map (·.1)).foldl (fun s k => dropGroup q k s) s

/-- A sequence becomes FREE: groups and window released; its commands get their final replies (Table 8.3). -/
def freeSeq (q : Nat) (s : State) : State :=
  let x := s.seq q
  let s := (dropAll q s).setSeq q Seq.rest
  let s := { s with ta := { s.ta with forkWaits := s.ta.forkWaits.filter fun w => w.source ≠ q ∧ w.target ≠ q } }
  x.closers.foldl (fun s t => if t.opcode = 0x0325 ∧ s.seqNums.any (fun r => (s.seq r).closers.contains t) then s
    else finishOk t s) (x.trim.foldl (fun s w => finish w.2 3 3 0x24 [] s) s)

/-- A group is in migration. -/
def State.groupMoves (s : State) (g : Nat) : Bool :=
  (s.group g).pages.any fun p => decide ((s.page p).mstate ≠ .home ∧ (s.page p).mstate ≠ .raised)

/-- The spill candidate: the oldest group in T1 that is not pinned, not shared, not in migration and not the one being
written (R287). -/
def State.spillCandidate (s : State) (q writing : Nat) : Option Nat :=
  let x := s.seq q
  if x.prealloc then none
  else (x.groups.find? fun y => decide (x.pinHead ≤ y.1 ∧ y.1 ≠ writing) && decide (s.groupTier y.2 = 1)
    && decide (s.refs y.2 = 1) && !s.groupMoves y.2).map (·.2)

/-- Spills a group to T2 (R287, R292). [log 55 DEDUCED] -/
def spill (f c g : Nat) (s : State) : State :=
  let n := s.kvCount f
  overPages (fun k => pageEvent k (.rehome f c 2 4)) (s.group g).pages (s.setKvCount f { n with spills := satInc n.spills })

/-- SLIDE: evicts the oldest groups beyond the pinned ones, oldest first, until one group's pages are freed; `keep` is the
shared group that a private copy reads, `below` the first group not yet committed (R288). Answers the tier freed.
[log 58 DEDUCED] -/
def slide (q keep below : Nat) : Nat → State → State × Option Nat
  | 0, s => (s, none)
  | n + 1, s =>
    let x := s.seq q
    match x.groups.find? fun y => decide (x.pinHead ≤ y.1 ∧ y.1 ≠ keep ∧ y.1 < below) with
    | none => (s, none)
    | some (k, g) =>
      let tier := s.groupTier g
      let alone := s.refs g = 1
      let c := s.kvCount x.flask
      let s := (dropGroup q k s).setKvCount x.flask { c with slides := satInc c.slides }
      let s := s.setSeq q { s.seq q with liveFirst := max x.liveFirst ((k + 1) * x.pTok) }
      if alone then (s, some tier) else slide q keep below n s

/-- What a row's allocation comes to: its state and STATUS bits, or the hold cause with the state in which evictions
stand (R287 to R290). -/
inductive RowOut where
  | open (s : State) (status : Nat) (spilled : List Nat)
  | hold (s : State) (cause : Nat)

/-- Maps a fresh group as the row's group k. -/
def mapGroup (q k g : Nat) (s : State) : State :=
  let x := s.seq q
  s.setSeq q { x with groups := Tab.put x.groups k g }

/-- Finds a group for the row: T1, then spill, then T2, then the policy (R287). `overMax` tells that FILL + LEN exceeds
MAX_TOKENS. Answers the new group, the STATUS bit and the pages spilled. -/
def obtainGroup (q writing keep : Nat) (overMax : Bool) (s : State) :
    Except (State × Nat) (State × Nat × Nat × List Nat) :=
  let x := s.seq q
  let alloc := fun (tier : Nat) (s : State) => allocGroup x.flask x.owner tier x.big x.layers (decide (writing < x.pinHead)) s
  let policy :=
    if !x.slide then .error (s, if overMax then 2 else 1)
    else match slide q keep writing x.groups.length s with
      | (s1, none) => .error (s1, 1)
      | (s1, some tier) => match alloc tier s1 with
        | some (s2, g) => .ok (s2, g, 2, [])
        | none => .error (s1, 1)
  if overMax then policy
  else match alloc 1 s with
    | some (s1, g) => .ok (s1, g, 0, [])
    | none =>
      let room2 := s.roomFor x.flask x.owner 2 (x.layers * unitsOf x.big)
      match s.spillCandidate q writing with
      | some c =>
        if room2 then
          let s1 := spill x.flask x.owner c s
          match alloc 1 s1 with
          | some (s2, g) => .ok (s2, g, 4, (s.group c).pages)
          | none => policy
        else policy
      | none =>
        if room2 ∧ !x.prealloc then
          match alloc 2 s with
          | some (s1, g) => .ok (s1, g, 0, [])
          | none => policy
        else policy

/-- The bytes of a page that a private copy carries: header, and scale bytes and records of the first n (R306). -/
def copiedCells (pTok d n : Nat) (m : List Host.Cell) : List Host.Cell :=
  m.filter fun c => decide (c.1 < 64 + n) || (decide (recordsAt pTok ≤ c.1 ∧ c.1 < recordsAt pTok + n * d))

/-- Copies the pages of a group into another (R306, R307). -/
def copyGroup (a b pTok d n : Nat) (s : State) : State :=
  ((s.group a).pages.zip (s.group b).pages).foldl (fun s (x : Nat × Nat) =>
    s.setPage x.2 { s.page x.2 with data := copiedCells pTok d n (s.page x.1).serving }) s

/-- Obtains the groups of a list, in ascending order. [log 58 DEDUCED] -/
def obtainAll (q : Nat) (overMax : Bool) : List Nat → State → Nat → List Nat → List Nat → RowOut
  | [], s, st, sp, _ => .open s st sp
  | k :: ks, s, st, sp, made =>
    match obtainGroup q k k overMax s with
    | .ok (s1, g, bit, more) =>
      obtainAll q overMax ks (mapGroup q k g s1) (st ||| bit) (sp ++ more) (made ++ [k])
    | .error (s1, cause) => .hold (made.foldl (fun s j => dropGroup q j s) s1) cause

/-- The new groups that a row needs. -/
def Seq.newGroups (x : Seq) (len : Nat) : List Nat :=
  if len = 0 then []
  else
    let a := x.fill / max 1 x.pTok
    let b := (x.fill + len - 1) / max 1 x.pTok
    ((List.range (b + 1 - a)).map (a + ·)).filter fun k => !(x.groups.any fun y => decide (y.1 = k))

/-- The allocation of one row of `len` tokens (R287 to R290, R306). -/
def openRow (q len : Nat) (s : State) : RowOut :=
  let x := s.seq q
  let overMax := decide (x.maxTokens < x.fill + len)
  if 1048576 < x.fill + len then .hold s 2
  else if x.gMax - x.pinHead - 1 < (len + x.pTok - 1) / max 1 x.pTok then .hold s 2
  else if overMax && !x.slide then .hold s 2
  else
    let k := x.fill / max 1 x.pTok
    let part := x.fill % max 1 x.pTok
    let shared := (x.groups.find? fun y => decide (y.1 = k)).map (·.2)
    match shared with
    | some g0 =>
      if part ≠ 0 ∧ 1 < s.refs g0 ∧ len ≠ 0 then
        match obtainGroup q k k overMax s with
        | .error (s1, cause) => .hold s1 cause
        | .ok (s1, g, bit, sp) =>
          let c := s1.kvCount x.flask
          let s2 := (mapGroup q k g (copyGroup g0 g x.pTok x.recSize part s1)).setKvCount x.flask { c with copies := satInc c.copies }
          match obtainAll q overMax (x.newGroups len) s2 bit sp [] with
          | .open s3 st sp => .open s3 st sp
          | .hold s3 cause =>
            .hold (freeGroup g ((s3.setSeq q { s3.seq q with groups := Tab.put (s3.seq q).groups k g0 }))) cause
      else obtainAll q overMax (x.newGroups len) s 0 [] []
    | none => obtainAll q overMax (x.newGroups len) s 0 [] []

/-! ### Forks (R303, R307) -/

/-- Step 1 of R303. -/
def releaseRefs (q : Nat) (s : State) : State :=
  let s := if (s.seq q).prealloc then s else dropAll q s
  let x := s.seq q
  s.setSeq q { x with fill := 0, liveFirst := x.pinHead * x.pTok }

/-- A fork from a source to a target of its family. -/
def forkSeq (a b key : Nat) (s : State) : State :=
  let x := s.seq a
  let s := releaseRefs b s
  let c := s.kvCount x.flask
  let y := s.seq b
  let y' := { y with fill := x.fill, liveFirst := x.liveFirst, key := key % 2 ^ 32, cause := 0
                     state := if y.state = SeqState.closing then SeqState.closing else SeqState.live }
  if x.prealloc then
    let live := x.groups.filter fun g => decide (g.1 * x.pTok < x.fill)
    let s := live.foldl (fun s (g : Nat × Nat) =>
      match y.groups.find? fun h => decide (x.slot h.1 = x.slot g.1) with
      | some h => copyGroup g.2 h.2 x.pTok x.recSize x.pTok s
      | none => s) s
    let groups := live.foldl (fun t (g : Nat × Nat) =>
      match y.groups.find? fun h => decide (x.slot h.1 = x.slot g.1) with
      | some h => Tab.put (Tab.del t h.1) g.1 h.2
      | none => t) y.groups
    (s.setSeq b { y' with groups := groups }).setKvCount x.flask
      { c with forks := satInc c.forks, copies := satAdd c.copies live.length }
  else (s.setSeq b { y' with groups := x.groups }).setKvCount x.flask { c with forks := satInc c.forks }

/-- A fork wait may act: no step of its sequences is in flight, and no earlier wait names them (R305). -/
def State.forkReady (s : State) (earlier : List ForkWait) (w : ForkWait) : Bool :=
  let free := fun (q : Nat) => (s.seq q).step.isNone
    && !(earlier.any fun v => decide (v.source = q ∨ v.target = q))
  free w.target && (w.release || free w.source)

/-- Lets the forks and releases that wait act, in order. -/
def runForks : List ForkWait → List ForkWait → State → State
  | [], _, s => s
  | w :: ws, kept, s =>
    if s.forkReady kept w then
      let s1 := if w.release then releaseRefs w.target s else forkSeq w.source w.target w.key s
      let s1 := match w.status with
        | some (c, va) => vwriteByte c va (if w.release = false ∧ (s.seq w.source).prealloc then 3 else 1) s1
        | none => s1
      let s2 := { s1 with ta := { s1.ta with forkWaits := s1.ta.forkWaits.erase w } }
      let more := s2.ta.forkWaits.any fun v => decide (v.ticket = w.ticket)
      let s3 := match w.ticket with
        | some (t, ret) => if more then s2 else finish t 0 3 0 ret s2
        | none => s2
      runForks ws kept s3
    else runForks ws (kept ++ [w]) s

/-- A KV_FORK entry has rows that have not yet acted (R305). -/
def State.forkPending (s : State) (queue entry : Nat) : Bool :=
  s.ta.forkWaits.any fun w => decide (w.entry = some (queue, entry))

/-- A fork or release that names the sequence waits (R305). -/
def State.forkNames (s : State) (q : Nat) : Bool :=
  s.ta.forkWaits.any fun w => decide (w.target = q ∨ (w.source = q ∧ w.release = false))

/-! ### Steps (R278, R297) -/

/-- TRIM_SEQUENCE: FILL becomes n, groups at and above it are released (R297). [log 58 DEDUCED] -/
def trimSeq (q n : Nat) (s : State) : State :=
  let x := s.seq q
  let gone := (x.groups.filter fun y => decide (n ≤ y.1 * x.pTok)).map (·.1)
  let s := if x.prealloc then s else gone.foldl (fun s k => dropGroup q k s) s
  s.setSeq q { s.seq q with fill := n }

/-- After a step of a sequence has closed: trims, then the end of CLOSING, then forks that wait. -/
def afterStep (q : Nat) (s : State) : State :=
  let x := s.seq q
  let s := (x.trim.foldl (fun s w =>
    let n := min w.1 (s.seq q).fill
    finish w.2 0 3 0 (leBytes 4 n) (trimSeq q n s)) s)
  let s := s.setSeq q { s.seq q with trim := [] }
  let s := if (s.seq q).state = .closing then freeSeq q s else s
  runForks s.ta.forkWaits [] s

/-- The LAST append of a table has completed: FILL rises for its rows, their steps close (R278). -/
def closeTable (table : Nat) (s : State) : State :=
  let qs := s.seqNums.filter fun q => decide ((s.seq q).step = some table)
  qs.foldl (fun s q =>
    let x := s.seq q
    afterStep q (s.setSeq q { x with step := none, stepLen := 0, stepHeld := false
                                     fill := if x.stepHeld then x.fill else x.fill + x.stepLen })) s

/-- An entry has completed: a LAST append closes its steps. -/
def kvEntryDone (queue entry : Nat) (s : State) : State :=
  let mine := s.ta.closings.filter fun c => decide (c.1 = queue ∧ c.2.1 = entry)
  let s := { s with ta := { s.ta with closings := s.ta.closings.filter fun c => !decide (c.1 = queue ∧ c.2.1 = entry) } }
  mine.foldl (fun s c => closeTable c.2.2 s) s

/-- A flask reset discards every step in flight; groups and evictions stand (R278). -/
def kvFlaskReset (f : Nat) (s : State) : State :=
  let qs := s.seqNums.filter fun q => decide ((s.seq q).flask = f) && (s.seq q).step.isSome
  let s := { s with ta := { s.ta with
    closings := []
    forkWaits := s.ta.forkWaits.filter fun w => !(w.entry.isSome && decide ((s.seq w.target).flask = f)) } }
  qs.foldl (fun s q => afterStep q (s.setSeq q { s.seq q with step := none, stepLen := 0, stepHeld := false })) s

/-- The owner reaches FREE, or the flask is removed: its sequences become FREE (Table 8.3). -/
def kvFreeWhere (f : Seq → Bool) (s : State) : State :=
  (s.seqNums.filter fun q => f (s.seq q)).foldl (fun s q => freeSeq q s) s

/-- A copy into a return pool, or a spill, has completed: nothing else is due (R292, R293). -/
def kvCopyDone (_k : Nat) (s : State) : State := s

end Sys2Proof.Machine
end

