-- ==== Sys2Proof/Machine/StreamOps.lean ====
section
/-!
DEFINITION. Operations on drift records, conversion counters and streams (spec 06_core_arithmetic.md R220 to R222,
07_convolution_and_sequence.md R257 to R264), and the listed-settings digest (spec 15, R491).
-/

namespace Sys2Proof.Machine

/-! ### The listed-settings digest -/

/-- The record of Table 15.3 over given versions of components 3 to 9. -/
def listedRecord (stepping : Nat) (versions : List Nat) : List Byte :=
  (leBytes 1 stepping ++ [0, 0, 0] ++ versions.flatMap (leBytes 4) ++ List.replicate 64 0).take 64

/-- The version of a bank of a component. -/
def Component.version (x : Component) (bank : Nat) : Nat := if bank = 0 then x.bankA.version else x.bankB.version

/-- The bank of a component that the module runs, for a flask that has or has not selected a new one (R587). -/
def Component.bankFor (x : Component) (f : Option Nat) : Nat :=
  match x.switch, f with
  | .running, some f => if x.selected.contains f then x.active else 1 - x.active
  | .running, none => 1 - x.active
  | .stopped, some f => if x.selected.contains f then x.active else 1 - x.active
  | .stopped, none => 1 - x.active
  | .waiting, _ => 1 - x.active
  | _, _ => x.active

/-- The digest of the banks that a flask runs on; for `none`, LISTED_DIGEST. -/
def State.digestFor (s : State) (f : Option Nat) : Nat :=
  hashLow64 (listedRecord s.fuses.stepping ([3, 4, 5, 6, 7, 8, 9].map fun k => (s.comp k).version ((s.comp k).bankFor f)))

/-- LISTED_DIGEST. [log 53 DEDUCED] -/
def moduleDigest (s : State) : Nat := s.digestFor none

/-! ### Conversion counters (R206, R235) -/

/-- Adds counts to a core site's registers, which saturate. -/
def countSite (n p : Nat) (c : Counts) (s : State) : State :=
  let k := 144 * n + p
  let x := Tab.get Counts.rest s.ta.sites k
  let y : Counts := { sat := satAdd x.sat c.sat, uf := satAdd x.uf c.uf, nan := satAdd x.nan c.nan }
  { s with ta := { s.ta with sites := Tab.set Counts.rest s.ta.sites k y } }

/-! ### Drift records -/

def driftKey (j t : Nat) : Nat := 65536 * j + t
/-- The declared drift record of a tensor of a job. -/
def State.driftDecl (s : State) (j t : Nat) : Option DriftDecl := (s.job j).image.drifts.find? fun d => decide (d.tensor = t)
/-- The drift record of a tensor: as it stands, or as the image gives it before the job starts. -/
def State.drift (s : State) (j t : Nat) : Drift :=
  match s.ta.drifts.find? fun x => decide (x.1 = driftKey j t) with
  | some x => x.2
  | none => ((s.driftDecl j t).map (·.init)).getD {}
def State.setDrift (s : State) (j t : Nat) (d : Drift) : State :=
  { s with ta := { s.ta with drifts := Tab.put s.ta.drifts (driftKey j t) d } }

/-- Counts of an execution that writes a tensor with a drift record (R206). -/
def countDrift (j t : Nat) (c : Counts) (s : State) : State :=
  let k := driftKey j t
  { s with ta := { s.ta with driftRun := Tab.set Counts.rest s.ta.driftRun k ((Tab.get Counts.rest s.ta.driftRun k).add c) } }

/-- Applies one SET_DRIFT: HOLD_LEFT 0, MOVES kept (R222). -/
def applyDriftSet (x : Nat × Nat × Drift × Option Ticket) (s : State) : State :=
  let d := { x.2.2.1 with holdLeft := 0, moves := (s.drift x.1 x.2.1).moves }
  finishOpt x.2.2.2 0 2 0 (leBytes 8 d.word) (s.setDrift x.1 x.2.1 d)

/-- Applies the SET_DRIFT commands staged for a job. -/
def applyDriftSets (j : Nat) (s : State) : State :=
  let mine := s.ta.driftSets.filter fun x => decide (x.1 = j)
  mine.foldl (fun s x => applyDriftSet x s)
    { s with ta := { s.ta with driftSets := s.ta.driftSets.filter fun x => !decide (x.1 = j) } }

/-- A job starts: its drift records take their initial values, then what SET_DRIFT staged (R222, R236). -/
def driftStart (j : Nat) (s : State) : State :=
  applyDriftSets j ((s.job j).image.drifts.foldl (fun s d => s.setDrift j d.tensor { d.init with holdLeft := 0, moves := 0 }) s)

/-- The execution of an entry is complete: the drift rule for the tensors it writes (R221). -/
def driftDone (j pour entry : Nat) (s : State) : State :=
  ((s.job j).image.drifts.filter fun d => decide (d.pour = pour ∧ d.entry = entry)).foldl (fun s d =>
    let k := driftKey j d.tensor
    let c := Tab.get Counts.rest s.ta.driftRun k
    let s := s.setDrift j d.tensor ((s.drift j d.tensor).move c)
    { s with ta := { s.ta with driftRun := Tab.del s.ta.driftRun k } }) s

/-! ### Streams -/

def State.stream (s : State) (k : Nat) : Stream := Tab.get Stream.rest s.ta.streams k
def State.setStream (s : State) (k : Nat) (x : Stream) : State :=
  { s with ta := { s.ta with streams := Tab.set Stream.rest s.ta.streams k x } }
/-- The stream of index i of a job. -/
def State.streamOf (s : State) (j i : Nat) : Option Nat :=
  (s.ta.streams.find? fun (x : Nat × Stream) => decide (x.2.job = j ∧ x.2.index = i)).map (·.1)

/-- Elements of a state are read in the stream's format. -/
def elements (f : Fmt) (bs : List Byte) : List Nat := (chunks f.bytes bs.length bs).map leNat
/-- Some element is NaN or infinite (R261). -/
def nonFinite (f : Fmt) (bs : List Byte) : Bool := (elements f bs).any fun c => !(f.decode c).isFin

/-- Binds the streams of an image to a job; a stream of an old job with the same index and layout hash hands its home
copy, STEPS and NONFINITE on (R257, R593). -/
def bindStreams (j : Nat) (old : Option Nat) (s : State) : State :=
  let im := (s.job j).image
  let s := ((List.range im.streams.length).zip im.streams).foldl (fun s (x : Nat × StreamDecl) =>
    match lowest (fun k => !(s.stream k).used) 16384 0 with
    | none => s
    | some k =>
      let d := x.2
      let kept := old.bind fun o => (s.ta.streams.find? fun (y : Nat × Stream) =>
        decide (y.2.job = o ∧ y.2.index = x.1 ∧ y.2.layout = d.layout)).map (·.2)
      let base : Stream := { used := true, job := j, index := x.1, tier := d.tier, fmt := d.fmt, layout := d.layout
                             initial := d.initial, state := d.initial }
      s.setStream k (match kept with
        | some y => { base with state := y.state, steps := y.steps, nonfinite := y.nonfinite, lastTime := y.lastTime }
        | none => base)) s
  { s with ta := { s.ta with streamPeak := max s.ta.streamPeak s.ta.streams.length } }

/-- A job is unloaded: its streams are unbound; commands that wait on them fail with JOB_STATE (R264). -/
def unbindStreams (j : Nat) (s : State) : State :=
  let mine := (s.ta.streams.filter fun (x : Nat × Stream) => decide (x.2.job = j)).map (·.1)
  let s := mine.foldl (fun s k =>
    let x := s.stream k
    x.ops.foldl (fun s o => match o with
      | .reset t => finish t 4 2 0x0E [] s
      | .exporting t _ _ => finish t 4 2 0x0E [] s
      | .importing t _ _ _ _ => finish t 4 2 0x0E [] s) (s.setStream k Stream.rest)) s
  let sets := s.ta.driftSets.filter fun x => decide (x.1 = j)
  let s := { s with ta := { s.ta with
    drifts := s.ta.drifts.filter fun x => decide (x.1 / 65536 ≠ j)
    driftRun := s.ta.driftRun.filter fun x => decide (x.1 / 65536 ≠ j)
    driftSets := s.ta.driftSets.filter fun x => decide (x.1 ≠ j) } }
  sets.foldl (fun s x => finishOpt x.2.2.2 4 2 0x0E [] s) s

/-- The capsule of a stream (Table 7.8). -/
def State.capsule (s : State) (k : Nat) : List Byte :=
  let x := s.stream k
  let f := (s.job x.job).flask
  let head := leBytes 2 1 ++ leBytes 2 (moduleDigest s) ++ leBytes 4 (s.flask f).generation ++ leBytes 8 x.layout
    ++ leBytes 8 x.steps ++ leBytes 8 x.lastTime ++ leBytes 8 x.state.length
    ++ leBytes 1 (flagAt 0 x.nonfinite + flagAt 1 (decide ((s.flask f).cls = 3))) ++ List.replicate 19 0
  head ++ leBytes 4 (crc32c (head ++ x.state)) ++ x.state

/-- Writes bytes where a command names them: host memory or the sender's mappings. -/
def putBytes (c : Nat) (toModule : Bool) (a : Nat) (bs : List Byte) (s : State) : State :=
  if toModule then vwrite c a bs s else s.hostWrite a bs
/-- Reads bytes where a command names them. -/
def State.getBytes (s : State) (c : Nat) (fromModule : Bool) (a n : Nat) : List Byte :=
  if fromModule then s.vread c a n else s.hostRead a n

/-- One command on a stream takes effect (R262 to R264). -/
def streamOp (k : Nat) (o : StreamOp) (s : State) : State :=
  let x := s.stream k
  match o with
  | .reset t => finishOk t (s.setStream k { x with state := x.initial, steps := 0, nonfinite := false })
  | .exporting t m a =>
    let c := s.capsule k
    finish t 0 2 0 (leBytes 8 c.length ++ leBytes 8 x.steps) (putBytes t.ctx m a c s)
  | .importing t n nf note st =>
    finish t (if note then 1 else 0) 2 (if note then 0x18 else 0) (leBytes 8 n)
      (s.setStream k { x with state := st, steps := n, nonfinite := nf })

/-- The streams of a job act on what waits for their parting line. [log 52 DEDUCED] -/
def streamsParting (j : Nat) (s : State) : State :=
  let mine := (s.ta.streams.filter fun (x : Nat × Stream) => decide (x.2.job = j)).map (·.1)
  mine.foldl (fun s k =>
    let ops := (s.stream k).ops
    ops.foldl (fun s o => streamOp k o s) (s.setStream k { s.stream k with ops := [] })) s

/-- A new state is written back (R258) and checked (R261). -/
def writeBack (w : WriteBack) (s : State) : State :=
  let x := s.stream w.stream
  if !x.used then s
  else
    let bad := nonFinite x.fmt w.state
    let owner := (s.job x.job).owner
    let s := s.setStream w.stream { x with state := w.state, steps := x.steps + 1, lastTime := s.now
                                           nonfinite := bad || (x.nonfinite && !w.fresh) }
    if bad then ctxEvent owner 20 2 0 s else s

/-- The write-backs of an entry that completes; missing outputs write nothing back. -/
def streamDone (queue entry : Nat) (lost : Bool) (s : State) : State :=
  let mine := s.ta.writeBacks.filter fun w => decide (w.queue = queue ∧ w.entry = entry)
  let rest := s.ta.writeBacks.filter fun w => !decide (w.queue = queue ∧ w.entry = entry)
  let s := { s with ta := { s.ta with writeBacks := rest } }
  if lost then s else mine.foldl (fun s w => writeBack w s) s

/-- Outputs of a stream that is NONFINITE, or becomes so, are not VALID (R261). -/
def State.streamBad (s : State) (queue entry : Nat) : Bool :=
  s.ta.writeBacks.any fun w => decide (w.queue = queue ∧ w.entry = entry)
    && (nonFinite (s.stream w.stream).fmt w.state || ((s.stream w.stream).nonfinite && !w.fresh))

end Sys2Proof.Machine
end

