-- ==== Sys2Proof/Machine/TimeOps.lean ====
section
/-!
DEFINITION. The timebase: instants, calendar, choice of source, slews and seeds, trigger instants
(spec 11_time_and_triggers.md).
-/

namespace Sys2Proof.Machine

/-- Moves the timebase on to an instant; it never steps back (R375). [log 3 DESIGN CHOICE] -/
def advance (t : Nat) (s : State) : State := { s with now := max s.now t }

/-- The first instant at or after `now` at a multiple of `k`, past the last one used. -/
def instantOf (k last now : Nat) : Nat :=
  let c := (now + k - 1) / max 1 k * k
  if c ≤ last then last + k else c

/-! ### Calendar (R387 to R389) -/

structure DateTime where
  year : Nat
  month : Nat
  day : Nat
  hour : Nat := 0
  minute : Nat := 0
  second : Nat := 0
  ns : Nat := 0

/-- R388. -/
def leapYear (y : Nat) : Bool := y % 4 = 0 && (y % 100 ≠ 0 || y % 400 = 0)

def daysIn (y m : Nat) : Nat :=
  if m = 2 then (if leapYear y then 29 else 28) else if m = 4 ∨ m = 6 ∨ m = 9 ∨ m = 11 then 30 else 31

/-- Days of the years from 0 to `y` − 1. -/
def daysBefore (y : Nat) : Nat := 365 * y + (y + 3) / 4 - (y + 99) / 100 + (y + 399) / 400

/-- Days from 1970-01-01 to a date of 1970 or later. -/
def dayNumber (y m d : Nat) : Nat :=
  daysBefore y - daysBefore 1970 + ((List.range (m - 1)).foldl (fun k i => k + daysIn y (i + 1)) 0) + (d - 1)

/-- The month and day of a day of a year, counting from month `m`. -/
def monthOf (y : Nat) : Nat → Nat → Nat → Nat × Nat
  | 0, m, d => (m, d + 1)
  | n + 1, m, d => if d < daysIn y m then (m, d + 1) else monthOf y n (m + 1) (d - daysIn y m)

/-- The date of a day number. -/
def dateOf (n : Nat) : Nat × Nat × Nat :=
  let t := n + daysBefore 1970
  let y0 := t / 366
  let y := (List.range 10).foldl (fun y _ => if daysBefore (y + 1) ≤ t then y + 1 else y) y0
  let md := monthOf y 12 1 (t - daysBefore y)
  (y, md.1, md.2)

/-- R389; a second of 60 needs an announced positive leap second at the end of that day. -/
def State.impossible (s : State) (d : DateTime) : Bool :=
  decide (d.year < 2000 ∨ 2399 < d.year ∨ d.month < 1 ∨ 12 < d.month ∨ d.day < 1 ∨ daysIn d.year d.month < d.day
    ∨ 23 < d.hour ∨ 59 < d.minute ∨ 999999999 < d.ns)
  || (decide (59 < d.second) && !(decide (d.second = 60 ∧ d.hour = 23 ∧ d.minute = 59 ∧ s.tb.leap = 1
        ∧ s.tb.leapDay = (d.year, d.month, d.day))))

/-- TAI nanoseconds of a UTC date and time under the present UTC_OFFSET. -/
def State.taiOf (s : State) (d : DateTime) : Nat :=
  (86400 * dayNumber d.year d.month d.day + 3600 * d.hour + 60 * d.minute + d.second + s.tb.utcOffset) * 1000000000 + d.ns

/-- TAI second of the end of the day that carries the announced leap second. -/
def State.leapEnd (s : State) : Nat :=
  86400 * (dayNumber s.tb.leapDay.1 s.tb.leapDay.2.1 s.tb.leapDay.2.2 + 1) + s.tb.utcOffset

/-- The calendar view of an instant: CAL_DATE and CAL_TIME (R387, R390). -/
def State.calendarAt (s : State) (now : Nat) : Nat × Nat :=
  let tai := now / 1000000000
  let sixty := s.tb.leap = 1 ∧ s.leapEnd = tai
  let utc := tai - s.tb.utcOffset - (if sixty then 1 else 0)
  let d := dateOf (utc / 86400)
  let t := utc % 86400
  if tai < s.tb.utcOffset ∨ d.1 < 2000 ∨ 2399 < d.1 then (0, 0)
  else (d.1 + fieldAt 12 4 d.2.1 + fieldAt 16 5 d.2.2 + flagAt 31 true,
    (if sixty then 60 else t % 60) + fieldAt 8 6 (t / 60 % 60) + fieldAt 16 5 (t / 3600))

/-! ### Sources (R377 to R380) -/

def State.source (s : State) (k : Nat) : TimeSource := Tab.get TimeSource.rest s.tb.sources k
def State.setSource (s : State) (k : Nat) (x : TimeSource) : State :=
  { s with tb := { s.tb with sources := Tab.set TimeSource.rest s.tb.sources k x } }

/-- The rank of a source, lower is better (R377). -/
def State.rank (s : State) (k : Nat) : Nat :=
  let x := s.source k
  if k = 15 then 100000 else (if x.traceable then 0 else 1000) + 16 * x.priority + k

/-- The best of the sources that satisfy a test, holdover if none. -/
def State.best (s : State) (f : TimeSource → Bool) : Nat :=
  (List.range 10).foldl (fun b k => if f (s.source k) && decide (s.rank k < s.rank b) then k else b) 15

/-- The growth of an error bound: ns per second since an instant. -/
def growth (perS since now : Nat) : Nat := (now - since) / 1000000000 * perS

/-- TB_ERR (R395). -/
def State.tbErr (s : State) : Nat :=
  let t := s.tb
  min counterMax (match t.state with
    | .seeded => t.seedErr + growth 50000 t.since s.now
    | .holdover => t.seedErr + growth 200 t.since s.now
    | _ => (s.source t.source).err + t.offset.natAbs)

/-- The selected source is traceable (Table 11.5). -/
def State.traceable (s : State) : Bool := s.tb.source ≠ 15 && (s.source s.tb.source).traceable

/-- The TIME attention cause (R381). [log 69 DEDUCED] -/
def timeCause (s : State) : State := attn 9 7 0 s

/-- UTC_OFFSET follows the selected gPTP source, else what SET_UTC_OFFSET gave (R390). -/
def followUtc (s : State) : State :=
  let t := s.tb
  match if t.source ≤ 6 then (s.source t.source).utc else none with
  | some v => { s with tb := { t with utcOffset := v, fromGptp := true } }
  | none => { s with tb := { t with utcOffset := t.hostUtc, fromGptp := false } }

/-- Shifts what sources read against the timebase, when the timebase has moved by `d`. -/
def shiftSources (d : Int) (s : State) : State :=
  { s with tb := { s.tb with sources := s.tb.sources.map fun (x : Nat × TimeSource) =>
      (x.1, { x.2 with offset := x.2.offset - d, recent := x.2.recent.map (· - d) }) } }

/-- Some paced flask is ACTIVE. -/
def State.pacedActive (s : State) : Bool :=
  (List.range 16).any fun f => (s.flask f).state = .active && (s.flask f).mode = .paced

/-- The timebase changes to source `k` (R379, R385). -/
def changeSource (k : Nat) (s : State) : State :=
  let t := s.tb
  let e := s.tbErr
  if k = t.source then s
  else if k = 15 then
    timeCause (followUtc { s with tb := { t with source := 15, state := .holdover, offset := 0, seedErr := e, since := s.now } })
  else
    let o := (s.source k).offset
    let was := t.wasTraceable || (s.source k).traceable
    if t.state = .seeded ∧ s.pacedActive = false ∧ 0 ≤ o then
      let s := shiftSources o { s with now := s.now + o.toNat }
      timeCause (followUtc { s with tb := { s.tb with
        source := k, state := .locked, offset := 0, stepped := t.stepped || decide (0 < o), since := s.now, wasTraceable := was } })
    else
      timeCause (followUtc { s with tb := { t with
        source := k, state := if o.natAbs < 100 then .locked else .slewing, offset := o, since := s.now, wasTraceable := was } })

/-- A source has become eligible: the timebase changes to it where it ranks above the selected one (R378, R380, R384). -/
def sourceEligible (k : Nat) (s : State) : State :=
  if s.rank k < s.rank s.tb.source then changeSource k s else s

/-- A source loses its qualification; the timebase changes where it was selected (R378). -/
def loseSource (k : Nat) (s : State) : State :=
  let x := s.source k
  if !x.qualified then s.setSource k { x with recent := [] }
  else
    let s := s.setSource k { x with qualified := false, eligible := false, recent := [], losses := min 255 (x.losses + 1) }
    if s.tb.source = k then changeSource (s.best (·.eligible)) s else s

/-- While a neighbour is followed, only its peer source may qualify (R502). [log 69 DEDUCED] -/
def State.mayQualify (s : State) (k : Nat) : Bool :=
  match s.truss.following with
  | some port => decide (k = 8 + port)
  | none => true

/-- A source qualifies now. -/
def qualify (k : Nat) (s : State) : State :=
  let x := s.source k
  if x.enable && !x.qualified && s.mayQualify k then s.setSource k { x with qualified := true, eligible := false, since := s.now } else s

/-- The phase of the selected source moves (R379). -/
def trackPhase (k : Nat) (s : State) : State :=
  let t := s.tb
  if t.source ≠ k then s
  else
    let o := (s.source k).offset
    let st := if t.state = .locked ∧ 1000 < o.natAbs then TbState.slewing
      else if t.state = .slewing ∧ o.natAbs < 100 then .locked else t.state
    followUtc { s with tb := { t with offset := o, state := st, since := if st = t.state then t.since else s.now } }

/-- The selected source's traceable flag may have changed (R381). -/
def noteTraceable (k : Nat) (was : Bool) (s : State) : State :=
  if s.tb.source = k ∧ (s.source k).traceable ≠ was then
    timeCause { s with tb := { s.tb with wasTraceable := s.tb.wasTraceable || (s.source k).traceable } }
  else s

/-! ### Seeds (R376, R384, R395) -/

/-- The seed after a cold start without a real-time clock: 2000-01-01 00:00:00 UTC. [log 68 DEDUCED] -/
def State.epochSeed (s : State) : Nat := (86400 * dayNumber 2000 1 1 + s.tb.utcOffset) * 1000000000

/-- Step 8 of Table 3.3: the timebase is seeded and starts SEEDED. [log 13 DESIGN CHOICE, 68 DEDUCED] -/
def timeStart (s : State) : State :=
  let t := s.tb
  let base : TimeBlock := { t with state := .seeded, stepped := false, source := 15, offset := 0, label := none, lastEdge := none
                                   wasTraceable := false, cold := false, rtc := none, sources := [], trigs := [], ports := [] }
  if t.cold then
    match t.rtc with
    | some v =>
      let e := t.rtcErr + growth 5000 t.rtcSetAt v
      { s with now := v - e, tb := { base with seedErr := e, since := v - e, rtcHeld := true } }
    | none => { s with now := s.epochSeed, tb := { base with seedErr := counterMax, since := s.epochSeed, rtcHeld := false } }
  else
    let bound := t.shadowErr + growth 50000 t.received s.now
    let seed := max (max (s.now - bound) (t.lastOutput + 1)) (t.received + 50000)
    let now := max s.now seed
    { s with now := now, tb := { base with seedErr := max bound s.tbErr, since := now } }

/-- Keystone receives the timebase at an epoch start and adjusts its shadow count; the real-time clock is set from a
timebase that a source disciplines (R376). [log 68 DEDUCED] -/
def noteEpoch (s : State) : State :=
  let t := s.tb
  let e := s.tbErr
  let set := t.state = .locked
  { s with tb := { t with received := s.now, shadowErr := e
                          rtcErr := if set then e else t.rtcErr, rtcSetAt := if set then s.now else t.rtcSetAt } }

/-- Condition 5 of R553. -/
def timeIsGood (s : State) : Bool := s.tb.state ≠ .seeded && decide (s.tbErr ≤ 1000 * s.safe.timeBoundUs)

/-! ### Triggers (R391) -/

def State.trig (s : State) (n : Nat) : Trig := Tab.get Trig.rest s.tb.trigs n
def State.setTrig (s : State) (n : Nat) (x : Trig) : State :=
  { s with tb := { s.tb with trigs := Tab.set Trig.rest s.tb.trigs n x } }

/-- A block of DEN seconds in ns. -/
def TrigSet.block (x : TrigSet) : Nat := x.den * 1000000000
/-- Pulse k of the block that starts at `b`. -/
def TrigSet.pulseAt (x : TrigSet) (b k : Nat) : Nat := b + x.phase + k * x.block / max 1 x.num

/-- The latest periodic instant at or before `t`. -/
def TrigSet.latest (x : TrigSet) (t : Nat) : Option Nat :=
  if x.mode ≠ 1 ∨ x.num = 0 then none
  else
    let b := t / max 1 x.block * x.block
    if x.phase ≤ t - b then
      let k := min (x.num - 1) (((t - b - x.phase + 1) * x.num - 1) / max 1 x.block)
      some (x.pulseAt b k)
    else if b = 0 then none else some (x.pulseAt (b - x.block) (x.num - 1))

/-- The first periodic instant after `t`. -/
def TrigSet.after (x : TrigSet) (t : Nat) : Nat :=
  let b := t / max 1 x.block * x.block
  if t - b < x.phase then b + x.phase
  else
    let k := ((t - b - x.phase + 1) * x.num - 1) / max 1 x.block + 1
    if k < x.num then x.pulseAt b k else x.pulseAt (b + x.block) 0

/-- The latest instant of a line at or before `t`. -/
def State.trigLatest (s : State) (n t : Nat) : Option Nat :=
  let x := s.trig n
  match x.set.latest t with
  | some v => some v
  | none => if x.fired ≠ 0 ∧ x.lastAt ≤ t then some x.lastAt else none

/-- The TB_STATUS word (Table 11.5). -/
def State.tbStatus (s : State) : Nat :=
  let t := s.tb
  let pend := s.best fun x => x.qualified && !x.eligible
  [t.state.code, flagAt 3 t.stepped, fieldAt 4 4 t.source,
    fieldAt 8 4 (if s.rank pend < s.rank t.source then pend else 15), flagAt 12 s.traceable, fieldAt 13 2 t.leap,
    flagAt 15 t.rtcHeld].foldl (· + ·) 0

/-- TB_OFFSET (Table 11.5). -/
def State.tbOffset (s : State) : Nat := twosOf 32 (max (-2147483647) (min 2147483647 s.tb.offset))

end Sys2Proof.Machine
end

