-- ==== Sys2Proof/Machine/ControlOps.lean ====
section
/-!
DEFINITION. The Control Engine's rows and register words, the trip latch, frames, and what the end of a flask does to them
(spec 14_control_and_solver.md).
-/

namespace Sys2Proof.Machine

def State.signal (s : State) (k : Nat) : Signal := Tab.get Signal.rest s.ctl.signals k
def State.setSignal (s : State) (k : Nat) (x : Signal) : State :=
  { s with ctl := { s.ctl with signals := Tab.set Signal.rest s.ctl.signals k x } }
def State.loop (s : State) (k : Nat) : LoopCh := Tab.get LoopCh.rest s.ctl.loops k
def State.setLoop (s : State) (k : Nat) (x : LoopCh) : State :=
  { s with ctl := { s.ctl with loops := Tab.set LoopCh.rest s.ctl.loops k x } }
def State.ffTable (s : State) (k : Nat) : FfTable := Tab.get FfTable.rest s.ctl.tables k
def State.setFfTable (s : State) (k : Nat) (x : FfTable) : State :=
  { s with ctl := { s.ctl with tables := Tab.set FfTable.rest s.ctl.tables k x } }
def State.traceCh (s : State) (k : Nat) : TraceCh := Tab.get TraceCh.rest s.ctl.traces k
def State.setTraceCh (s : State) (k : Nat) (x : TraceCh) : State :=
  { s with ctl := { s.ctl with traces := Tab.set TraceCh.rest s.ctl.traces k x } }
def State.traj (s : State) (k : Nat) : Traj := Tab.get Traj.rest s.ctl.trajs k
def State.setTraj (s : State) (k : Nat) (x : Traj) : State :=
  { s with ctl := { s.ctl with trajs := Tab.set Traj.rest s.ctl.trajs k x } }
def State.qp (s : State) (k : Nat) : Qp := Tab.get Qp.rest s.ctl.qps k
def State.setQp (s : State) (k : Nat) (x : Qp) : State :=
  { s with ctl := { s.ctl with qps := Tab.set Qp.rest s.ctl.qps k x } }
def State.port (s : State) (k : Nat) : EthPort := Tab.get EthPort.rest s.tb.ports k
def State.setPort (s : State) (k : Nat) (x : EthPort) : State :=
  { s with tb := { s.tb with ports := Tab.set EthPort.rest s.tb.ports k x } }

/-- Loop channels that have been configured. -/
def State.loopNums (s : State) : List Nat := s.ctl.loops.map (·.1)

/-! ### The rate limit (R461) -/

/-- Section updates per second as a fraction, `skip` left out. -/
def State.loopLoadBut (s : State) (skip : Option Nat) : Nat × Nat :=
  s.ctl.loops.foldl (fun (a : Nat × Nat) (x : Nat × LoopCh) =>
    if x.2.state = .off ∨ some x.1 = skip then a
    else (a.1 * x.2.record.periodNs + a.2 * (x.2.cascade.length * 1000000000), a.2 * x.2.record.periodNs)) (0, 1)

/-- A channel of `n` sections at a period fits beside the others. [log 88 DEDUCED] -/
def State.rateFits (s : State) (k n period : Nat) : Bool :=
  let a := s.loopLoadBut (some k)
  decide (a.1 * period + a.2 * (n * 1000000000) ≤ 2000000 * (a.2 * period))

/-- LOOP_LOAD (Table 14.10). -/
def State.loopLoad (s : State) : Nat := let a := s.loopLoadBut none; a.1 / max 1 a.2

/-! ### Frames (R457, R458, R465, R470) -/

/-- The Ethernet port number of a medium and port. -/
def ethPort (medium port : Nat) : Nat := if medium = 1 then port else 4 + port

/-- The status byte of a channel's frames at an output time. -/
def State.loopStatusByte (s : State) (c : LoopCh) (at_ : Nat) : Nat :=
  let limit := (s.rclass c.record.cls).cfg.ageLimit * 1000
  [flagAt 0 c.outValid, flagAt 1 (c.state = .manual), flagAt 2 (c.state = .tripped), flagAt 3 (c.state = .faulted),
    flagAt 4 c.sp.attrs.shifted, flagAt 5 (decide (limit ≠ 0 ∧ limit < at_ - c.sp.epoch))].foldl (· + ·) 0

/-- Queues a channel's transmit frames; a frame that still waits is replaced (R458). [log 89 DEDUCED] -/
def queueFrames (k at_ : Nat) (s : State) : State :=
  let maps := s.ctl.txMaps.filter fun (x : Nat × FrameMap) => decide (x.2.loop = k)
  maps.foldl (fun s (x : Nat × FrameMap) =>
    let c := s.loop k
    let frame : TxFrame := { map := x.1, payload := x.2.payload (fun n => (s.signal n).value) (s.loopStatusByte c at_) }
    let late := s.ctl.queued.any fun q => decide (q.map = x.1)
    let s := if late then s.setLoop k { c with lateTx := satInc c.lateTx } else s
    { s with ctl := { s.ctl with queued := (s.ctl.queued.filter fun q => decide (q.map ≠ x.1)) ++ [frame] } }) s

/-- Writes a channel's output to the slot its record names. -/
def writeOutSlot (k at_ : Nat) (s : State) : State :=
  let c := s.loop k
  if c.record.outSlot = 0xFFFF then s
  else s.setSignal c.record.outSlot { value := c.u, time := at_, valid := c.outValid }

/-- The gate of a traffic class is open at an instant (R459). -/
def EthPort.gateOpen (p : EthPort) (cls at_ : Nat) : Bool :=
  let cycle := p.gates.foldl (fun n (g : Nat × Nat) => n + g.2) 0
  let at_ := at_ % max 1 cycle
  match (p.gates.foldl (fun (a : Nat × Option Nat) (g : Nat × Nat) =>
      (a.1 + g.2, if a.1 ≤ at_ ∧ at_ < a.1 + g.2 then some g.1 else a.2)) (0, none)).2 with
  | some mask => bitAt mask cls
  | none => true

/-! ### The trip latch (R470) -/

/-- A command that waits at a channel ends otherwise than it asked. -/
def LoopPending.ticket : LoopPending → Ticket
  | .auto t _ => t
  | .manual t => t
  | .opening t => t

/-- Ends a channel's pending change. [log 86 DEDUCED] -/
def dropPending (k detail : Nat) (s : State) : State :=
  let c := s.loop k
  match c.pending with
  | none => s
  | some p => finish p.ticket 4 6 detail [] (s.setLoop k { c with pending := none })

/-- A channel enters TRIPPED; its frames are sent at once. -/
def tripLoop (k : Nat) (s : State) : State :=
  let s := dropPending k 2 s
  let c := s.loop k
  if c.state = .off then s
  else queueFrames k s.now (writeOutSlot k s.now (s.setLoop k { c with
    state := .tripped, outValid := false, u := if c.record.tripOutUsed then c.record.tripOut else c.u }))

/-- The latch is set by source 0 TRIP_IN_A_N, 1 TRIP_IN_B_N, 2 TRIP_LOOPS, 3 the safe state. -/
def tripBy (source : Nat) (s : State) : State :=
  let fires := !s.ctl.latched
  let s := { s with ctl := { s.ctl with
    latched := true, tripSources := s.ctl.tripSources ||| BitVec.ofNat 4 (2 ^ source)
    trips := if fires then satInc s.ctl.trips else s.ctl.trips
    traces := if fires then s.ctl.traces.map fun (x : Nat × TraceCh) =>
        (x.1, if x.2.state = 1 ∧ x.2.trigger = 1 then x.2.fire s.now else x.2) else s.ctl.traces } }
  s.loopNums.foldl (fun s k => tripLoop k s) s

/-! ### The end of a flask -/

/-- A channel of a removed flask: its frames are sent once, then it is OFF (Table 14.4). -/
def loopRemoved (k : Nat) (s : State) : State :=
  let s := dropPending k 0xF s
  let c := s.loop k
  let s := match c.staged with
    | some x => finish x.2.2 4 6 0xF [] s
    | none => s
  let s := if c.state = .off then s
    else queueFrames k s.now (writeOutSlot k s.now (s.setLoop k { c with
      outValid := false, u := if c.record.tripOutUsed then c.record.tripOut else c.u }))
  { s with ctl := { s.ctl with loops := Tab.del s.ctl.loops k } }

/-- A problem's number is free again. -/
def endQp (k : Nat) (s : State) : State :=
  finishOpt (s.qp k).ticket 4 6 0xF [] { s with ctl := { s.ctl with qps := Tab.del s.ctl.qps k } }

def ctlFlaskRemoved (f : Nat) (s : State) : State :=
  let s := (s.ctl.loops.filter fun (x : Nat × LoopCh) => decide (x.2.record.flask = f)).foldl
    (fun s (x : Nat × LoopCh) => loopRemoved x.1 s) s
  let s := (s.ctl.qps.filter fun (x : Nat × Qp) => decide (x.2.flask = f)).foldl (fun s (x : Nat × Qp) => endQp x.1 s) s
  { s with ctl := { s.ctl with
      tables := s.ctl.tables.filter fun (x : Nat × FfTable) => decide (x.2.flask ≠ f)
      traces := s.ctl.traces.filter fun (x : Nat × TraceCh) => decide (x.2.flask ≠ f)
      trajs := s.ctl.trajs.filter fun (x : Nat × Traj) => decide (x.2.flask ≠ f)
      trajWaits := s.ctl.trajWaits.filter fun (x : Nat × Nat × Traj) => decide (x.1 ≠ f) } }

/-- A flask reset leaves loops and trajectories; what had not reached its boundary is lost. -/
def ctlFlaskReset (f : Nat) (s : State) : State :=
  { s with ctl := { s.ctl with trajWaits := s.ctl.trajWaits.filter fun (x : Nat × Nat × Traj) => decide (x.1 ≠ f) } }

/-- Trajectories that a flask has published take effect at its boundary (R465). [log 94 DEDUCED] -/
def ctlBoundary (f : Nat) (s : State) : State :=
  let mine := s.ctl.trajWaits.filter fun (x : Nat × Nat × Traj) => decide (x.1 = f)
  let s := mine.foldl (fun s (x : Nat × Nat × Traj) => s.setTraj x.2.1 x.2.2) s
  ctlFlaskReset f s

/-- A problem, trajectory slot or table that a pour image names is there for the flask (R478). -/
def State.controlOwned (s : State) (f : Nat) (u : Nat × Nat) : Bool :=
  if u.1 = 4 then (s.qp u.2).created && decide ((s.qp u.2).flask = f)
  else if u.1 = 5 then decide (u.2 < 16) && (decide (s.traj u.2 = Traj.rest) || decide ((s.traj u.2).flask = f))
  else true

/-! ### Register words (Tables 14.9 to 14.11) -/

def State.loopWord (s : State) (k w : Nat) : Nat :=
  let c := s.loop k
  let pend := match c.pending with
    | some (.auto _ _) => true
    | some (.manual _) => true
    | _ => false
  match w with
  | 0 => c.state.code + flagAt 3 c.staged.isSome + flagAt 4 pend + fieldAt 8 4 c.record.flask
      + fieldAt 12 4 c.cascade.length
  | 1 => c.samples
  | 2 => c.stale
  | 3 => c.clamped
  | 4 => c.bumps
  | 5 => c.lateTx
  | _ => 0

def State.tripWord (s : State) (w : Nat) : Nat :=
  match w with
  | 0 => flagAt 0 s.ctl.latched + fieldAt 1 4 s.ctl.tripSources.toNat
  | 1 => s.ctl.trips
  | 2 => s.loopLoad
  | _ => 0

def State.traceWord (s : State) (t w : Nat) : Nat :=
  let x := s.traceCh t
  match w with
  | 0 => x.state
  | 1 => x.ring.length
  | 2 => x.trigIndex
  | _ => 0

/-- Bytes of the Solver store in use (R473). -/
def State.solverUsed (s : State) : Nat :=
  s.ctl.qps.foldl (fun n (x : Nat × Qp) => n + x.2.desc.storeBytes x.2.nnzL) 0

def State.qpWord (s : State) (p w : Nat) : Nat :=
  let x := s.qp p
  if !x.created then 0
  else match w with
  | 0 => 1 + flagAt 1 x.factorDue + flagAt 2 x.inputMissing + flagAt 3 x.prev.isSome + fieldAt 8 4 x.flask
      + fieldAt 16 8 x.shifts + fieldAt 24 8 x.lastStatus
  | 1 => x.desc.n + fieldAt 16 16 x.desc.m
  | 2 => x.nnzL
  | 3 => x.iterMacs
  | 4 => (x.factorMacs + 1023) / 1024
  | 5 => x.solves
  | 6 => x.failures
  | 7 => x.shifted
  | _ => 0

def State.solverStore (s : State) : Nat := (s.solverUsed + 1023) / 1024

end Sys2Proof.Machine
end

