-- ==== Sys2Proof/Machine/IngestOps.lean ====
section
/-!
DEFINITION. Streams, tundishes and sessions: rows, register words, the ends of slots, tundishes and sessions
(spec 12_ingest_and_video.md).
-/

namespace Sys2Proof.Machine

def State.instream (s : State) (k : Nat) : InStream := Tab.get InStream.rest s.ing.streams k
def State.setInstream (s : State) (k : Nat) (x : InStream) : State :=
  { s with ing := { s.ing with streams := Tab.set InStream.rest s.ing.streams k x } }
def State.tundish (s : State) (u : Nat) : Tundish := Tab.get Tundish.rest s.ing.tundishes u
def State.setTundish (s : State) (u : Nat) (x : Tundish) : State :=
  { s with ing := { s.ing with tundishes := Tab.set Tundish.rest s.ing.tundishes u x } }
/-- Sessions: kind 0 decode, 1 encode. -/
def State.session (s : State) (kind n : Nat) : Session :=
  Tab.get Session.rest (if kind = 0 then s.ing.decodes else s.ing.encodes) n
def State.setSession (s : State) (kind n : Nat) (x : Session) : State :=
  if kind = 0 then { s with ing := { s.ing with decodes := Tab.set Session.rest s.ing.decodes n x } }
  else { s with ing := { s.ing with encodes := Tab.set Session.rest s.ing.encodes n x } }

def State.setSlot (s : State) (u i : Nat) (x : Slot) : State :=
  let t := s.tundish u
  s.setTundish u { t with slots := t.slots.set i x }

/-- The streams that belong to a tundish, enabled or not (R399). [log 71 DEDUCED] -/
def State.membersOf (s : State) (u : Nat) : List (Nat × InStream) :=
  s.ing.streams.filter fun (x : Nat × InStream) => x.2.joined && decide (x.2.tundish = u)

/-- The enabled members of a tundish: the members that its batches wait for. [log 71 DEDUCED] -/
def State.enabledOf (s : State) (u : Nat) : List (Nat × InStream) := (s.membersOf u).filter fun m => m.2.enabled

/-- The slot that holds the batch of a reference instant. -/
def Tundish.slotOf (x : Tundish) (t : Nat) : Option Nat :=
  x.slots.findIdx? fun y => y.state ≠ .free && decide (y.t = t)

/-- Slots in a state. -/
def Tundish.countIn (x : Tundish) (st : SlotState) : Nat := (x.slots.filter fun y => y.state = st).length

/-- The slot of a state with the least (or greatest) reference instant. -/
def Tundish.pick (x : Tundish) (newest : Bool) (f : Slot → Bool) : Option Nat :=
  ((List.range x.slots.length).zip x.slots).foldl (fun (b : Option Nat) (y : Nat × Slot) =>
    if !f y.2 then b
    else match b with
      | none => some y.1
      | some i =>
        let z := x.slots.getD i {}
        if (if newest then z.t < y.2.t else y.2.t < z.t) then some y.1 else b) none

/-- A slot becomes FREE; its batch is gone. [log 72 DEDUCED] -/
def freeSlot (u i : Nat) (s : State) : State :=
  let x := s.tundish u
  let y := x.slots.getD i {}
  let done := match x.doneT with | some t => max t y.t | none => y.t
  let s := s.setTundish u { x with slots := x.slots.set i { pages := y.pages }, doneT := if y.state = .free then x.doneT else some done }
  (s.membersOf u).foldl (fun s (m : Nat × InStream) => match m.2.sample with
    | some z => if z.ref = y.t then s.setInstream m.1 { m.2 with sample := some { z with dropped := true } } else s
    | none => s) s

/-- The slots of a tundish become FREE (Table 12.6). -/
def freeSlots (u : Nat) (s : State) : State :=
  (List.range (s.tundish u).slots.length).foldl (fun s i => freeSlot u i s) s

/-- A tundish ends: its window and slots go, its members leave it. -/
def endTundish (u : Nat) (s : State) : State :=
  let x := s.tundish u
  let s := freeSlots u s
  let s := (s.membersOf u).foldl (fun s (m : Nat × InStream) =>
    s.setInstream m.1 { s.instream m.1 with joined := false, enabled := false }) s
  let s := { s with mem := { s.mem with maps := s.mem.maps.filter fun m => !decide (m.ctx = x.owner ∧ m.va = x.windowVa) } }
  let s := s.setTundish u Tundish.rest
  finishOpt x.destroyer 0 4 0 [] (overPages freePage (x.slots.flatMap (·.pages)) s)

/-- A DESTROY_TUNDISH ends once the members are disabled (Table 12.18). -/
def sweepTundishes (s : State) : State :=
  let gone := s.ing.tundishes.filter fun (x : Nat × Tundish) =>
    x.2.destroyer.isSome && !(s.membersOf x.1).any fun m => m.2.enabled
  gone.foldl (fun s (x : Nat × Tundish) => endTundish x.1 s) s

/-- CLOSE_SESSION ends once the last picture is out. -/
def sweepSession (kind n : Nat) (s : State) : State :=
  let x := s.session kind n
  match x.closer with
  | none => s
  | some t => if x.held.isEmpty && x.input.isNone then finishOk t (s.setSession kind n Session.rest) else s

/-- Ends the sessions of a test. -/
def endSessions (f : Session → Bool) (s : State) : State :=
  let drop := fun (kind : Nat) (t : Tab Session) (s : State) =>
    (t.filter fun (x : Nat × Session) => f x.2).foldl (fun s (x : Nat × Session) =>
      finishOpt x.2.closer 0 4 0 [] (s.setSession kind x.1 Session.rest)) s
  drop 1 s.ing.encodes (drop 0 s.ing.decodes s)

def ingestFlaskReset (f : Nat) (s : State) : State :=
  (s.ing.tundishes.filter fun (x : Nat × Tundish) => decide (x.2.flask = f)).foldl
    (fun s (x : Nat × Tundish) => freeSlots x.1 s) s

def ingestEndWhere (f : Tundish → Bool) (g : Session → Bool) (s : State) : State :=
  endSessions g ((s.ing.tundishes.filter fun (x : Nat × Tundish) => f x.2).foldl
    (fun s (x : Nat × Tundish) => endTundish x.1 s) s)

/-- Camera streams configured (Table 4.17). -/
def State.cameras (s : State) : Nat := (s.ing.streams.filter fun (x : Nat × InStream) => x.2.rec_.isSome && decide (x.1 < 48)).length

/-! ### Words (Tables 12.14 to 12.16) -/

def State.streamWord (s : State) (k w : Nat) : Nat :=
  let x := s.instream k
  match w with
  | 0 => [flagAt 0 x.enabled, flagAt 1 x.stagedRemap.isSome, flagAt 2 x.required, fieldAt 8 4 x.tundish
          , fieldAt 16 5 x.member].foldl (· + ·) 0
  | 1 => x.samples
  | 2 => x.damaged
  | 3 => x.absent
  | 4 => x.sat
  | 5 => x.uf
  | 6 => x.nan
  | 7 => x.phyErr
  | _ => 0

def State.tundishWord (s : State) (u w : Nat) : Nat :=
  let x := s.tundish u
  match w with
  | 0 => [fieldAt 0 5 x.slots.length, fieldAt 5 5 (x.countIn .ready), fieldAt 10 5 (x.countIn .filling), flagAt 15 x.overflow
          , fieldAt 16 3 x.lowCause.toNat, flagAt 19 x.dropNewest, fieldAt 20 4 x.flask].foldl (· + ·) 0
  | 1 => x.lastTaken
  | 2 => x.overrun
  | 3 => x.skipped
  | 4 => x.missing
  | 5 => x.concealed
  | _ => 0

/-- Declared luma rate of a session, in samples per second. -/
def Session.load (x : Session) : Nat := if x.used then x.lumaRate else 0
def sessionLoad (t : Tab Session) : Nat := t.foldl (fun k (x : Nat × Session) => k + x.2.load) 0

def State.codecWord (s : State) (w : Nat) : Nat :=
  match w with
  | 0 => fieldAt 0 7 s.ing.decodes.length + fieldAt 8 6 s.ing.encodes.length
  | 1 => sessionLoad s.ing.decodes / 1000000
  | 2 => sessionLoad s.ing.encodes / 1000000
  | 3 => s.ing.encDrops
  | _ => 0

end Sys2Proof.Machine
end

