-- ==== Sys2Proof/Machine/Planning.lean ====
section
/-!
DEFINITION. Cost cubes, octrees and the lattice search as functions (spec 13_fusion_tracking_planning.md, R444 to R449).
-/

namespace Sys2Proof.Machine

/-! ### Cost cube (R444) -/

/-- Fields within Table 13.8. -/
def CostRec.ok (r : CostRec) : Bool :=
  decide (1 ≤ r.w ∧ r.w ≤ 1024 ∧ 1 ≤ r.h ∧ r.h ≤ 1024 ∧ 1 ≤ r.layers ∧ r.layers ≤ 16 ∧ 1 ≤ r.nt ∧ r.nt ≤ 32
    ∧ r.inflate ≤ 32 ∧ 1 ≤ r.occLethal ∧ r.occLethal ≤ 255)

/-- base of a cell, `st l` its value in static layer l. -/
def CostRec.base (r : CostRec) (st : Nat → Nat) : Nat :=
  if (List.range r.layers).any fun l => decide (st l = 255) && bitAt r.lethalMask l then 255
  else min 254 (((List.range r.layers).foldl (fun k l => k + r.weights.getD l 0 * st l) 0 + 8) / 16)

/-- Cost of a cell in a layer before inflation. -/
def CostRec.cost (r : CostRec) (base occ : Nat) : Nat :=
  if base = 255 ∨ r.occLethal ≤ occ then 255 else min 254 (base + (r.wOcc * occ + 8) / 16)

/-- The least r with r² ≥ d². -/
def ceilSqrt (n : Nat) : Nat := let k := rootOf n; if k * k = n then k else k + 1

/-- Inflation of one time layer of costs by row. -/
def CostRec.inflated (r : CostRec) (layer : List Nat) : List Nat :=
  let lethal := fun (x y : Int) => decide (0 ≤ x ∧ x < r.w ∧ 0 ≤ y ∧ y < r.h)
    && decide (layer.getD (y.toNat * r.w + x.toNat) 0 = 255)
  let span := (List.range (2 * r.inflate + 1)).map fun (k : Nat) => (k : Int) - r.inflate
  (List.range (r.w * r.h)).map fun i =>
    let c := layer.getD i 0
    if c = 255 then 255
    else
      let x : Int := (i % r.w : Nat)
      let y : Int := (i / r.w : Nat)
      let d2 := span.foldl (fun (b : Option Nat) dy => span.foldl (fun (b : Option Nat) dx =>
        if lethal (x + dx) (y + dy) then
          let d := (dx * dx + dy * dy).toNat
          match b with | some k => some (min k d) | none => some d
        else b) b) none
      match d2 with
      | none => c
      | some d => let k := ceilSqrt d
                  if 0 < k ∧ k ≤ r.inflate then max c (r.infl.getD k 0) else c

/-- The cube: `st l cell` the static layers, `occ t cell` the occupancy. -/
def CostRec.cube (r : CostRec) (st occ : Nat → Nat → Nat) : List Nat :=
  let n := r.w * r.h
  let bases := (List.range n).map fun i => r.base fun l => st l i
  (List.range r.nt).flatMap fun t => r.inflated ((List.range n).map fun i => r.cost (bases.getD i 0) (occ t i))

/-! ### Octree (R446) -/

/-- Leaves along an axis. -/
def octSide : Nat := 4096

/-- One node in construction: depth, the path's prefix by axis, child mask or leaf bits, FULL, its parent's place. -/
structure OctNode where
  depth : Nat
  x : Nat
  y : Nat
  z : Nat
  mask : Nat := 0
  full : Bool := false
deriving DecidableEq, Repr

structure OctBuild where
  nodes : List OctNode := [⟨0, 0, 0, 0, 0, false⟩]
  counts : Tab Nat := []
  coarse : Nat := 0
  outside : Nat := 0
deriving DecidableEq, Repr

/-- The leaf coordinates of a point, or none outside the extent. -/
def OctRec.leaf (r : OctRec) (p : List Nat) : Option (Nat × Nat × Nat) :=
  let at_ := fun (v off : Nat) =>
    let q := fdiv (fsub v off) r.octM
    if (f32 q).isFin ∧ 0 ≤ ffloor q ∧ ffloor q < octSide then some (ffloor q).toNat else none
  let lo := fneg (fmul (fOfNat 2048) r.octM)
  match at_ (p.getD 0 0) lo, at_ (p.getD 1 0) lo, at_ (p.getD 2 0) r.z0 with
  | some x, some y, some z => some (x, y, z)
  | _, _, _ => none

/-- The child of a node of depth `d` on the way to a leaf: bit 0 along x, 1 along y, 2 along z. [log 84 DEDUCED] -/
def octChild (d x y z : Nat) : Nat :=
  let b := fun (v : Nat) => v / 2 ^ (11 - d) % 2
  b x + 2 * b y + 4 * b z

def OctBuild.find (b : OctBuild) (d x y z : Nat) : Option Nat :=
  b.nodes.findIdx? fun n => decide (n.depth = d ∧ n.x = x / 2 ^ (12 - d) ∧ n.y = y / 2 ^ (12 - d) ∧ n.z = z / 2 ^ (12 - d))

/-- Marks a bit of a node's mask. [log 84 DEDUCED] -/
def OctBuild.mark (b : OctBuild) (i k : Nat) : OctBuild :=
  { b with nodes := (List.range b.nodes.length).zip b.nodes |>.map fun (n : Nat × OctNode) =>
    if n.1 = i then { n.2 with mask := n.2.mask ||| 2 ^ k } else n.2 }

/-- A leaf becomes occupied: nodes down its path from depth `d` on, or FULL where none is left. -/
def OctBuild.occupy (b : OctBuild) (cap x y z : Nat) : Nat → Nat → Nat → OctBuild
  | 0, _, _ => b
  | fuel + 1, d, i =>
    match b.nodes[i]? with
    | none => b
    | some n =>
      if n.full then b
      else if d = 11 then b.mark i (octChild 11 x y z)
      else match b.find (d + 1) x y z with
        | some j => b.occupy cap x y z fuel (d + 1) j
        | none =>
          if cap ≤ b.nodes.length then
            { b with coarse := b.coarse + 1
                     nodes := (List.range b.nodes.length).zip b.nodes |>.map fun (m : Nat × OctNode) =>
                       if m.1 = i then { m.2 with full := true } else m.2 }
          else
            let sh := 2 ^ (11 - d)
            let b1 := b.mark i (octChild d x y z)
            let n2 := OctNode.mk (d + 1) (x / sh) (y / sh) (z / sh) 0 false
            let b2 : OctBuild := { b1 with nodes := b1.nodes ++ [n2] }
            b2.occupy cap x y z fuel (d + 1) b.nodes.length

/-- One point more. -/
def OctBuild.point (r : OctRec) (b : OctBuild) (p : List Nat) : OctBuild :=
  match r.leaf p with
  | none => { b with outside := b.outside + 1 }
  | some (x, y, z) =>
    let key := (x * octSide + y) * octSide + z
    let n := Tab.get 0 b.counts key + 1
    let b := { b with counts := Tab.put b.counts key n }
    if n = r.minPoints then b.occupy r.nodes x y z 13 0 0 else b

/-- Indices in the tensor: the root is node 0; the children of a node stand together in mask order, families in the order in
which their first child was allocated. [log 84 DEDUCED] -/
def OctBuild.layout (b : OctBuild) : List OctNode :=
  let root := b.nodes.take 1
  let families := (b.nodes.drop 1).foldl (fun (fs : List (List OctNode)) n =>
    let same := fun (f : List OctNode) => match f with
      | m :: _ => decide (m.depth = n.depth ∧ m.x / 2 = n.x / 2 ∧ m.y / 2 = n.y / 2 ∧ m.z / 2 = n.z / 2)
      | [] => false
    if fs.any same then fs.map fun f => if same f then f ++ [n] else f else fs ++ [[n]]) []
  let order := fun (n : OctNode) => n.x % 2 + 2 * (n.y % 2) + 4 * (n.z % 2)
  root ++ families.flatMap fun f => sortBy f fun a c => decide (order a ≤ order c)

/-- The tensor's bytes. -/
def OctBuild.bytes (b : OctBuild) : List Byte :=
  let ns := b.layout
  ns.flatMap fun n =>
    let first := (ns.findIdx? fun m => decide (m.depth = n.depth + 1 ∧ m.x / 2 = n.x ∧ m.y / 2 = n.y ∧ m.z / 2 = n.z)).getD 0
    if n.depth = 11 then leBytes 4 n.mask ++ leBytes 4 0
    else leBytes 4 (n.mask + flagAt 8 n.full) ++ leBytes 4 first

/-- A voxel of an octree tensor is occupied: `node i` gives a node's two words. Beyond the extent is free. -/
def octOccupied (node : Nat → Nat × Nat) (x y z : Int) : Bool :=
  let side : Int := octSide
  if x < 0 ∨ side ≤ x ∨ y < 0 ∨ side ≤ y ∨ z < 0 ∨ side ≤ z then false
  else
    let rec walk : Nat → Nat → Nat → Bool
      | 0, _, _ => false
      | fuel + 1, d, i =>
        let (a, first) := node i
        let k := octChild d x.toNat y.toNat z.toNat
        if d = 11 then bitAt a k
        else if bitAt a 8 then true
        else if !bitAt a k then false
        else walk fuel (d + 1) (first + ((List.range k).filter fun j => bitAt a j).length)
    walk 12 0 0

/-! ### Lattices (Table 13.9, R445) -/

structure Primitive where
  h0 : Nat
  v0 : Nat
  h1 : Nat
  v1 : Nat
  dx : Int
  dy : Int
  durUs : Nat
  cost : Nat
  /-- swept cells (dx, dy, time in 100 µs) and voxels -/
  cells : List (Int × Int × Nat)
  voxels : List (Int × Int × Int)
deriving DecidableEq, Repr

structure LatticeImg where
  nh : Nat
  nv : Nat
  cellM : Nat
  voxDiv : Nat
  speeds : List Nat
  prims : List Primitive
deriving DecidableEq, Repr

def isAscending : List Nat → Bool
  | a :: b :: r => flt a b && isAscending (b :: r)
  | _ => true

/-- A lattice image read from its bytes; `none` where R445 refuses it. -/
def latticeOf (bs : List Byte) : Option LatticeImg :=
  let n := fun (a w : Nat) => leNat ((bs.drop a).take w)
  let i := fun (a w : Nat) => twosVal (8 * w) (n a w)
  let zeros := fun (a k : Nat) => ((bs.drop a).take k).all (· = 0)
  let np := n 0 2
  let nc := n 80 4
  let nx := n 84 4
  let nh := n 2 1
  let nv := n 3 1
  let pool := 128 + 32 * np
  let speeds := (List.range nv).map fun k => n (16 + 4 * k) 4
  let sum := crc32c (bs.take 124 ++ [0, 0, 0, 0] ++ bs.drop 128)
  let primOk := fun (k : Nat) =>
    let a := 128 + 32 * k
    decide (n a 1 < nh ∧ n (a + 1) 1 < nv ∧ n (a + 2) 1 < nh ∧ n (a + 3) 1 < nv)
      && decide (1 ≤ n (a + 8) 4 ∧ n (a + 8) 4 ≤ 10000000) && (f32 (n (a + 12) 4)).isFin && flt 0 (n (a + 12) 4)
      && decide (1 ≤ n (a + 20) 2 ∧ n (a + 20) 2 ≤ 256 ∧ n (a + 22) 2 ≤ 256)
      && decide (n (a + 16) 4 + n (a + 20) 2 ≤ nc ∧ n (a + 24) 4 + n (a + 22) 2 ≤ nx) && zeros (a + 28) 4
  if bs.length ≠ pool + 4 * nc + 4 * nx ∨ bs.length < 128 ∨ sum ≠ n 124 4 ∨ np = 0 ∨ 4096 < np ∨ nh = 0 ∨ 64 < nh ∨ nv = 0 ∨ 16 < nv
      ∨ !(f32 (n 4 4)).isFin ∨ !flt 0 (n 4 4) ∨ !([1, 2, 4].contains (n 8 1)) ∨ !zeros 9 7 ∨ !zeros 88 36
      ∨ 1048576 < nc ∨ 1048576 < nx ∨ !isAscending speeds ∨ !(List.range np).all primOk then none
  else
    let cellAt := fun (k : Nat) => let a := pool + 4 * k; (i a 1, i (a + 1) 1, n (a + 2) 2)
    let voxAt := fun (k : Nat) => let a := pool + 4 * nc + 4 * k; (i a 1, i (a + 1) 1, i (a + 2) 1)
    some { nh := nh, nv := nv, cellM := n 4 4, voxDiv := n 8 1, speeds := speeds
           prims := (List.range np).map fun k =>
             let a := 128 + 32 * k
             { h0 := n a 1, v0 := n (a + 1) 1, h1 := n (a + 2) 1, v1 := n (a + 3) 1, dx := i (a + 4) 2, dy := i (a + 6) 2
               durUs := n (a + 8) 4, cost := n (a + 12) 4
               cells := (List.range (n (a + 20) 2)).map fun j => cellAt (n (a + 16) 4 + j)
               voxels := (List.range (n (a + 22) 2)).map fun j => voxAt (n (a + 24) 4 + j) } }

/-! ### Search (R447 to R449) -/

/-- A state of the search with how it was reached. -/
structure PNode where
  ix : Int
  iy : Int
  h : Nat
  v : Nat
  g : Nat
  timeUs : Nat := 0
  f : Nat := 0
  parent : Option Nat := none
  prim : Nat := 0xFFFF
  isOpen : Bool := true
deriving DecidableEq, Repr

def PNode.key (n : PNode) : Nat := (n.iy * 2 ^ 20 + n.ix * 2 ^ 10 + n.h * 2 ^ 4 + n.v).toNat

/-- What the search reads: the lattice, its record, the cube's cell and the octree. -/
structure Field where
  img : LatticeImg
  r : PlanRec
  cost : Nat → Int → Int → Nat
  voxel : Int → Int → Int → Bool
  start : Int × Int

/-- Heading class h in radians. -/
def LatticeImg.heading (m : LatticeImg) (h : Nat) : Nat := fdiv (fmul fTwoPi (fOfNat h)) (fOfNat m.nh)

/-- A value rounded to the nearest integer, a tie away from zero. -/
def roundAway (a : Nat) : Int :=
  match f32 a with
  | .fin neg m e =>
    let k : Nat := if 0 ≤ e then m * 2 ^ e.toNat else (m + 2 ^ ((-e).toNat - 1)) / 2 ^ (-e).toNat
    if neg then -(k : Int) else k
  | _ => 0

/-- An offset rotated onto heading class h. [log 85 DEDUCED] -/
def LatticeImg.turn (m : LatticeImg) (h : Nat) (dx dy : Int) : Int × Int :=
  if h = 0 then (dx, dy)
  else
    let a := m.heading h
    let c := fcos a
    let s := fsin a
    (roundAway (fsub (fmul c (fOfInt dx)) (fmul s (fOfInt dy))), roundAway (fadd (fmul s (fOfInt dx)) (fmul c (fOfInt dy))))

/-- HWEIGHT × the distance in cells from a state's cell to the goal box. -/
def Field.heuristic (e : Field) (n : PNode) : Nat :=
  let (xl, xh, yl, yh) := e.r.goal
  let out := fun (lo hi v : Int) => if v < lo then lo - v else if hi < v then v - hi else 0
  let dx := out xl xh n.ix
  let dy := out yl yh n.iy
  fmul e.r.hweight (fsqrt (fOfInt (dx * dx + dy * dy)))

def Field.isGoal (e : Field) (n : PNode) : Bool :=
  let (xl, xh, yl, yh) := e.r.goal
  decide (xl ≤ n.ix ∧ n.ix ≤ xh ∧ yl ≤ n.iy ∧ n.iy ≤ yh) && bitAt e.r.goalH n.h

def Field.inGrid (e : Field) (x y : Int) : Bool := decide (0 ≤ x ∧ x < e.r.w ∧ 0 ≤ y ∧ y < e.r.h)

/-- The successor by primitive `k`, or none where it is pruned. [log 85 DEDUCED] -/
def Field.successor (e : Field) (n : PNode) (k : Nat) (p : Primitive) : Option PNode :=
  let swept := p.cells.map fun (c : Int × Int × Nat) =>
    let d := e.img.turn n.h c.1 c.2.1
    (n.ix + d.1, n.iy + d.2, min (e.r.nt - 1) ((n.timeUs + 100 * c.2.2) / max 1 e.r.dtUs))
  let costs := swept.map fun (c : Int × Int × Nat) => e.cost c.2.2 c.1 c.2.1
  let vz : Int := ffloor (fdiv (fneg e.r.oct.z0) e.r.oct.octM)
  let hit := p.voxels.any fun (v : Int × Int × Int) =>
    let d := e.img.turn n.h v.1 v.2.1
    e.voxel (2048 + (n.ix - e.start.1) * e.img.voxDiv + d.1) (2048 + (n.iy - e.start.2) * e.img.voxDiv + d.2) (vz + v.2.2)
  if swept.any (fun (c : Int × Int × Nat) => !e.inGrid c.1 c.2.1) || costs.any (fun c => decide (c = 255)) || hit then none
  else
    let d := e.img.turn n.h p.dx p.dy
    some { ix := n.ix + d.1, iy := n.iy + d.2, h := p.h1, v := p.v1
           g := fadd (fadd n.g p.cost) (fOfNat (costs.foldl (· + ·) 0)), timeUs := n.timeUs + p.durUs, parent := some n.key, prim := k }

/-- The open node that comes first: by f, then g, then key. -/
def firstOpen (st : List PNode) : Option PNode :=
  st.foldl (fun (b : Option PNode) n =>
    if !n.isOpen then b
    else match b with
      | none => some n
      | some m =>
        if flt n.f m.f || (!flt m.f n.f && (flt n.g m.g || (!flt m.g n.g && decide (n.key < m.key)))) then some n else b) none

/-- One pass: its state store, the expansions left, how it ended. -/
inductive PassEnd where
  | goal (n : PNode)
  | exhausted
  | stopped
deriving DecidableEq, Repr

/-- Adds a successor to the store unless it is reached with a g that is not lower. -/
def addState (st : List PNode) (n : PNode) : List PNode :=
  match st.find? fun m => decide (m.key = n.key) with
  | none => st ++ [n]
  | some m => if flt n.g m.g then st.map fun x => if x.key = n.key then n else x else st

/-- Weighted A* with weight `eps`; `room` states and `limit` expansions are left. [log 85 DEDUCED] -/
def Field.pass (e : Field) (eps room : Nat) : Nat → Nat → List PNode → PassEnd × List PNode × Nat
  | 0, made, st => (.stopped, st, made)
  | left + 1, made, st =>
    match firstOpen st with
    | none => (.exhausted, st, made)
    | some n =>
      if left = 0 then (.stopped, st, made)
      else if e.isGoal n then (.goal n, st, made)
      else
        let st := st.map fun m => if m.key = n.key then { m with isOpen := false } else m
        let next := ((List.range e.img.prims.length).zip e.img.prims).filterMap fun (q : Nat × Primitive) =>
          if q.2.h0 = n.h ∧ q.2.v0 = n.v then e.successor n q.1 q.2 else none
        let st := next.foldl (fun st m => addState st { m with f := fadd m.g (fmul eps (e.heuristic m)) }) st
        if room < st.length then (.stopped, st.take room, made + 1)
        else e.pass eps room left (made + 1) st

/-- The path to a node, start first. -/
def pathTo (st : List PNode) : Nat → PNode → List PNode
  | 0, n => [n]
  | fuel + 1, n => match n.parent with
    | none => [n]
    | some k => match st.find? fun m => decide (m.key = k) with
      | some m => pathTo st fuel m ++ [n]
      | none => [n]

structure PlanOut where
  path : List PNode := []
  pass : Nat := 0
  g : Nat := 0
  made : Nat := 0
  stopped : Bool := false
  /-- the search stopped before its last pass completed -/
  anytime : Bool := true
deriving DecidableEq, Repr

/-- Every pass in order from the start state; stops at the first of R448's events. [log 85 DEDUCED] -/
def Field.search (e : Field) (start : PNode) (budget : Nat) : List (Nat × Nat) → Nat → PlanOut → PlanOut
  | [], _, o => { o with anytime := false }
  | (k, eps) :: rest, used, o =>
    let (how, st, made) := e.pass eps (1048576 - used) (budget - o.made + 1) 0
      [{ start with f := fadd start.g (fmul eps (e.heuristic start)) }]
    let o := { o with made := o.made + made }
    match how with
    | .goal n =>
      let better := o.path.isEmpty || !flt o.g n.g
      let o := if better then { o with path := pathTo st st.length n, pass := k, g := n.g } else o
      e.search start budget rest (used + st.length) o
    | .exhausted => match rest with
      | [] => o
      | _ => e.search start budget rest (used + st.length) o
    | .stopped => { o with stopped := true }

/-- The path output (Table 13.11). -/
def PlanOut.bytes (o : PlanOut) (m : LatticeImg) (r : PlanRec) : List Byte :=
  let shown := o.path.take 256
  let centre := fun (o i : Nat) => fadd o (fmul (fadd (fOfNat i) fHalf) m.cellM)
  leBytes 2 shown.length ++ leBytes 1 o.pass ++ leBytes 1 (flagAt 0 (decide (256 < o.path.length)) + flagAt 1 o.stopped)
    ++ leBytes 4 (if o.path.isEmpty then 0 else r.eps.getD o.pass 0) ++ leBytes 4 o.g ++ leBytes 4 o.made ++ leBytes 8 r.t ++ List.replicate 8 0
    ++ shown.flatMap fun n => leBytes 4 (centre r.x0 n.ix.toNat) ++ leBytes 4 (centre r.y0 n.iy.toNat) ++ leBytes 4 (m.heading n.h)
      ++ leBytes 4 (m.speeds.getD n.v 0) ++ leBytes 4 (fmul (fOfNat n.timeUs) fMicro) ++ leBytes 2 n.prim ++ [0, 0]

/-- The speed class nearest a speed, a tie to the lower. -/
def LatticeImg.speedClass (m : LatticeImg) (v : Nat) : Nat :=
  ((List.range m.speeds.length).foldl (fun (b : Nat × Nat) k =>
    let d := fabs (fsub (m.speeds.getD k 0) v)
    if flt d b.2 then (k, d) else b) (0, fInf)).1

end Sys2Proof.Machine
end

