-- ==== Sys2Proof/Machine/SpatialOps.lean ====
section
/-!
DEFINITION. The Spatial Engine's rows, register words, and what a parting line and the end of a flask do to them
(spec 13_fusion_tracking_planning.md).
-/

namespace Sys2Proof.Machine

def State.projection (s : State) (k : Nat) : Projection := Tab.get Projection.rest s.sp.projections k
def State.setProjection (s : State) (k : Nat) (x : Projection) : State :=
  { s with sp := { s.sp with projections := Tab.set Projection.rest s.sp.projections k x } }
def State.trackSet (s : State) (k : Nat) : TrackSet := Tab.get TrackSet.rest s.sp.trackSets k
def State.setTrackSet (s : State) (k : Nat) (x : TrackSet) : State :=
  { s with sp := { s.sp with trackSets := Tab.set TrackSet.rest s.sp.trackSets k x } }
def State.lattice (s : State) (k : Nat) : Lattice := Tab.get Lattice.rest s.sp.lattices k
def State.setLattice (s : State) (k : Nat) (x : Lattice) : State :=
  { s with sp := { s.sp with lattices := Tab.set Lattice.rest s.sp.lattices k x } }
def State.planCount (s : State) (f : Nat) : PlanCount := Tab.get PlanCount.rest s.sp.planCounts f
def State.setPlanCount (s : State) (f : Nat) (x : PlanCount) : State :=
  { s with sp := { s.sp with planCounts := Tab.set PlanCount.rest s.sp.planCounts f x } }

/-! ### Calibration sets (R434, R435) -/

/-- The record of a slot in a set; 128 zero bytes where none was loaded. -/
def State.cal (s : State) (set slot : Nat) : CalRec :=
  match Tab.get [] s.sp.records (64 * set + slot) with
  | [] => List.replicate 128 0
  | r => r

/-- The set that a flask selects. -/
def State.calOf (s : State) (f : Nat) : Nat := if s.sp.select.getLsbD f then 1 else 0

/-- A set is in use. -/
def State.calInUse (s : State) (set : Nat) : Bool :=
  (List.range 16).any fun f => decide (s.calOf f = set) &&
    match (s.flask f).state with
    | .loaded => true
    | .active => true
    | .stopped => true
    | _ => false

def State.calBuilt (s : State) (set : Nat) : Bool := if set = 0 then s.sp.builtA else s.sp.builtB

/-- The bytes of a set; the low 64 bits of their SHA-384. -/
def State.calBytes (s : State) (set : Nat) : List Byte := (List.range 64).flatMap (s.cal set)

/-- Copies of a table by set. -/
def Projection.copyOf (x : Projection) (set : Nat) : Option (List (Nat × Nat × Nat)) := if set = 0 then x.copyA else x.copyB
def Projection.setCopy (x : Projection) (set : Nat) (c : List (Nat × Nat × Nat)) : Projection :=
  if set = 0 then { x with copyA := some c } else { x with copyB := some c }

/-- Builds the copy of a table for a set (R436). -/
def buildCopy (set k : Nat) (s : State) : State :=
  let x := s.projection k
  s.setProjection k (x.setCopy set (x.desc.build (s.cal set)))

/-- The rebuilding of a set is done: its tables are built, its command answers (R434). -/
def finishBuild (s : State) : State :=
  match s.sp.building with
  | none => s
  | some (t, set, tables) =>
    let s := tables.foldl (fun s k => if (s.projection k).used then buildCopy set k s else s) s
    let s := { s with sp := { s.sp with building := none, builtA := s.sp.builtA || decide (set = 0)
                                        builtB := s.sp.builtB || decide (set = 1) } }
    finish t 0 5 0 (leBytes 4 tables.length ++ [0, 0, 0, 0] ++ leBytes 8 (hashLow64 (s.calBytes set))) s

/-- A flask commits the selection that SWITCH_CALIBRATION staged (R435). [log 81 DEDUCED] -/
def commitSelection (f : Nat) (s : State) : State :=
  match s.sp.stagedSelect.find? fun x => decide (x.1 = f) with
  | none => s
  | some (_, b) =>
    let v := BitVec.ofNat 16 (2 ^ f)
    { s with sp := { s.sp with
      select := if b then s.sp.select ||| v else s.sp.select &&& ~~~v
      stagedSelect := s.sp.stagedSelect.filter fun x => decide (x.1 ≠ f) } }

/-! ### Parting lines and ends -/

/-- At a flask's parting line: staged track parameters and lattice switches (R443, R445). -/
def spatialParting (f : Nat) (s : State) : State :=
  let s := s.sp.trackSets.foldl (fun s (x : Nat × TrackSet) =>
    if x.2.flask ≠ f then s
    else
      let s := s.setTrackSet x.1 { x.2 with staged := [], params := x.2.staged.foldl (fun _ (y : TrackParams × Ticket) => y.1) x.2.params }
      x.2.staged.foldl (fun s (y : TrackParams × Ticket) => finishOk y.2 s) s) s
  s.sp.lattices.foldl (fun s (x : Nat × Lattice) =>
    if x.2.flask ≠ f then s
    else match x.2.pending with
      | none => s
      | some t => finishOk t (s.setLattice x.1 { x.2 with active := x.2.inactive, inactive := x.2.active, pending := none })) s

/-- Ends a projection table, a lattice, a track set; commands that wait on it end. -/
def endProjection (k : Nat) (s : State) : State :=
  overPages freePage (s.projection k).pages (s.setProjection k Projection.rest)
def endTrackSet (k : Nat) (s : State) : State :=
  let x := s.trackSet k
  x.staged.foldl (fun s (y : TrackParams × Ticket) => finish y.2 4 5 9 [] s) (s.setTrackSet k TrackSet.rest)
def endLattice (k : Nat) (s : State) : State :=
  let x := s.lattice k
  finishOpt x.pending 4 5 9 [] (overPages freePage x.pages (s.setLattice k Lattice.rest))

/-- A flask is removed: its objects end, and it selects set A again. -/
def spatialFlaskRemoved (f : Nat) (s : State) : State :=
  let s := (s.sp.projections.filter fun (x : Nat × Projection) => decide (x.2.flask = f)).foldl
    (fun s (x : Nat × Projection) => endProjection x.1 s) s
  let s := (s.sp.trackSets.filter fun (x : Nat × TrackSet) => decide (x.2.flask = f)).foldl
    (fun s (x : Nat × TrackSet) => endTrackSet x.1 s) s
  let s := (s.sp.lattices.filter fun (x : Nat × Lattice) => decide (x.2.flask = f)).foldl
    (fun s (x : Nat × Lattice) => endLattice x.1 s) s
  { s with sp := { s.sp with select := s.sp.select &&& ~~~(BitVec.ofNat 16 (2 ^ f))
                             stagedSelect := s.sp.stagedSelect.filter fun x => decide (x.1 ≠ f) } }

/-- The object that an image names belongs to the flask (R452): kind 1 projection, 2 track set, 3 lattice. -/
def State.spatialOwned (s : State) (f : Nat) (u : Nat × Nat) : Bool :=
  match u.1 with
  | 1 => (s.projection u.2).used && decide ((s.projection u.2).flask = f)
  | 2 => decide (0 < (s.trackSet u.2).capacity ∧ (s.trackSet u.2).flask = f)
  | 3 => (s.lattice u.2).used && decide ((s.lattice u.2).flask = f)
  | _ => true

/-! ### Words (Tables 13.14, 13.15) -/

/-- TRACKS_RESERVED. -/
def State.tracksReserved (s : State) : Nat := s.sp.trackSets.foldl (fun k (x : Nat × TrackSet) => k + x.2.capacity) 0

def State.spatialWord (s : State) (w : Nat) : Nat :=
  match w with
  | 0 => [flagAt 0 s.sp.builtA, flagAt 1 s.sp.builtB, flagAt 2 (s.calInUse 0), flagAt 3 (s.calInUse 1)
          , fieldAt 8 5 s.sp.projections.length, fieldAt 13 3 s.sp.lattices.length, fieldAt 16 16 s.sp.select.toNat].foldl (· + ·) 0
  | 1 => fieldAt 0 12 s.tracksReserved + fieldAt 16 12 (s.sp.trackSets.foldl (fun k (x : Nat × TrackSet) => k + x.2.tracks.length) 0)
  | 2 => fieldAt 0 11 s.sp.poses.length
  | _ => 0

def State.spatialCount (s : State) (w : Nat) : Nat :=
  match w with
  | 0 => s.sp.poseOos
  | 1 => s.sp.alignFail
  | 2 => s.sp.octCoarse
  | 3 => s.sp.outOfExtent
  | _ => 0

def State.trackSetWord (s : State) (k w : Nat) : Nat :=
  let x := s.trackSet k
  match w with
  | 0 => fieldAt 0 12 x.capacity + fieldAt 12 4 x.flask + fieldAt 16 12 x.tracks.length
  | 1 => fieldAt 0 12 (x.tracks.filter fun (t : Nat × Track) => t.2.confirmed).length
  | 2 => x.births
  | 3 => x.birthDrops
  | 4 => x.deletions
  | 5 => x.oos
  | 6 => x.badDetections
  | _ => 0

def State.planWord (s : State) (f w : Nat) : Nat :=
  let x := s.planCount f
  match w with
  | 0 => x.plans
  | 1 => x.anytime
  | 2 => x.noPath
  | 3 => min counterMax (x.expansions / 1000)
  | _ => 0

/-- The ego pose (R433). -/
def State.ego (s : State) : Option Pose := s.sp.poses.head?
/-- The pose at a time (R432). [log 80 DEDUCED] -/
def State.poseAt (s : State) (t : Nat) : Option Pose := Machine.poseAt s.sp.extrapMaxUs t s.sp.poses

end Sys2Proof.Machine
end

