-- ==== Sys2Proof/Machine/Tiles.lean ====
section
/-!
DEFINITION. The dispatcher of tile-task flasks (spec 05_execution_model.md, R175).
-/

namespace Sys2Proof.Machine

/-- Cores of a flask that run no task, lowest numbers first. -/
def Flask.idleForTasks (x : Flask) : List (Nat × Nat) :=
  sortBy (x.committed.cores.filter fun c => !x.tasks.any fun t => decide (t.core = some c))
    fun a b => decide (a.1 < b.1 ∨ (a.1 = b.1 ∧ a.2 ≤ b.2))

/-- The tenants with a queued task, in round-robin order after the one served last. -/
def Flask.nextTenant (x : Flask) : Option Nat :=
  let waiting := sortBy ((x.tasks.filter fun t => t.core.isNone).map (·.ctx)).dedup fun a b => decide (a ≤ b)
  match waiting.find? fun c => decide (x.turn < c) with
  | some c => some c
  | none => waiting.head?

/-- Starts one queued task: on an idle core that holds its input tile, else on the lowest-numbered idle core. -/
def Flask.startTask (x : Flask) : Option Flask :=
  match x.nextTenant with
  | none => none
  | some c => match x.tasks.findIdx? fun t => decide (t.ctx = c ∧ t.core = none) with
    | none => none
    | some i =>
      let t := x.tasks.getD i { ctx := c }
      let idle := x.idleForTasks
      let core := match t.hint with
        | some h => if idle.contains h then some h else idle.head?
        | none => idle.head?
      match core with
      | none => none
      | some k => some { x with turn := c, tasks := x.tasks.set i { t with core := some k } }

/-- Starts tasks while a core is idle and a task waits. -/
def Flask.startTasks : Nat → Flask → Flask
  | 0, x => x
  | n + 1, x => match x.startTask with
    | none => x
    | some y => Flask.startTasks n y

/-- A change waits for a parting line of the flask: a commit, a mode change, a stop, a re-mapping, a retirement (R28, R178).
[log 37 DEDUCED] -/
def State.commitDue (s : State) (f : Nat) : Bool :=
  let x := s.flask f
  s.ex.series.any (fun r => !r.stopped && decide (r.members[r.done]? = some f))
    || (match s.pa.change with | some m => m.members.contains f | none => false)
    || x.stopPending || x.remapDue ≠ [] || x.retireDue ≠ [] || x.leaveDue ≠ []

/-- The hub dispatches tasks of a flask that runs. [log 37 DEDUCED] -/
def dispatchTiles (f : Nat) (s : State) : State :=
  let x := s.flask f
  if x.state = .active ∧ x.mode = .tile ∧ s.safe.safeState = false ∧ s.commitDue f = false then s.setFlask f (x.startTasks x.tasks.length) else s

end Sys2Proof.Machine
end

