-- ==== Sys2Proof/Machine/TrussOps.lean ====
section
/-!
DEFINITION. Operations on trusses: member states, stretch factors and span boundaries, lock-step pairs
(spec 15_determinism_pacing.md, R487 to R509).
-/

namespace Sys2Proof.Machine

def State.aePort (s : State) (k : Nat) : AePort := Tab.get AePort.rest s.truss.ports k
def State.setAePort (s : State) (k : Nat) (x : AePort) : State :=
  { s with truss := { s.truss with ports := Tab.set AePort.rest s.truss.ports k x } }
def State.member (s : State) (m : Nat) : Member := Tab.get Member.rest s.truss.members m
def State.setMember (s : State) (m : Nat) (x : Member) : State :=
  { s with truss := { s.truss with members := Tab.set Member.rest s.truss.members m x } }
def State.aperture (s : State) (k : Nat) : Aperture := Tab.get Aperture.rest s.truss.apertures k
def State.setAperture (s : State) (k : Nat) (x : Aperture) : State :=
  { s with truss := { s.truss with apertures := Tab.set Aperture.rest s.truss.apertures k x } }

/-- A member that has joined: MEMBER or PAIRED. -/
def Member.joined (x : Member) : Bool := x.state = .member || x.state = .paired

/-- The other members that have joined. -/
def State.joined (s : State) : List Nat := [0, 1, 2, 3].filter fun m => decide (m ≠ s.truss.me) && (s.member m).joined

/-- MEMBERS of TRUSS_STATUS. -/
def trussMembers (s : State) : Nat := 1 + s.joined.length

/-- Notes a message sent on the ports: its kind and what it carries. [log 99 DESIGN CHOICE] -/
def sendTruss (kind : Nat) (data : List Nat) (s : State) : State :=
  { s with truss := { s.truss with sent := s.truss.sent ++ [(kind, data)] } }

/-! ### Spans and stretch (R394, R487, R488) -/

/-- The stretch factor that a flask's spans have. [log 95 DEDUCED] -/
def State.flaskFactor (s : State) (f : Nat) : Nat := Tab.get s.truss.stretch s.truss.flaskStretch f

/-- The length of a flask's spans in ns: ceil(L × 1,000 × STRETCH / 256). -/
def spanNs (f : Nat) (s : State) : Nat := ((s.flask f).spanUs * 1000 * s.flaskFactor f + 255) / 256

/-- The next span boundary of a flask: one span after its last, or the first at a multiple of the span length (R394). -/
def State.nextBoundary (s : State) (f : Nat) : Nat :=
  let n := max 1 (spanNs f s)
  match (s.flask f).lastBoundary with
  | some b => b + n
  | none => (s.now + n - 1) / n * n

/-- The paced flasks that are ACTIVE. -/
def State.pacedFlasks (s : State) : List Nat :=
  (List.range 16).filter fun f => (s.flask f).state = .active && (s.flask f).mode = .paced

/-- The largest stretch request among the members (R487). -/
def State.stretchTarget (s : State) : Nat := s.joined.foldl (fun k m => max k (s.member m).request) s.pa.stretchReq

/-- The factor decided last: of the newest change that waits, else the one in force. -/
def State.stretchDecided (s : State) : Nat :=
  match s.truss.stretchWaits.getLast? with
  | some w => w.factor
  | none => s.truss.stretch

/-- A factor takes effect in the module's register. [log 95 DEDUCED] -/
def putStretch (factor : Nat) (s : State) : State :=
  if s.truss.stretch = factor then s
  else { s with truss := { s.truss with stretch := factor, stretchChanges := satInc s.truss.stretchChanges } }

/-- Works the factor out again, decided at `time`: every paced ACTIVE flask changes at its first boundary at least 3 µs
later; one whose stretch boundary has passed changes at its next, STRETCH_LATE is set and LINK raised (R488).
[log 95 DEDUCED] -/
def restretch (time : Nat) (s : State) : State :=
  let f := s.stretchTarget
  let paced := s.pacedFlasks
  if f = s.stretchDecided then s
  else if paced = [] then putStretch f { s with truss := { s.truss with stretchWaits := [], flaskStretch := [] } }
  else
    let passed := fun k => match (s.flask k).lastBoundary with | some b => decide (time + 3000 ≤ b) | none => false
    let since := fun k => match (s.flask k).lastBoundary with
      | some b => if time + 3000 ≤ b then b + 1 - 3000 else time
      | none => time
    let late := paced.any passed
    let keep := paced.foldl (fun t k => Tab.put t k (s.flaskFactor k)) s.truss.flaskStretch
    let s := { s with truss := { s.truss with
      flaskStretch := keep, stretchLate := s.truss.stretchLate || late
      stretchWaits := s.truss.stretchWaits ++ paced.map fun k => { flask := k, factor := f, since := since k } } }
    if late then attn 11 0x0A 0 s else s

/-- A flask that stops has no change to wait for; a change that no flask waits for any more takes effect. -/
def dropStretch (f : Nat) (s : State) : State :=
  let d := s.stretchDecided
  let s := { s with truss := { s.truss with
    flaskStretch := Tab.del s.truss.flaskStretch f
    stretchWaits := s.truss.stretchWaits.filter fun w => decide (w.flask ≠ f) } }
  if s.truss.stretchWaits = [] then putStretch d s else s

/-- The stretch boundary of a flask has come: the changes due take effect in it. [log 95 DEDUCED] -/
def stretchBoundary (f : Nat) (s : State) : Option State :=
  match (s.flask f).lastBoundary with
  | none => none
  | some b =>
    let due := s.truss.stretchWaits.filter fun w => decide (w.flask = f ∧ w.since + 3000 ≤ b)
    match due.getLast? with
    | none => none
    | some w =>
      let rest := s.truss.stretchWaits.filter fun v => !due.contains v
      let s := putStretch w.factor { s with truss := { s.truss with stretchWaits := rest } }
      let own := if rest.any fun v => decide (v.flask = f) then Tab.put s.truss.flaskStretch f w.factor
        else Tab.del s.truss.flaskStretch f
      some { s with truss := { s.truss with flaskStretch := own } }

/-! ### Following a neighbour (R502) -/

/-- A follow ends: the sources that had qualified qualify again, each from now. -/
def endFollow (s : State) : State :=
  match s.truss.following with
  | none => s
  | some _ =>
    let lost := s.truss.followLost
    lost.foldl (fun s k => qualify k s) { s with truss := { s.truss with following := none, followLost := [] } }

/-- The port's neighbour is followed from now: every source but the port's peer counts as not qualified. -/
def beginFollow (port : Nat) (s : State) : State :=
  let others := (List.range 10).filter fun k => decide (k ≠ 8 + port) && (s.source k).qualified
  let s := { s with truss := { s.truss with following := some port, followSince := s.now, followLost := others } }
  others.foldl (fun s k => loseSource k s) s

/-! ### Dropping a pair (R508, R509) -/

/-- The truss notice of Table 15.8. -/
def trussNotice (reason partner flask engine time : Nat) (s : State) : State :=
  let d := [1, s.truss.me, partner, reason] ++ (leBytes 8 time).map BitVec.toNat ++ [flask, engine, 0, 0]
  { s with truss := { s.truss with notices := s.truss.notices ++ [(s.truss.noticeCh, d)] } }

/-- The pair is dropped (R509): `flask` 0xFF and `engine` 0 where none diverged. [log 96 DEDUCED] -/
def dropPair (reason flask engine time : Nat) (s : State) : State :=
  match s.truss.partner with
  | none => s
  | some m =>
    let x := s.member m
    let s := finishOpt s.truss.pairTicket 4 0x0A 1 [BitVec.ofNat 8 reason]
      (s.setMember m { x with state := if x.state = .paired then .member else x.state, reason := reason })
    let s := { s with truss := { s.truss with
      partner := none, agreed := false, pairMask := 0, pairTicket := none, compared := 0, spanNums := [], own := [], early := []
      drops := satInc s.truss.drops } }
    let s := attn 10 0x0A reason s
    if reason = 0x13 then s else trussNotice reason m flask engine time s

/-- A reset of a compared flask drops the pair (R508). -/
def trussFlaskReset (f : Nat) (s : State) : State :=
  let s := dropStretch f s
  if bitAt s.truss.pairMask f then dropPair 0x15 f 0 s.now s else s

/-- Member `m` leaves (Table 15.5): ABSENT, from PAIRED also a drop; its request leaves the calculation. [log 98 DEDUCED] -/
def memberLeaves (m : Nat) (s : State) : State :=
  let x := s.member m
  if x.state = .absent then s
  else
    let s := if s.truss.partner = some m then dropPair 0x14 0xFF 0 s.now s else s
    let followed := match s.truss.following with
      | some p => decide ((s.aePort p).peer = m)
      | none => false
    let s := s.setMember m { Member.rest with reason := (s.member m).reason }
    if x.joined then restretch s.now ((if followed then endFollow else id) (attn 10 0x0A 0x14 s)) else s

/-! ### Signatures (R506, R507) -/

/-- One bit of CRC-64 with the ECMA-182 polynomial, most significant bit first. -/
def crc64Bit (c : Nat) : Nat := if bitAt c 63 then (c * 2 % 2 ^ 64) ^^^ 0x42F0E1EBA9EA3693 else c * 2
/-- CRC-64 over bytes, from `c`, no final inversion. -/
def crc64 (c : Nat) (bs : List Byte) : Nat :=
  bs.foldl (fun c b => (List.range 8).foldl (fun c _ => crc64Bit c) (c ^^^ (b.toNat * 2 ^ 56))) c

/-- The engine codes that two lists of signatures differ in. -/
def sigsDiffer (a b : List (Nat × Nat)) : List Nat :=
  [1, 2, 3, 4, 5, 6, 7].filter fun e => decide (a.lookup e ≠ b.lookup e)

/-- Ends each tenant's apertures that satisfy a test (R510). -/
def closeApertures (f : Aperture → Bool) (s : State) : State :=
  { s with truss := { s.truss with apertures := s.truss.apertures.filter fun (x : Nat × Aperture) => !f x.2 } }

/-- TRUSS_STATUS, LOCKSTEP_STATUS and the other words of the truss block (Tables 15.10 to 15.12). PRESENT shows this module
while it has a truss ID, so that it reads 0x0 at reset as the table says. [log 15 DEDUCED] -/
def State.trussStatus (s : State) (w : Nat) : Nat :=
  let t := s.truss
  if w = 0 then
    [trussMembers s, (s.joined.foldl (fun k m => k + 2 ^ (4 + m)) (if t.id = 0 then 0 else 2 ^ (4 + t.me))), fieldAt 8 3 (t.partner.getD 7),
      flagAt 11 t.following.isSome, flagAt 12 t.stretchLate, fieldAt 16 16 t.stretch].foldl (· + ·) 0
  else t.stretchChanges

def State.memberWord (s : State) (m w : Nat) : Nat :=
  let x := s.member m
  match w with
  | 0 => [x.state.code, fieldAt 8 8 x.reason, fieldAt 16 2 x.hops, fieldAt 18 1 x.viaPort].foldl (· + ·) 0
  | 1 => twosOf 32 (max (-2147483647) (min 2147483647 x.timeOffset))
  | 2 => x.listed % 2 ^ 32
  | _ => 0

def State.lockstepWord (s : State) (w : Nat) : Nat :=
  let t := s.truss
  match w with
  | 0 => t.compared.toNat + fieldAt 16 2 (if !t.agreed then 0 else if t.compared.toNat = t.pairMask then 2 else 1)
  | 1 => t.spans
  | _ => t.drops

/-- ENGINES and HELD with FLASK, as DIVERGENCE shows them. -/
def Divergence.word (d : Divergence) : Nat := d.flask + fieldAt 5 7 d.engines + flagAt 12 d.held

end Sys2Proof.Machine
end

