-- ==== Sys2Proof/Machine/Later.lean ====
section
/-!
DEFINITION. What a die loss, a flask reset, a removal and the safe state do to the blocks of other chapters.
-/

namespace Sys2Proof.Machine

/-- A map table whose destruction waits ends once no loaded job gathers from it (R330). -/
def mapsSweep (s : State) : State :=
  let gone := s.ta.maps.filter fun (x : Nat × MapTable) => x.2.destroyer.isSome
    && !(s.ex.jobs.any fun (j : Nat × Job) => j.2.used && j.2.image.tables.contains x.1)
  gone.foldl (fun s (x : Nat × MapTable) =>
    finishOpt x.2.destroyer 0 3 0 [] { s with ta := { s.ta with maps := Tab.del s.ta.maps x.1 } }) s

def memDieLost (n : Nat) (s : State) : State := tiersDieLost n s
def memFlaskReset (f : Nat) (s : State) : State := ctlFlaskReset f <| ingestFlaskReset f (kvFlaskReset f (tiersFlaskReset f s))
def memFlaskRemoved (f : Nat) (s : State) : State :=
  closeApertures (fun x => decide (x.ctx ∈ (s.flask f).tenants)) <| dropStretch f <| ctlFlaskRemoved f <| tiersFlaskRemoved f (kvFreeWhere (fun x => decide (x.flask = f)) (spatialFlaskRemoved f
    (ingestEndWhere (fun x => decide (x.flask = f)) (fun x => decide (x.flask = f)) s)))
def memCtxFreed (c : Nat) (s : State) : State :=
  closeApertures (fun x => decide (x.ctx = c)) <| tiersCtxFreed c (kvFreeWhere (fun x => decide (x.owner = c))
    (ingestEndWhere (fun x => decide (x.owner = c)) (fun x => decide (x.owner = c)) s))
def memCtxTorn (c : Nat) (s : State) : State := tiersCtxTorn c s
def memCleared (s : State) : State := tiersCleared s
/-- A job is unloaded: its segments and streams go; DESTROY_MAP_TABLE may end. -/
def jobUnloaded (j : Nat) (s : State) : State := mapsSweep (tiersJobUnloaded j (unbindStreams j s))

def camerasConfigured (s : State) : Nat := s.cameras
def liveSequences (s : State) : Nat := s.ta.seqs.length

/-- A component as a start finds it: a write that the reset broke off leaves its bank not whole. -/
def Component.broken (x : Component) : Component :=
  let bad := fun (b : Bank) => if b.state = .writing then { b with state := .failed } else b
  { x with writing := [], bankA := bad x.bankA, bankB := bad x.bankB }

/-- Power-on and module reset end everything the engines of the later chapters hold; map tile blocks in T3 stay, and so do
the banks, the service log and the retirement record. [log 113 DEDUCED] -/
def chaptersReset (s : State) : State :=
  { s with svc := { comps := s.svc.comps.map fun (x : Nat × Component) => (x.1, x.2.broken)
                    log := s.svc.log, logWritten := s.svc.logWritten },
           ta := { blocks := s.ta.blocks, blocksMade := s.ta.blocksMade }, ing := {}, sp := {}, ctl := {}, truss := {} }

/-- The Control Engine's grant (Table 16.3). -/
def loopGrant (s : State) : Nat := s.pa.loopCr

/-- An entry of the Tensor Array has completed: drift rule, stream write-back, the close of KV steps. -/
def entryDone (job : Option Nat) (pour e q k : Nat) (lost : Bool) (s : State) : State :=
  if e ≠ 1 then s
  else
    let s := match job with | some j => driftDone j pour k s | none => s
    kvEntryDone q k (streamDone q k lost s)
def batchOut (t : Nat) (s : State) : OutState := (s.tundish t).out
def chaptersParting (f : Nat) (s : State) : State := spatialParting f s
def chaptersBoundary (f : Nat) (s : State) : State := ctlBoundary f s

end Sys2Proof.Machine
end

