-- ==== Sys2Proof/Machine/Shared.lean ====
section
/-!
DEFINITION. The shared reactions: ending and faulting jobs, flask reset and context teardown, loss of a die, the
safe state, Limp, delivery of a result.
-/

namespace Sys2Proof.Machine

/-! ### Numbers listed in tables -/

/-- The jobs that exist. -/
def State.jobNums (s : State) : List Nat := s.ex.jobs.map (·.1)
/-- The jobs of a flask. -/
def State.jobsOf (s : State) (f : Nat) : List Nat :=
  s.jobNums.filter fun j => (s.job j).used && decide ((s.job j).flask = f)
/-- The jobs of a context. -/
def State.jobsOfCtx (s : State) (c : Nat) : List Nat :=
  s.jobNums.filter fun j => (s.job j).used && decide ((s.job j).owner = c)
/-- The four compute dies. -/
def dieNums : List Nat := [0, 1, 2, 3]
/-- The sixteen flasks. -/
def flaskNums : List Nat := List.range 16
/-- A compute die is in service (Table 3.5, R37). -/
def Die.inService (d : Die) : Bool := d.rails = .good && d.out.isNone && !d.parked && !d.resetting
/-- A flask is loaded: it holds a job (R33). -/
def State.isLoaded (s : State) (f : Nat) : Bool := !(s.jobsOf f).isEmpty
/-- The flask of a tenant context. -/
def State.flaskOfCtx (s : State) (c : Nat) : Option Nat :=
  flaskNums.find? fun f => decide (c ∈ (s.flask f).tenants)

/-- Applies an operation at every number of a list. [log 44 DEDUCED] -/
def overList (op : Nat → State → State) : List Nat → State → State
  | [], s => s
  | k :: ks, s => overList op ks (op k s)

/-! ### Synchronisation objects -/

/-- Contexts whose next entry waits on an object. [log 44 DEDUCED] -/
def State.waitersOn (s : State) (o : Nat) : List Nat :=
  s.ex.queues.flatMap fun (_, q) => q.pours.filterMap fun r =>
    match r.entries[r.next]? with
    | some e => if e.waits.any (fun w => decide (w.object = o)) then some r.ctx else none
    | none => none

/-- Abandons one object: it satisfies every wait from now on, and its owner and waiters are told
(R162, R189). -/
def abandonObject (o : Nat) (s : State) : State :=
  let x := s.sync o
  if x.kind = .free then s
  else
    let told := (x.owner :: s.waitersOn o).dedup
    overList (fun c => ctxEvent c 19 2 1) told (s.setSync o { x with abandoned := true })

/-- Abandons every object a flask holds (Table 5.13 step 4). -/
def abandonFlask (f : Nat) (s : State) : State :=
  overList abandonObject ((s.ex.syncs.filter fun (_, x) => decide (x.holder = f)).map (·.1)) s

/-- Abandons every object a context owns (R162, R186). -/
def abandonOwned (c : Nat) (s : State) : State :=
  overList abandonObject ((s.ex.syncs.filter fun (_, x) => decide (x.owner = c)).map (·.1)) s

/-! ### Jobs -/

/-- Takes the pours that satisfy a test off every queue. -/
def dropPours (f : PourRun → Bool) (s : State) : State :=
  { s with ex := { s.ex with
    queues := (s.ex.queues.map fun (k, q) => (k, { q with pours := q.pours.filter fun r => !f r })).filter
      fun (_, q) => decide (q ≠ Queue.rest) } }

/-- Ends a job: its core set is freed and its pours leave the queues. -/
def endJob (j : Nat) (st : JobState) (cause : Nat) (s : State) : State :=
  let x := s.job j
  dropPours (fun r => decide (r.job = some j))
    (s.setJob j { x with state := st, cause := cause, cores := [], inFlight := [], tokens := [],
                         missing := [], startTicket := none, stopTicket := none, suspended := false, begun := false,
                         wasRunning := false })

/-- A job ends by itself or by STOP_JOB: JOB_ENDED, and STOP_JOB's final reply (Table 5.8, R189). -/
def jobEnded (j : Nat) (s : State) : State :=
  let x := s.job j
  ctxEvent x.owner 16 2 0 (finishOpt x.stopTicket 0 2 0 [] (endJob j .ended 0 s))

/-- The detail code that names a fault cause in a reply (Table 5.21). -/
def causeDetail : Nat → Nat
  | 4 => 0x12
  | 7 => 0x01
  | _ => 0

/-- A job ends FAULTED: its commands fail, its owner is told (R189). -/
def jobFaulted (j cause : Nat) (s : State) : State :=
  let x := s.job j
  ctxEvent x.owner 17 2 (causeDetail cause)
    (finishOpt x.startTicket 4 2 (causeDetail cause) []
      (finishOpt x.stopTicket 4 2 (causeDetail cause) [] (endJob j .faulted cause s)))

/-- Flask `f`'s resources are revoked through Keystone's port (R577): its entries leave the queues, no
descriptor of it starts, its objects are abandoned; blocks are to confirm (R578). -/
def revoke (f : Nat) (s : State) : State :=
  let x := s.flask f
  let blocks := (dieNums.filter fun n => x.committed.cores.any fun c => decide (c.1 = n)) ++ [4, 5, 6]
  safetyLog 9 0x33 f 0xFF (abandonFlask f (dropPours (fun r => decide (r.flask = f))
    (s.setFlask f { x with revoked := true, unconfirmed := blocks })))

/-- A flask reset begins (Table 5.9, Table 5.13 steps 1 to 4). Jobs that run restart when it completes; the
reservation is released (R523). [log 34 DEDUCED] -/
def flaskReset (f : Nat) (ticket : Option Ticket) (s : State) : State :=
  let x := s.flask f
  if x.state = .resetting then
    s.setFlask f { x with resetTickets := x.resetTickets ++ ticket.toList }
  else if x.state = .active || x.state = .loaded || x.state = .stopped then
    let s := s.setFlask f { x with state := .resetting, resets := min 255 (x.resets + 1),
                                   resetTickets := x.resetTickets ++ ticket.toList, waitingResults := [],
                                   tasks := [], inPeriod := false, lastBoundary := none }
    let s := overList (fun j s => let y := s.job j
      if y.state = .running then s.setJob j { y with wasRunning := true, inFlight := [], tokens := [] } else s)
      (s.jobsOf f) s
    let s := s.setFlaskPower f { s.flaskPower f with reserved := 0 }
    trussFlaskReset f (memFlaskReset f (revoke f s))
  else s

/-- The in-flight commands of a context end FAULTED with ABORTED (Table 4.2). -/
def abortInFlight (c : Nat) (s : State) : State :=
  (s.ctx c).inFlight.foldl (fun s t => finish t 4 1 0x0C [] s) s

/-- Ends the jobs of a context, in one flask if one is named, as a teardown does (R186). -/
def endCtxJobs (c : Nat) (f : Option Nat) (s : State) : State :=
  overList (fun j => jobFaulted j 0)
    ((s.jobsOfCtx c).filter fun j => (s.job j).live && decide (f = none ∨ f = some (s.job j).flask)) s

/-- A context teardown (R186): the context's jobs end FAULTED, its objects are abandoned, it is HALTED. [log 23 DEDUCED] -/
def contextTeardown (c : Nat) (s : State) : State :=
  let s := abortInFlight c (memCtxTorn c (abandonOwned c (endCtxJobs c none
    (dropPours (fun r => decide (r.ctx = c)) s))))
  let s := overList (fun f s => let x := s.flask f
    s.setFlask f { x with tasks := x.tasks.filter fun t => decide (t.ctx ≠ c) }) flaskNums s
  let x := s.ctx c
  if x.state = .opened then
    attnCtx 12 1 0 c (s.setCtx c { x with state := .halted, haltReason := 3 })
  else s

/-- A fault inside a flask (Table 5.11, Table 5.12): cause ABANDONED ends the job only. [log 34 DEDUCED] -/
def jobFault (j cause : Nat) (s : State) : State :=
  let x := s.job j
  if !x.live then s
  else
    let s1 := jobFaulted j cause s
    let f := s.flask x.flask
    if cause = 7 then s1
    else if f.cls = 0 ∧ 2 ≤ f.tenants.length then contextTeardown x.owner s1
    else flaskReset x.flask none s1

/-! ### Results (R570 to R572, R613) -/

/-- The newest VALID result of a class is within its limit (R553). [log 108 DEDUCED] -/
def RClass.fresh (c : RClass) (now : Nat) : Bool :=
  match c.newest with
  | none => false
  | some e => c.cfg.ageLimit = 0 || decide (now - e < c.cfg.ageLimit * 1000)

/-- The failures of a result at delivery, by name (R570, Table 17.14). -/
def failuresOf (c : ClassCfg) (c3 : Bool) (age : Nat) (a : Attrs) : List Nat :=
  (if c.ageLimit ≠ 0 ∧ c.ageLimit * 1000 < age then [0x20] else [])
  ++ (if (a.concealed && !c.accept.getLsbD 0) || (a.shifted && !c.accept.getLsbD 1)
        || (a.anytime && !c.accept.getLsbD 2) || (a.remapped && !c.accept.getLsbD 3)
        || (a.mixedGen && (c3 || !c.accept.getLsbD 4)) then [0x22] else [])
  ++ (if a.valid then [] else [0x23])

/-- The data of the safe-state notice (Table 17.2). -/
def noticeData (rep : Nat) (c : SafeCause) (pc : Bool) (member : Nat) : List Nat :=
  [2, min rep 255, c.area, c.detail] ++ (leBytes 8 c.time).map BitVec.toNat
    ++ [c.flask.getD 0xFF, c.cls.getD 0xFF, if pc then 1 else 0, member]

/-- Sends the safe-state notice on every configured channel (R551). [log 109 DEDUCED] -/
def sendNotice (s : State) : State :=
  let d := noticeData s.safe.noticeRepeat s.safe.cause s.safe.powerCycle (if s.truss.id = 0 then 0xFF else s.truss.me)
  { s with safe := { s.safe with
      notices := s.safe.notices ++ (s.safe.noticeChannels.map fun ch => (ch, d)),
      noticeRepeat := min 255 (s.safe.noticeRepeat + 1) } }

/-- A cause of the safe state (R549, R575): the first is recorded and the module enters the safe state under
Table 17.1; a later one enters the safety log only. [log 109 DEDUCED] -/
def safeCause (area detail : Nat) (flask cls : Option Nat) (pc : Bool) (s : State) : State :=
  let s := safetyLog area detail (flask.getD 0xFF) (cls.getD 0xFF) s
  if s.safe.safeState then { s with safe := { s.safe with powerCycle := s.safe.powerCycle || pc } }
  else
    let s := { s with
      safe := { s.safe with
        safeState := true, outValid := false, powerCycle := s.safe.powerCycle || pc
        noticeRepeat := 0
        cause := { area := area, detail := detail, flask := flask, cls := cls, time := s.now } }
      lines := { s.lines with safeCmd := false } }
    let s := overList (fun j s => let y := s.job j
      s.setJob j { y with missing := (y.missing ++ y.inFlight).dedup, inFlight := [] }) s.jobNums s
    let s := overList (fun f s => s.setC3 f { s.c3 f with held := [], reruns := [] }) flaskNums s
    let s := pushLog ⟨s.now, 2, area, detail, noCtx, 0⟩ s
    sendNotice (serviceLog { time := s.now, kind := 0x0A, area := area, detail := detail } (tripBy 3 s))

/-- Applies one failure of a class by its REACTION (R572). -/
def classFailure (c name flask : Nat) (s : State) : State :=
  let x := s.rclass c
  let due := match x.loggedAt with | none => true | some t => decide (100000000 ≤ s.now - t)
  let x1 := { x with failures := satInc x.failures, loggedAt := if due then some s.now else x.loggedAt,
                     leaky := if x.cfg.reaction = .count then x.leaky + 1 else x.leaky }
  let s1 := s.setRclass c x1
  let s1 := if due then pushLog ⟨s.now, 2, 9, name, noCtx, 0⟩ s1 else s1
  if x.cfg.reaction = .safe ∨ (x.cfg.reaction = .count ∧ x.cfg.threshold ≤ x1.leaky)
      ∨ (x.cfg.critical = true ∧ s.safe.outValid = true)
  then safeCause 9 name (some flask) (some c) false s1
  else s1

/-- An injected fault that waited for its event has happened (R603). [log 109 DEDUCED] -/
def disarm (kind cls : Nat) (s : State) : State :=
  let keep := s.svc.injected.filter fun i => !decide (i.1 = kind ∧ i.2.2 = cls)
  { s with svc := { s.svc with injected := keep } }

/-- Delivers a result: Keystone's checks, the class's counters, the newest result of the class (R31, R570).
In the safe state no result is delivered (R550). -/
def deliver (h : Header) (s : State) : State :=
  if s.safe.safeState then s
  else
    let x := s.rclass h.cls
    let inj := s.svc.injected.any fun (k, _, c) => decide (k = 3 ∧ c = h.cls)
    let epoch := if inj then h.sourceEpoch - (x.cfg.ageLimit * 1000 + 1000) else h.sourceEpoch
    let s := if inj then disarm 3 h.cls s else s
    let age := h.outputTime - epoch
    let c3 := (s.flask h.flask).cls = 3
    let a0 := { h.attrs with valid := h.attrs.valid && !h.attrs.deferred && !(c3 && h.attrs.mixedGen) }
    let fails := failuresOf x.cfg c3 age a0
    let a1 := { a0 with
      aged := a0.aged || fails.contains 0x20
      valid := a0.valid && (x.cfg.reaction = .report || fails.isEmpty) }
    let h1 := { h with sourceEpoch := epoch, attrs := a1 }
    let x1 := { x with
      delivered := satInc x.delivered, lastAge := min counterMax (age / 1000)
      worstAge := max x.worstAge (min counterMax (age / 1000))
      newest := if a1.valid then some epoch else x.newest
      stale := x.stale && !(a1.valid && !fails.contains 0x20) }
    let s := s.setRclass h.cls x1
    let s := { s with ex := { s.ex with results := Tab.put s.ex.results h.cls h1 }
                      tb := { s.tb with lastOutput := max s.tb.lastOutput h.outputTime } }
    let s := traceNote 1 h.cls h.outputTime s
    fails.foldl (fun s n => classFailure h.cls n h.flask s) s

/-! ### Modes: Limp and parking (R35 to R38) -/

/-- The budget of a mode in watts (Table 1.8; Table 0.2 for FK4-450-LA). -/
def modeBudget (g : Grade) : Mode → Nat
  | .drive => if g = .la450 then 450 else 600
  | .depot => if g = .la450 then 600 else 760
  | .park => 40
  | .limp => 250
  | .robot => 220
  | .none => 0

/-- A pending mode change is completed REJECTED (R35). -/
def dropModeChange (s : State) : State :=
  match s.pa.change with
  | none => s
  | some m => finishOpt m.ticket 3 8 0 [] { s with pa := { s.pa with change := none } }

/-- Cores of loaded C1 to C3 flasks, or dies of a C3 layout: the dies Limp keeps (R37). -/
def State.limpKeeps (s : State) (n : Nat) : Bool :=
  (s.die n).inService && flaskNums.any fun f =>
    (s.isLoaded f && decide (1 ≤ (s.flask f).cls) && (s.flask f).committed.cores.any fun c => decide (c.1 = n))
    || (decide ((s.c3 f).mode ≠ .none) && decide (n ∈ [(s.c3 f).dieA, (s.c3 f).dieB, (s.c3 f).dieC]))

/-- Cores that C0 flasks hold on a die, for Robot's choice (R37). -/
def State.coresOnDie (s : State) (n cls : Nat) : Nat :=
  flaskNums.foldl (fun k f => if s.isLoaded f ∧ (s.flask f).cls = cls then
    k + ((s.flask f).committed.cores.filter fun c => decide (c.1 = n)).length else k) 0

/-- The first group of Robot's dies: A or B of a loaded C3 flask, or cores of a loaded C1 or C2 flask (R37).
[log 42 DEDUCED] -/
def State.robotFirst (s : State) : List Nat :=
  dieNums.filter fun n => (s.die n).inService && flaskNums.any fun f => s.isLoaded f &&
    ((decide ((s.flask f).cls = 3) && (decide ((s.c3 f).mode ≠ .none) && decide (n ∈ [(s.c3 f).dieA, (s.c3 f).dieB])))
     || (decide ((s.flask f).cls = 1 ∨ (s.flask f).cls = 2)
         && (s.flask f).committed.cores.any fun c => decide (c.1 = n)))

/-- Robot's dies: the first group, then up to two dies by cores of loaded C0 flasks, a tie to the lower
number (R37). [log 42 DEDUCED] -/
def State.robotKeeps (s : State) : List Nat :=
  let g := s.robotFirst
  let rest := sortBy (dieNums.filter fun n => (s.die n).inService && !g.contains n)
    fun a b => decide (s.coresOnDie b 0 < s.coresOnDie a 0 ∨ (s.coresOnDie b 0 = s.coresOnDie a 0 ∧ a ≤ b))
  g ++ rest.take (2 - g.length)

/-- The dies a mode keeps powered (Table 1.8). -/
def State.modeKeeps (s : State) (m : Mode) (n : Nat) : Bool :=
  match m with
  | .limp => s.limpKeeps n
  | .robot => s.robotKeeps.contains n
  | .park => false
  | _ => true

/-- A die has no flask's cores left. -/
def State.dieEmpty (s : State) (n : Nat) : Bool :=
  flaskNums.all fun f => (s.jobsOf f).all fun j => (s.job j).cores.all fun c => decide (c.1 ≠ n)

/-- The third step of parking: rails off once jobs and pages are gone (R37). -/
def finishPark (n : Nat) (s : State) : State :=
  let d := s.die n
  if d.parking && s.dieEmpty n && memDieClear n s then
    s.setDie n { d with parking := false, parked := true, rails := .off }
  else s

/-- Begins to park a die: its jobs leave at parting lines, its stack is evacuated (R37). -/
def beginPark (n : Nat) (s : State) : State :=
  let d := s.die n
  if d.inService then finishPark n (memEvacuate n (s.setDie n { d with parking := true })) else s

/-- A C3 flask whose die C is parked runs without slack, and C3_DEGRADED is raised (R26, R37). -/
def c3DieC (n : Nat) (f : Nat) (s : State) : State :=
  let x := s.c3 f
  if x.mode = .slack ∧ x.dieC = n ∧ s.isLoaded f then
    attn 5 9 0 (s.setC3 f { x with mode := .noSlack, slack := 0, slackSites := [] })
  else s

/-- Parks every die in service that a mode does not keep. [log 41 DEDUCED] -/
def parkFor (m : Mode) (s : State) : State :=
  overList (fun n s' => if (s'.die n).inService && !s.modeKeeps m n then
    overList (c3DieC n) flaskNums (beginPark n s') else s') dieNums s

/-- Keystone enters Limp without a request (R35, R36): a pending request is refused, C0 flasks stop at their
next parting line, dies are parked, MODE is raised. -/
def limpEntry (s : State) : State :=
  if s.pa.mode = .limp then s
  else
    let s := dropModeChange s
    let s := { s with pa := { s.pa with mode := .limp, modeW := 250 } }
    let s := overList (fun f s => let x := s.flask f
      if x.cls = 0 ∧ x.state = .active then s.setFlask f { x with stopPending := true } else s) flaskNums s
    attn 6 8 0 (parkFor .limp s)

/-! ### Loss of a compute die (R84, R85, R187, R621) -/

/-- Reserve cores of a die that no flask holds. -/
def State.freeReserves (s : State) (n : Nat) : List Nat :=
  (s.die n).spares.filter fun k => flaskNums.all fun f =>
    !(s.flask f).committed.cores.contains (n, k) && !(s.c3 f).slackSites.contains (n, k)

/-- Active cores of a die that no flask holds or has staged. -/
def State.freeActive (s : State) (n : Nat) : List Nat :=
  (s.die n).order.filter fun k => flaskNums.all fun f =>
    !(s.flask f).committed.cores.contains (n, k) && !(s.flask f).shadow.cores.contains (n, k)

/-- Cores that loaded C1 to C3 flasks hold on dies out of service. -/
def State.coresLost (s : State) : Nat :=
  flaskNums.foldl (fun k f => if s.isLoaded f ∧ 1 ≤ (s.flask f).cls then
    k + ((s.flask f).committed.cores.filter fun c => !(s.die c.1).inService).length else k) 0

/-- The remaining dies and reserve cores carry every loaded C1 to C3 pace table (R35, R187). -/
def State.canCarry (s : State) : Bool :=
  decide (s.coresLost ≤ (dieNums.filter fun n => (s.die n).inService).foldl
    (fun k n => k + (s.freeReserves n).length) 0)

/-- What the loss of die `n` does to a C3 flask (R26, R569). -/
def c3DieLost (n f : Nat) (s : State) : State :=
  let x := s.c3 f
  if x.mode = .none || !s.isLoaded f then s
  else if n = x.dieC then
    if x.mode = .slack then attn 5 9 0 (s.setC3 f { x with mode := .noSlack, slack := 0, slackSites := [] }) else s
  else if n = x.dieA ∨ n = x.dieB then
    attn 5 9 0x25 (s.setC3 f { x with mode := .simplex, simplexSince := some s.now, copying := true, reruns := [], held := [] })
  else s

/-- A compute die is lost, or marked absent in operation: rails off, DIE_ABSENT set, DIE_CHANGE raised; its
synchronisation objects are served by the hub, its flasks re-map at their parting lines, pages of its stack
are handled, Limp follows where the pace tables cannot be carried (R35, R161, R187, R359, R621). -/
def dieLost (n : Nat) (why : DieOut) (s : State) : State :=
  let d := s.die n
  if d.out.isSome then s
  else
    let rails := if why = .lockout then Rails.locked else Rails.off
    let s := s.setDie n { d with out := some why, rails := rails, short := false, parked := false, parking := false }
    let s := overList (fun o s => let x := s.sync o
      if x.kind ≠ .free ∧ x.home = n then s.setSync o { x with servedByHub := true } else s) (s.ex.syncs.map (·.1)) s
    let s := overList (fun f s => let x := s.flask f
      if x.committed.cores.any fun c => decide (c.1 = n) then
        s.setFlask f { x with remapDue := (x.remapDue ++ [n]).dedup } else s) flaskNums s
    let s := overList (fun j s => let y := s.job j
      if y.cores.any fun c => decide (c.1 = n) then
        if (s.c3 y.flask).mode = .none then
          s.setJob j { y with missing := (y.missing ++ y.inFlight).dedup, inFlight := [] }
        else s.setJob j { y with inFlight := [] }
      else s) s.jobNums s
    let s := memDieLost n (overList (c3DieLost n) flaskNums s)
    let s := attn 4 8 0 s
    if s.pa.mode = .drive && !s.canCarry then limpEntry s else s

end Sys2Proof.Machine
end

