-- ==== Sys2Proof/Machine/Words.lean ====
section
/-!
DEFINITION. Register words as the module register space shows them: identity, lines, power delivery, host
interface, execution, power, safety, service (Tables 0.3, 2.8, 2.9, 3.9 to 3.13, 4.10 to 4.15, 5.14 to 5.19,
16.10 to 16.14, 17.9 to 17.12, 18.8, 18.9).
-/

namespace Sys2Proof.Machine

/-- Adds fields up into a word. -/
def word (fs : List Nat) : Nat := fs.foldl (· + ·) 0

/-- MODULE_ID (Table 0.3). -/
def State.moduleId (s : State) : Nat :=
  word [4, fieldAt 8 8 s.fuses.grade.variant, fieldAt 16 8 s.fuses.grade.cores, fieldAt 24 8 s.fuses.stepping]

/-- SIGNAL_STATUS (Table 2.8). -/
def State.signalStatus (s : State) : Nat :=
  let l := s.lines
  word [flagAt 0 l.safeCmd, flagAt 1 (l.safeCmd != l.safeAWrong), flagAt 2 l.safeCmd,
    flagAt 3 (l.safeCmd != l.safeBWrong), flagAt 4 l.tripA, flagAt 5 l.tripB, flagAt 6 l.wake,
    flagAt 7 l.ppsSeen, flagAt 8 l.vinGood, flagAt 9 l.kaInRange, flagAt 10 s.host.hostRdy,
    flagAt 11 s.host.attnLine, fieldAt 12 3 s.stateCode]

/-- SIGNAL_FAULT (Table 2.9). -/
def State.signalFault (s : State) : Nat := s.lines.fault.toNat

/-- RAIL_STATUS (Table 3.9). -/
def State.railStatus (s : State) : Nat :=
  word [flagAt 0 s.sup.ibcA, flagAt 1 s.sup.ibcB, flagAt 2 s.sup.hubOk, flagAt 3 s.sup.vinLowExt,
    fieldAt 8 2 (s.die 0).rails.code, fieldAt 10 2 (s.die 1).rails.code, fieldAt 12 2 (s.die 2).rails.code,
    fieldAt 14 2 (s.die 3).rails.code, fieldAt 16 8 s.sup.vhubRemoved.toNat]

/-- PHASE_STATUS_CDn (Table 3.10). -/
def State.phaseStatus (s : State) (n : Nat) : Nat :=
  word [(s.die n).removed.toNat, fieldAt 16 16 (s.die n).senseFail.toNat]

/-- STEP of START_STATUS: the highest step reached with every earlier one, 0xF for step 15 (Table 3.11). -/
def State.startStep (s : State) : Nat :=
  let k := ((List.range 15).takeWhile fun i => s.sup.steps.getLsbD (i + 1)).length
  k

/-- START_STATUS (Table 3.11). -/
def State.startStatus (s : State) : Nat :=
  word ([fieldAt 0 4 s.startStep, flagAt 4 s.sup.early, flagAt 5 s.sup.full, flagAt 6 s.sup.bankFallback,
    flagAt 7 s.sup.hubLocked, flagAt 8 s.sup.mpImageFail, fieldAt 20 6 s.sup.engineMissing.toNat,
    flagAt 26 (s.sup.ksBank = 1), flagAt 27 (s.sup.mpBank = 1)]
    ++ dieNums.map (fun n => flagAt (12 + n) (s.die n).out.isSome)
    ++ dieNums.map (fun n => flagAt (16 + n) (s.die n).short))

/-- CORE_COUNT_CDn (Table 3.12). -/
def State.coreCount (s : State) (n : Nat) : Nat :=
  let d := s.die n
  word [fieldAt 0 8 d.active, fieldAt 8 8 d.reserve, fieldAt 16 8 d.retiredCount, fieldAt 24 8 d.early]

/-- CONTEXT_STATUS (Table 4.13). [log 14 DESIGN CHOICE] -/
def State.contextStatus (s : State) (c : Nat) : Nat :=
  let x := s.ctx c
  word [fieldAt 0 3 x.state.code, flagAt 3 x.anchored, fieldAt 4 4 x.haltReason, fieldAt 8 8 x.fn,
    fieldAt 16 8 x.inFlight.length]

/-- HOSTIF_STATUS (Table 4.14). -/
def State.hostifStatus (s : State) : Nat :=
  let h := s.host
  word [fieldAt 0 4 h.linkSpeed, fieldAt 4 5 h.linkWidth, flagAt 9 (h.linkUp && h.linkSpeed = 6),
    fieldAt 10 8 h.numVf, flagAt 18 h.hostRdy]

/-- A word of the ring set of context `c` (Table 4.11), by offset. -/
def State.ringWord (s : State) (c o : Nat) : Nat :=
  let x := s.ctx c
  let r := x.ring
  if o = 0x00 then r.sqBase % 2 ^ 32 else if o = 0x04 then r.sqBase / 2 ^ 32
  else if o = 0x08 then r.cqBase % 2 ^ 32 else if o = 0x0C then r.cqBase / 2 ^ 32
  else if o = 0x10 then r.mirror % 2 ^ 32 else if o = 0x14 then r.mirror / 2 ^ 32
  else if o = 0x18 then word [fieldAt 0 4 r.sqOrder, fieldAt 4 4 r.cqOrder, fieldAt 8 6 r.vector, flagAt 16 x.enable]
  else if o = 0x1C then word [fieldAt 0 3 x.state.code, fieldAt 4 4 x.ringError]
  else if o = 0x20 then x.expSeq.toNat
  else if o = 0x24 then x.dropped
  else 0

/-- FN_INFO and FN_AREAS (Table 4.15). -/
def State.fnInfo (s : State) (f : Nat) : Nat :=
  let x := s.fn f
  word [fieldAt 0 10 x.home, fieldAt 16 10 x.allowance, flagAt 31 x.granted]
def State.fnAreas (s : State) (f : Nat) : Nat :=
  let x := s.fn f
  if x.granted then (x.areas ||| 3).toNat else 0

/-- FLASK_CFG, FLASK_STATUS, FLASK_GEN, FLASK_CORES of a flask with given holdings (Tables 5.14 to 5.16). [log 27 DEDUCED] -/
def State.flaskWord (s : State) (f k : Nat) (h : Holdings) : Nat :=
  let x := s.flask f
  let inSeries := s.ex.series.any fun r => (r.members.drop r.done).contains f
  if k = 0 then
    word [fieldAt 0 2 x.cls, fieldAt 2 2 x.mode.code, flagAt 4 x.autoRestart, fieldAt 8 10 x.spanUs]
  else if k = 1 then
    word [fieldAt 0 3 x.state.code, flagAt 3 inSeries, flagAt 4 (x.shadow ≠ x.committed),
      flagAt 5 ((s.jobsOf f).any fun j => (s.job j).live && (s.job j).remapped),
      fieldAt 8 8 x.tenants.length,
      fieldAt 16 8 (min 255 ((s.jobsOf f).filter fun j => (s.job j).live).length), fieldAt 24 8 x.resets]
  else if k = 2 then x.generation
  else word (dieNums.map fun n => fieldAt (8 * n) 8 (h.cores.filter fun c => decide (c.1 = n)).length)

/-- COMMIT_STATUS (Table 5.18), low and high word, of the newest series of STAGE and COMMIT_CONFIG. -/
def State.commitStatus (s : State) : Nat :=
  match s.ex.series with
  | [] => 0
  | r :: _ => word [if r.stopped then 2 else 1, fieldAt 4 4 r.done, fieldAt 8 5 r.members.length]

/-- SYNC_STATE (Table 5.19) as a 64-bit number. -/
def State.syncState (s : State) (o : Nat) : Nat :=
  let x := s.sync o
  let v := match x.kind with
    | .free => 0
    | .counter => x.value % 2 ^ 32
    | .event => x.value % 2
    | .barrier => x.value % 2 ^ 16 + fieldAt 16 11 x.arrivals
  word [v, fieldAt 32 2 x.kind.code, flagAt 34 x.abandoned, flagAt 35 x.servedByHub, fieldAt 36 4 x.holder,
    fieldAt 40 2 x.home, fieldAt 48 16 (min 0xFFFF (max x.pending (s.waitersOn o).length))]

/-- POWER_STATUS, words 0 to 5 (Table 16.10). -/
def State.powerStatus (s : State) (k : Nat) : Nat :=
  let p := s.pa
  if k = 0 then word [fieldAt 0 3 p.mode.code, fieldAt 3 3 (match p.change with | none => 7 | some m => m.mode.code),
    flagAt 6 p.conflict, fieldAt 8 4 p.limiter, fieldAt 16 16 p.budgetW]
  else if k = 1 then word [fieldAt 0 16 p.platformW, fieldAt 16 16 p.drawW]
  else if k = 2 then fieldAt 0 16 p.stretchReq
  else if k = 3 then word [fieldAt 0 16 p.modeW, fieldAt 16 16 p.swCeilW]
  else if k = 4 then word [fieldAt 0 16 p.supplyW, fieldAt 16 16 p.coolantW]
  else if k = 5 then word [fieldAt 0 16 p.hubThermalW, fieldAt 16 16 p.paceCeil]
  else 0

/-- DIE_POWER_CDn (Table 16.11), words 0 to 4. -/
def State.diePowerWord (s : State) (n k : Nat) : Nat :=
  let d := s.diePower n
  if k = 0 then word [fieldAt 0 16 d.vcore, fieldAt 16 8 d.pace, fieldAt 24 8 (twosOf 8 d.hottest)]
  else if k = 1 then word [fieldAt 0 16 d.ceiling, fieldAt 16 16 d.paced]
  else if k = 2 then word [fieldAt 0 16 d.used, flagAt 16 d.metered, flagAt 17 d.throttle,
    flagAt 18 ((s.die n).out = some .thermal)]
  else if k = 3 then fieldAt 0 16 d.stretchReq
  else if k = 4 then d.meteredEpochs
  else 0

/-- FLASK_POWER (Table 16.12), words 0 to 6. -/
def State.flaskPowerWord (s : State) (f k : Nat) : Nat :=
  let x := s.flaskPower f
  if k = 0 then word [fieldAt 0 16 x.reserved, fieldAt 16 16 x.grant]
  else if k = 1 then word [fieldAt 0 16 x.floor, fieldAt 16 16 x.ceil]
  else if k = 2 then word [fieldAt 0 16 x.used, fieldAt 16 2 x.lagDie, flagAt 18 x.lagging, flagAt 19 x.conflict]
  else if k = 3 then x.energy / 1000000 % 2 ^ 32
  else if k = 4 then x.energy / 1000000 / 2 ^ 32 % 2 ^ 32
  else if k = 5 then min counterMax (x.ballast / 1000000000)
  else if k = 6 then x.waits
  else 0

/-- THERMAL_STATUS (Table 16.13), words 0 to 5. -/
def State.thermalWord (s : State) (k : Nat) : Nat :=
  let p := s.pa
  if k = 0 then word (dieNums.map fun n => fieldAt (8 * n) 8 (twosOf 8 (s.diePower n).hottest))
  else if k = 1 then word (dieNums.map fun n => fieldAt (8 * n) 8 (twosOf 8 (Tab.get 0 p.hbmC n)))
  else if k = 2 then word [fieldAt 0 8 (twosOf 8 p.hubC), fieldAt 8 8 (twosOf 8 p.lpC), fieldAt 16 8 (twosOf 8 p.flashC)]
  else if k = 3 then word [fieldAt 0 16 (twosOf 16 p.inlet), fieldAt 16 16 (twosOf 16 p.outlet)]
  else if k = 4 then word [fieldAt 0 16 p.flow, flagAt 16 p.coolantFault, flagAt 17 p.sensorFault]
  else if k = 5 then word [p.warn.toNat, fieldAt 16 11 p.throttleBits.toNat]
  else 0

/-- The active coefficient record (R542). -/
def State.activeCoeff (s : State) : List Byte := if s.pa.activeBank = 0 then s.pa.coeffA else s.pa.coeffB

/-- ENERGY_MODEL (Table 16.14), words 0 to 3. -/
def State.energyWord (s : State) (k : Nat) : Nat :=
  let p := s.pa
  if k = 0 then word [flagAt 0 (p.activeBank = 1), flagAt 1 p.switchAt.isSome,
    fieldAt 16 16 (leNat (s.activeCoeff.take 2))]
  else if k = 1 then twosOf 16 p.modelErr
  else if k = 2 then p.platformEnergy / 1000000 % 2 ^ 32
  else if k = 3 then p.platformEnergy / 1000000 / 2 ^ 32 % 2 ^ 32
  else 0

/-- Condition 3 of R553. -/
def State.selfTestOk (s : State) : Bool := s.safe.selfTestOk && s.safe.mpAlive && decide (20 ≤ s.safe.paEpochs)
/-- Condition 4 of R553. -/
def State.auditOk (s : State) : Bool := s.safe.partitionOk && s.safe.translationOk
/-- The lowest CRITICAL class that is not fresh (R554). -/
def State.waitClass (s : State) : Option Nat :=
  (s.safe.classes.find? fun (_, c) => c.cfg.critical && !c.fresh s.now).map (·.1)

/-- SAFETY_STATUS, words 0 to 2 (Table 17.9). -/
def State.safetyStatus (s : State) (k : Nat) : Nat :=
  let f := s.safe
  if k = 0 then word [flagAt 0 f.armed, flagAt 1 f.outValid, flagAt 2 f.safeState, flagAt 3 f.powerCycle,
    flagAt 4 s.selfTestOk, flagAt 5 s.auditOk, flagAt 6 (timeIsGood s),
    fieldAt 16 16 (if f.armed && !f.outValid then s.waitClass.getD 0xFFFF else 0xFFFF)]
  else if k = 1 then word [fieldAt 0 16 f.timeBoundUs, fieldAt 16 16 f.eoiS]
  else if k = 2 then fieldAt 0 16 f.diagMs
  else 0

/-- SAFE_CAUSE, words 0 to 3 (Table 17.9). -/
def State.safeCauseWord (s : State) (k : Nat) : Nat :=
  let c := s.safe.cause
  if k = 0 then word [fieldAt 0 8 c.area, fieldAt 8 8 c.detail, fieldAt 16 4 (c.flask.getD 0),
    flagAt 20 c.flask.isSome, fieldAt 24 8 (c.cls.getD 0)]
  else if k = 2 then c.time % 2 ^ 32
  else if k = 3 then c.time / 2 ^ 32 % 2 ^ 32
  else 0

/-- C3_STATUS (Table 17.10), words 0 to 5. -/
def State.c3Word (s : State) (f k : Nat) : Nat :=
  let x := s.c3 f
  if k = 0 then word [fieldAt 0 2 x.dieA, fieldAt 2 2 x.dieB, fieldAt 4 2 x.dieC, fieldAt 6 2 x.mode.code,
    fieldAt 8 5 x.slack, flagAt 13 x.checkerA, flagAt 14 x.checkerB]
  else if k = 1 then x.votes else if k = 2 then x.voteFails else if k = 3 then x.tests
  else if k = 4 then x.testFails
  else if k = 5 then match x.simplexSince with
    | some t => min counterMax ((s.now - t) / 1000000)
    | none => 0
  else 0

/-- CLASS_STATUS (Table 17.11), words 0 to 7. -/
def State.classWord (s : State) (c k : Nat) : Nat :=
  let x := s.rclass c
  if k = 0 then x.cfg.ageLimit
  else if k = 1 then word [x.cfg.accept.toNat, fieldAt 8 2 x.cfg.reaction.code, flagAt 10 x.cfg.critical,
    flagAt 11 x.cfg.staleCheck, flagAt 12 (x.fresh s.now), fieldAt 16 8 x.cfg.threshold]
  else if k = 2 then x.cfg.windowMs else if k = 3 then x.delivered else if k = 4 then x.failures
  else if k = 5 then x.lastAge else if k = 6 then x.worstAge else 0

/-- The error source `k` (Table 17.5). -/
def State.errSource (s : State) (k : Nat) : ErrSource := s.safe.sources.getD k { threshold := 0, windowMs := 0 }

/-- FW_STATUS (Table 18.8), words 0 to 3. -/
def State.fwWord (s : State) (c k : Nat) : Nat :=
  let x := s.comp c
  if k = 0 then word [flagAt 0 (x.active = 1), flagAt 1 x.trial, fieldAt 2 2 x.switch.code,
    fieldAt 4 2 x.bankA.state.code, fieldAt 6 2 x.bankB.state.code, fieldAt 8 7 x.bankA.secver,
    fieldAt 16 7 x.bankB.secver]
  else if k = 1 then x.bankA.version else if k = 2 then x.bankB.version else 0

/-- SERVICE_STATUS (Table 18.9), words 0 to 5. -/
def State.serviceWord (s : State) (k : Nat) : Nat :=
  let v := s.svc
  if k = 0 then word [fieldAt 0 7 s.fuses.secCounter, flagAt 7 (s.fuses.grade = .ld600), flagAt 8 v.diagEn,
    flagAt 9 v.diagWrite, flagAt 10 s.sup.recordFull, flagAt 11 v.traceOn]
  else if k = 1 then fieldAt 0 17 s.sup.record.length
  else if k = 2 then v.logWritten % 2 ^ 32
  else if k = 3 then v.diagFrames else if k = 4 then v.diagRefused else if k = 5 then v.traceDrops
  else 0

/-- The firmware version that runs of a component. -/
def State.runningVersion (s : State) (c : Nat) : Nat :=
  (s.comp c).version ((s.comp c).bankFor none)

end Sys2Proof.Machine
end

