-- ==== Sys2Proof/Machine/HostCmds.lean ====
section
/-!
DEFINITION. The meanings of the commands of areas 0x00 and 0x01, of the doorbells and ring registers, and of the
events of the host link (spec 04_host_and_commands.md).
-/

namespace Sys2Proof.Machine

/-! ### Contexts -/

/-- Contexts of a function that are not FREE (R134). -/
def State.ctxsOf (s : State) (f : Nat) : List Nat :=
  (s.host.ctxs.filter fun (_, x) => decide (x.state ≠ .free ∧ x.fn = f)).map (·.1)

/-- The allowance of a function (R134, Table 4.17). -/
def State.allowanceOf (s : State) (f : Nat) : Nat := if f = 0 then 1024 else (s.fn f).allowance

/-- The lowest-numbered FREE context (R133, R134). -/
def State.freeCtx (s : State) : Option Nat := lowest (fun c => (s.ctx c).state = .free) 1024 0

/-- R116: a ring set is valid for a function. -/
def ringOk (f : Nat) (r : RingSet) : Bool :=
  decide (4 ≤ r.sqOrder ∧ r.sqOrder ≤ 12 ∧ 4 ≤ r.cqOrder ∧ r.cqOrder ≤ 12 ∧ r.sqBase % 4096 = 0
    ∧ r.cqBase % 4096 = 0 ∧ r.mirror % 8 = 0 ∧ (if f = 0 then 1 ≤ r.vector ∧ r.vector ≤ 63 else r.vector ≤ 7))

/-- The ring parameters of a packet (R148). -/
def ringParams (p : Packet) : RingSet :=
  { sqBase := p.u64 16, cqBase := p.u64 24, mirror := p.u64 32, sqOrder := p.u8 40 % 16,
    cqOrder := p.u8 40 / 16, vector := p.u8 41 }

/-- A context enters OPEN with a ring set: indices 0, expected sequence number 1 (Table 4.2, R122). -/
def openRings (c : Nat) (r : RingSet) (s : State) : State :=
  let x := s.ctx c
  s.setCtx c { x with state := .opened, ring := r, enable := true, ringError := 0, haltReason := 0, expSeq := 1,
                      sqHead := 0, sqTail := 0, cqHead := 0, cqTail := 0 }

/-- Replies of packets in flight are lost from here on (R140). [log 23 DEDUCED] -/
def Ctx.loseReplies (x : Ctx) : Ctx := { x with inFlight := x.inFlight.map fun t => { t with lost := true } }

/-- OPEN or HALTED to DETACHED: rings forgotten, ENABLE cleared (Table 4.2). -/
def detach (c : Nat) (s : State) : State :=
  let x := s.ctx c
  if x.state = .opened ∨ x.state = .halted then
    s.setCtx c { x.loseReplies with state := .detached, enable := false, haltReason := 0 }
  else s

/-- OPEN to HALTED with a reason; RING is raised (Table 4.2). [log 23 DEDUCED] -/
def halt (c reason detail : Nat) (s : State) : State :=
  let x := s.ctx c
  if x.state = .opened then
    attnCtx 12 1 detail c (s.setCtx c { x.loseReplies with state := .halted, haltReason := reason })
  else s

/-- A context owns a job or a tenancy of a flask (R135). -/
def State.ctxBusy (s : State) (c : Nat) : Bool := !(s.jobsOfCtx c).isEmpty || (s.flaskOfCtx c).isSome

/-- A context's resources are released and it is FREE (Table 4.2). -/
def freeContext (c : Nat) (s : State) : State :=
  let s := overList (fun j s => jobUnloaded j (s.setJob j Job.rest)) (s.jobsOfCtx c) s
  let s := overList (fun f s => s.setFlask f { s.flask f with tenants := (s.flask f).tenants.filter (· ≠ c) })
    flaskNums s
  let s := overList (fun o s => s.setSync o Sync.rest)
    ((s.ex.syncs.filter fun (_, x) => decide (x.owner = c)).map (·.1)) (abandonOwned c s)
  (memCtxFreed c s).setCtx c Ctx.rest

/-- A context moves to CLOSING; with force its jobs end and its commands are cut off (Table 4.2, R135). -/
def beginClose (force : Bool) (closer : Option Ticket) (c : Nat) (s : State) : State :=
  let s := if force then abortInFlight c (abandonOwned c (endCtxJobs c none
      (dropPours (fun r => decide (r.ctx = c)) s))) else s
  let x := s.ctx c
  s.setCtx c { x with state := .closing, enable := x.enable && x.state = .opened, closer := closer }

/-- A CLOSING context without packets in flight. -/
def Ctx.drained (x : Ctx) : Bool := x.state = .closing && x.inFlight.isEmpty

/-- The closing of one context comes to its end: FREE, and the command that closed it gets its final reply. A home
context closed by REVOKE_FUNCTION waits for the function's other contexts; then the grant is cleared (R136). -/
def closeOne (c : Nat) (s : State) : State :=
  let x := s.ctx c
  if !x.drained then s
  else
    match x.closer with
    | none => freeContext c s
    | some t =>
      if t.opcode = 0x0106 then
        if s.ctxsOf x.fn = [c] then finishOk t ((freeContext c s).setFn x.fn Fn.rest) else s
      else finishOk t (freeContext c s)

/-- Brings every closing context as far as it can come. -/
def sweepClosing (s : State) : State :=
  let cs := (s.host.ctxs.filter fun (_, x) => x.drained).map (·.1)
  overList closeOne cs (overList closeOne cs s)

/-- A step after which contexts that close may have come to their end. -/
def nextSweep (s : State) : Host.Outcome State Fault Refusal := next (sweepClosing s)

/-! ### Areas 0x00 and 0x01 (Table 4.16) -/

def execNop (p : Packet) (s : State) : Host.Outcome State Fault Refusal :=
  command 0x0000 0 false p s fun s _ => ok s

def execGetIdentity (p : Packet) (s : State) : Host.Outcome State Fault Refusal :=
  command 0x0001 0 false p s fun s _ =>
    ok s (leBytes 4 s.moduleId ++ leBytes 4 (s.runningVersion 1) ++ leBytes 4 (s.runningVersion 0)
      ++ leBytes 4 s.startStatus)

/-- Return values of READ_ATTENTION for an entry, after its removal (Table 4.16). [log 24 DEDUCED] -/
def readAttnReturn (s : State) (e : Option AttnEntry) (remaining : Nat) (full : Bool) : List Byte :=
  leBytes 4 s.causeWord.toNat ++ leBytes 4 s.host.mask.toNat
    ++ (match e with
      | some e => leBytes 8 e.time ++ leBytes 1 e.cause ++ leBytes 1 e.area ++ leBytes 1 e.detail
      | none => leBytes 8 0 ++ [0xFF, 0, 0])
    ++ leBytes 1 (remaining + if full then 128 else 0)
    ++ leBytes 2 (match e with | some e => e.ctx | none => noCtx)

/-- [log 24 DEDUCED] -/
def execReadAttention (p : Packet) (s : State) : Host.Outcome State Fault Refusal :=
  command 0x0002 0 true p s fun s _ =>
    let s' := { s with host := { s.host with log := s.host.log.drop 1, overflow := false } }
    ok s' (readAttnReturn s s.host.log.head? s'.host.log.length s.host.overflow)

def execAckAttention (p : Packet) (s : State) : Host.Outcome State Fault Refusal :=
  command 0x0003 4 true p s fun s _ =>
    let v := p.u32 12
    if 65536 ≤ v then reserved
    else
      let s := { s with host := { s.host with cause := s.host.cause &&& ~~~(BitVec.ofNat 16 v) } }
      ok s (leBytes 4 s.causeWord.toNat)

def execSetAttnMask (p : Packet) (s : State) : Host.Outcome State Fault Refusal :=
  command 0x0004 4 true p s fun s _ =>
    let v := p.u32 12
    if 65536 ≤ v then reserved
    else
      let s := { s with host := { s.host with mask := BitVec.ofNat 16 v ||| 4 } }
      ok s (leBytes 4 s.host.mask.toNat)

def execOpenContext (p : Packet) (s : State) : Host.Outcome State Fault Refusal :=
  command 0x0101 30 false p s fun s t =>
    let f := (s.ctx t.ctx).fn
    if !p.zeros 12 4 then reserved
    else if !ringOk f (ringParams p) then .reject 1 0x0B
    else if s.allowanceOf f ≤ (s.ctxsOf f).length then .reject 1 0x0D
    else match s.freeCtx with
      | none => .reject 1 0x0A
      | some c => ok (openRings c (ringParams p) (s.setCtx c { Ctx.rest with fn := f })) (leBytes 2 c)

def execCloseContext (p : Packet) (s : State) : Host.Outcome State Fault Refusal :=
  command 0x0102 3 false p s fun s t =>
    let c := p.u16 12
    let x := s.ctx c
    let f := (s.ctx t.ctx).fn
    if 1024 ≤ c ∨ 1 < p.u8 14 then reserved
    else if f ≠ 0 ∧ x.fn ≠ f then notPermitted
    else if x.anchored ∨ c = t.ctx ∨ x.state = .free ∨ x.state = .closing then .reject 1 8
    else if p.u8 14 = 0 ∧ s.ctxBusy c then .reject 1 9
    else
      let s := beginClose (p.u8 14 = 1) (some t) c s
      if (s.ctx c).drained then ok (freeContext c s) else .later s

def execAttachContext (p : Packet) (s : State) : Host.Outcome State Fault Refusal :=
  command 0x0103 30 false p s fun s t =>
    let c := p.u16 12
    let x := s.ctx c
    let f := (s.ctx t.ctx).fn
    if 1024 ≤ c then reserved
    else if x.fn ≠ f then notPermitted
    else if x.anchored ∨ (x.state ≠ .detached ∧ x.state ≠ .halted) then .reject 1 8
    else if !ringOk f (ringParams p) then .reject 1 0x0B
    else ok (openRings c (ringParams p) (s.setCtx c x.loseReplies))

def execQueryContext (p : Packet) (s : State) : Host.Outcome State Fault Refusal :=
  command 0x0104 2 false p s fun s t =>
    let c := p.u16 12
    let x := s.ctx c
    let f := (s.ctx t.ctx).fn
    if 1024 ≤ c then reserved
    else if f ≠ 0 ∧ (x.fn ≠ f ∨ x.state = .free) then notPermitted
    else ok (s.setCtx c { x with dropped := 0, event := 0 })
      (leBytes 4 (s.contextStatus c) ++ leBytes 4 x.expSeq.toNat ++ leBytes 4 x.dropped ++ leBytes 4 x.event.toNat)

def execGrantFunction (p : Packet) (s : State) : Host.Outcome State Fault Refusal :=
  command 0x0105 6 true p s fun s _ =>
    let f := p.u8 12
    let n := p.u16 14
    let areas := p.u16 16
    let g := s.fn f
    if f = 0 ∨ n = 0 ∨ 1023 < n ∨ 4096 ≤ areas then reserved
    else if s.host.numVf < f then .reject 1 8
    else if g.granted then
      if n < (s.ctxsOf f).length then .reject 1 0x0D
      else ok (s.setFn f { g with allowance := n, areas := BitVec.ofNat 12 areas ||| 3 }) (leBytes 2 g.home)
    else match s.freeCtx with
      | none => .reject 1 0x0A
      | some c =>
        let s := s.setCtx c { Ctx.rest with state := .detached, anchored := true, fn := f }
        ok (s.setFn f { g with granted := true, home := c, allowance := n, areas := BitVec.ofNat 12 areas ||| 3 })
          (leBytes 2 c)

def execRevokeFunction (p : Packet) (s : State) : Host.Outcome State Fault Refusal :=
  command 0x0106 2 true p s fun s t =>
    let f := p.u8 12
    let g := s.fn f
    let cs := s.ctxsOf f
    if f = 0 ∨ 1 < p.u8 13 then reserved
    else if !g.granted ∨ (s.ctx g.home).closer.isSome then .reject 1 8
    else if p.u8 13 = 0 ∧ cs.any s.ctxBusy then .reject 1 9
    else
      let s := overList (fun c s => if (s.ctx c).state = .closing then s
        else beginClose (p.u8 13 = 1) (if c = g.home then some t else none) c s) cs s
      if cs.all fun c => (s.ctx c).drained then ok ((overList freeContext cs s).setFn f Fn.rest) else .later s

def execQueryOccupancy (p : Packet) (s : State) : Host.Outcome State Fault Refusal :=
  command 0x0107 0 false p s fun s t =>
    let f := (s.ctx t.ctx).fn
    ok s (leBytes 2 (s.host.ctxs.filter fun (_, x) => decide (x.state ≠ .free)).length
      ++ leBytes 1 (s.host.fns.filter fun (_, x) => x.granted).length
      ++ leBytes 1 (s.ex.flasks.filter fun (_, x) => decide (x.state ≠ .empty)).length
      ++ leBytes 4 (s.ex.syncs.filter fun (_, x) => decide (x.kind ≠ .free)).length
      ++ leBytes 4 (liveSequences s) ++ leBytes 1 (camerasConfigured s) ++ leBytes 1 (trussMembers s)
      ++ leBytes 2 (s.ctxsOf f).length)

/-- A packet whose opcode no table defines (R608): check 4 refuses it unless an earlier check does. -/
def execUndefinedOpcodePacket (opcode : Nat) (p : Packet) (s : State) : Host.Outcome State Fault Refusal :=
  next (takeUp opcode 0 false false p s fun _ _ => .reject 1 1)

/-! ### Doorbells and ring registers (R116, R117, Table 4.11) -/

/-- The function's BAR0 is served: no Function Level Reset runs, and the virtual function exists (R138). [log 18 DEDUCED] -/
def State.barServed (s : State) (f : Nat) : Bool :=
  s.host.linkUp && !(s.fn f).inFlr && decide (f ≤ s.host.numVf)

/-- A discarded doorbell: counted in DROPPED, RING raised (R117). -/
def discardDoorbell (c : Nat) (s : State) : State :=
  let x := s.ctx c
  let s := if x.state = .free then s else s.setCtx c { x with dropped := satInc x.dropped }
  if x.state = .free then attn 12 1 0 s else attnCtx 12 1 0 c s

/-- A write of SQ_TAIL of a context by a function (R117). -/
def writeSqTail (fn ctx value : Nat) (s : State) : State :=
  let x := s.ctx ctx
  let i := value % 65536
  if 1024 ≤ ctx then s
  else if x.fn ≠ fn ∨ x.state ≠ .opened ∨ 2 ^ x.ring.sqOrder ≤ i then discardDoorbell ctx s
  else s.setCtx ctx { x with sqTail := i }

/-- A write of CQ_HEAD of a context by a function (R117). -/
def writeCqHead (fn ctx value : Nat) (s : State) : State :=
  let x := s.ctx ctx
  let i := value % 65536
  let n := 2 ^ x.ring.cqOrder
  if 1024 ≤ ctx then s
  else if x.fn ≠ fn ∨ x.state ≠ .opened ∨ n ≤ i then discardDoorbell ctx s
  else if x.unread < (i + n - x.cqHead) % n then halt ctx 1 0 s
  else s.setCtx ctx { x with cqHead := i }

def execSqTail (fn ctx value : Nat) (s : State) : Host.Outcome State Fault Refusal :=
  if s.barServed fn then next (writeSqTail fn ctx value s) else next s

def execCqHead (fn ctx value : Nat) (s : State) : Host.Outcome State Fault Refusal :=
  if s.barServed fn then next (writeCqHead fn ctx value s) else next s

/-- The anchored context whose ring set a function's registers are (R114). -/
def State.anchorOf (s : State) (f : Nat) : Option Nat :=
  if f = 0 then some 0 else if (s.fn f).granted then some (s.fn f).home else none

/-- A write of RING_CTRL of an anchored ring set (Table 4.11, Table 4.2). -/
def writeRingCtrl (c v : Nat) (s : State) : State :=
  let x := s.ctx c
  let on := bitAt v 16
  if x.enable then (if on then s else detach c s)
  else
    let r := { x.ring with sqOrder := bitsOf v 3 0, cqOrder := bitsOf v 7 4, vector := bitsOf v 13 8 }
    let s := s.setCtx c { x with ring := r }
    if !on ∨ x.state = .closing then s
    else if !ringOk x.fn r then s.setCtx c { x with ring := r, ringError := 1 }
    else openRings c r s

def execEnable (fn value : Nat) (s : State) : Host.Outcome State Fault Refusal :=
  match s.anchorOf fn with
  | none => next s
  | some c => if s.barServed fn then next (writeRingCtrl c value s) else next s

def execDroppedRead (fn : Nat) (s : State) : Host.Outcome State Fault Refusal :=
  match s.anchorOf fn with
  | none => next s
  | some c =>
    let x := s.ctx c
    if s.barServed fn then next ({ s with host := { s.host with readData := x.dropped } }.setCtx c { x with dropped := 0 })
    else next s

/-! ### Replies and interrupts as events (R112, R125, R131) -/

def execInterimReply (ctx : Nat) (seq : BitVec 32) (s : State) : Host.Outcome State Fault Refusal :=
  let x := s.ctx ctx
  match x.inFlight.find? fun t => decide (t.seq = seq) && !t.interim && !t.lost with
  | none => next s
  | some t =>
    let y := { x with inFlight := x.inFlight.map fun u => if u.uid = t.uid then { u with interim := true } else u }
    next (post ctx seq t.quiet 2 (t.opcode / 256) 0 [] (s.setCtx ctx y))

def execMsixInterrupt (ctx : Nat) (s : State) : Host.Outcome State Fault Refusal :=
  let x := s.ctx ctx
  let spaced := match x.irqLast with | none => true | some t => decide (4000 ≤ s.now - t)
  if x.irqPending && spaced then
    next (s.setCtx ctx { x with irqPending := false, irqCount := x.irqCount + 1, irqLast := some s.now })
  else next s

/-- A failed access to a ring or mirror halts the context; one that belongs to a command's data ends the
command with HOST_DMA (R112). -/
def execHostDmaFailure (ctx : Nat) (seq : Option (BitVec 32)) (s : State) : Host.Outcome State Fault Refusal :=
  match seq with
  | none => next (halt ctx 2 0 s)
  | some q =>
    match (s.ctx ctx).inFlight.find? fun t => decide (t.seq = q) && !t.lost with
    | none => next s
    | some t => nextSweep (finish t 4 1 0x0E [] s)

/-! ### The link and functions (R137 to R141) -/

/-- Moves every OPEN or HALTED context of a choice to DETACHED. -/
def detachAll (f : Ctx → Bool) (s : State) : State :=
  overList detach ((s.host.ctxs.filter fun (_, x) => f x).map (·.1)) s

/-- The link is gone: every context detached, HOST_RDY low, LINK raised (R139, Table 4.9). -/
def linkLost (perst : Bool) (s : State) : State :=
  let s := detachAll (fun _ => true) s
  attn 11 0 0 { s with host := { s.host with
    hostRdy := false, linkUp := false, linkSpeed := 0, linkWidth := 0, perst := perst } }

def execPciePerstNAssert (s : State) : Host.Outcome State Fault Refusal :=
  if s.host.perst then next s else next (linkLost true s)

def execPciePerstNRelease (s : State) : Host.Outcome State Fault Refusal :=
  next { s with host := { s.host with perst := false } }

def execLinkDown (s : State) : Host.Outcome State Fault Refusal :=
  if s.host.linkUp then next (linkLost s.host.perst s) else next s

def execFunctionLevelReset (fn : Nat) (s : State) : Host.Outcome State Fault Refusal :=
  let s := detachAll (fun x => decide (x.fn = fn)) s
  next (s.setFn fn { s.fn fn with inFlr := true, d3hot := false })

def execFlrComplete (fn : Nat) (s : State) : Host.Outcome State Fault Refusal :=
  next (s.setFn fn { s.fn fn with inFlr := false })

def execD3hot (fn : Nat) (s : State) : Host.Outcome State Fault Refusal :=
  let s := detachAll (fun x => decide (x.fn = fn)) s
  next (s.setFn fn { s.fn fn with d3hot := true })

def execSriovVfEnable (numVf : Nat) (s : State) : Host.Outcome State Fault Refusal :=
  next { s with host := { s.host with numVf := min 255 numVf } }

def execPcieLinkDegraded (speed width : Nat) (s : State) : Host.Outcome State Fault Refusal :=
  let h := s.host
  if h.linkUp ∧ 1 ≤ speed ∧ (speed < h.linkSpeed ∨ width < h.linkWidth) then
    next (attn 11 0 0 { s with host := { h with linkSpeed := speed, linkWidth := width } })
  else next s

/-- Step 12 of Table 3.3 is reached and the link is in L0 (R63, R141): HOST_RDY rises; at the first step 12 of a
start the module runs, in Depot, with early compute (R91, R517). [log 17 DESIGN CHOICE, 18 DEDUCED] -/
def execHostRdyRise (speed width : Nat) (s : State) : Host.Outcome State Fault Refusal :=
  let ready := s.sup.steps.getLsbD 7 && s.sup.steps.getLsbD 8 && s.sup.steps.getLsbD 11 && s.sup.hubOk
  if s.lines.lockdown ∨ s.host.perst ∨ s.sup.resetDue.isSome ∨ !ready ∨ speed = 0 ∨ 6 < speed
      ∨ (s.lines.run ≠ .startUp ∧ s.lines.run ≠ .running) then next s
  else
    let first := s.lines.run = .startUp ∨ !s.sup.steps.getLsbD 12
    let s := { s with host := { s.host with
      hostRdy := true, linkUp := true, linkSpeed := speed, linkWidth := width } }
    if first then
      -- the Management Processor and the Power Arbiter pass a trial start (R588)
      let s := overList (fun k s => let c := s.comp k
        if c.trial then s.setComp k { c with proven := true } else s) [1, 2] s
      next { s with
        lines := { s.lines with run := .running }
        sup := { s.sup with steps := s.sup.steps ||| 0x1000, early := !s.sup.full }
        pa := { s.pa with mode := .depot, modeW := modeBudget s.fuses.grade .depot } }
    else next s

end Sys2Proof.Machine
end

