-- ==== Sys2Proof/Machine/SupplyCmds.lean ====
section
/-!
DEFINITION. The meanings of the supply, line, start-up and reset events, and of ENTER_STANDBY, RESET_MODULE and
RESET_DIE (spec 02_module_interfaces.md, 03_power_and_startup.md).
-/

namespace Sys2Proof.Machine

/-! ### Core sites (R91, R96, Table 3.5) -/

def siteRow (p : Nat) : Nat := p / 12
def siteCol (p : Nat) : Nat := p % 12
/-- The rows and columns of the default reserve sites (R96). -/
def reserveLines : List Nat := [1, 4, 7, 10]
/-- [log 21 DEDUCED] -/
def isReserveSite (p : Nat) : Bool := reserveLines.contains (siteRow p) && reserveLines.contains (siteCol p)
/-- Distance in mesh hops. [log 21 DEDUCED] -/
def hops (a b : Nat) : Nat :=
  (siteRow a - siteRow b) + (siteRow b - siteRow a) + (siteCol a - siteCol b) + (siteCol b - siteCol a)

/-- A core site is fused off (R3). -/
def State.isFused (s : State) (n p : Nat) : Bool := s.fuses.fusedOff.contains (n, p)

/-- A passing site: it passed, and is neither fused off nor retired (R96). -/
def State.passing (s : State) (n p : Nat) : Bool :=
  !(s.die n).failed.contains p && !s.isFused n p && !s.isRetired 0 n p

/-- The first of a list with the fewest hops from `a`; a tie keeps the earlier one, so that lists in row-major
order give the lower row, then the lower column. [log 21 DEDUCED] -/
def nearest (a : Nat) : List Nat → Option Nat
  | [] => none
  | b :: bs => match nearest a bs with
    | none => some b
    | some c => if hops a b ≤ hops a c then some b else some c

/-- Replaces active sites that do not pass, in row-major order (R96): default reserve sites first, then other
passing sites not yet assigned. [log 21 DEDUCED] -/
def assignSites : List Nat → List Nat → List Nat → List Nat → List Nat
  | [], _, _, acc => acc
  | a :: rest, reserves, others, acc =>
    match nearest a reserves with
    | some r => assignSites rest (reserves.filter (· ≠ r)) others (acc ++ [r])
    | none => match nearest a others with
      | some r => assignSites rest reserves (others.filter (· ≠ r)) (acc ++ [r])
      | none => assignSites rest reserves others acc

/-- The early-passing sites a die offers (R91). -/
def State.earlySites (s : State) (n : Nat) : List Nat :=
  ((List.range 36).filter fun p => s.passing n p && !isReserveSite p).take 32

/-- Reserve mapping of die `n` and its state by Table 3.5. -/
def mapDie (n : Nat) (s : State) : State :=
  let d := s.die n
  let all := List.range 144
  let good := all.filter (s.passing n)
  let count := s.fuses.grade.cores
  let retiredCount := (all.filter fun p => !s.isFused n p && !s.passing n p).length
  if good.length < s.fuses.grade.leastSites then
    s.setDie n { d with out := some .fewSites, rails := .off, short := false, active := 0, reserve := 0,
                        retiredCount := retiredCount, order := [], spares := [] }
  else if good.length < count then
    s.setDie n { d with short := true, active := good.length, reserve := 0, retiredCount := retiredCount,
                        order := good, spares := [] }
  else
    let seats := (all.filter fun p => !isReserveSite p && !s.isFused n p).take count
    let keep := seats.filter (s.passing n)
    let fails := seats.filter fun p => !s.passing n p
    let reserves := good.filter isReserveSite
    let others := good.filter fun p => !isReserveSite p && !keep.contains p
    let order := all.filter fun p => (keep ++ assignSites fails reserves others []).contains p
    let spares := good.filter fun p => !order.contains p
    s.setDie n { d with short := false, active := order.length, reserve := spares.length,
                        retiredCount := retiredCount, order := order, spares := spares }

/-- Sites that fail BIST enter the retirement record (R97). -/
def failSites (n : Nat) (ps : List Nat) (s : State) : State :=
  overList (fun p s => if s.isRetired 0 n p then s else retire 0 n p s)
    (ps.filter fun p => p < 144 && !s.isFused n p && !s.isRetired 0 n p)
    (s.setDie n { s.die n with failed := ((s.die n).failed ++ ps).dedup })

/-! ### Supplies -/

/-- The supply figure of Table 16.1: 250 W while R89 caps, 0.85 of the mode budget after an input-sensor failure,
the lower of the two when both apply; 0xFFFF none. [log 19 DEDUCED] -/
def State.supplyFigure (s : State) : Nat :=
  let cap := if s.sup.vinLowExt || (s.sup.ibcA != s.sup.ibcB) then 250 else 0xFFFF
  let sensor := if s.sup.inputSensorFailed then modeBudget s.fuses.grade s.pa.mode * 85 / 100 else 0xFFFF
  min cap sensor

/-- Brings SUPPLY_W to its figure. [log 19 DEDUCED] -/
def refreshSupply (s : State) : State := { s with pa := { s.pa with supplyW := s.supplyFigure } }

/-- The cap of R89 begins: POWER is raised, Drive gives way to Limp. -/
def capBudget (detail : Nat) (s : State) : State :=
  let s := refreshSupply (attn 7 8 detail s)
  if s.pa.mode = .drive then limpEntry s else s

/-- The steps of Table 3.3 that depend on every die: 6 when all rails are good or out, 9 when every die in service
has passed BIST pass 1. -/
def dieSteps (s : State) : State :=
  let six := dieNums.all fun n => (s.die n).out.isSome || (s.die n).rails = .good
  let nine := dieNums.all fun n => (s.die n).out.isSome || (s.die n).bist1
  let st := s.sup.steps ||| (if six then 0x40 else 0) ||| (if nine then 0x200 else 0)
  { s with sup := { s.sup with steps := st } }

/-- A die is marked absent at a start: rails off, DIE_ABSENT (R621). -/
def markAbsent (why : DieOut) (n : Nat) (s : State) : State :=
  let d := s.die n
  if d.out.isSome then s
  else s.setDie n { d with out := some why, rails := if why = .lockout then .locked else .off, active := 0,
                           reserve := 0, early := 0, order := [], spares := [] }

/-- The compute path is powered off: rails off, die state forgotten but for the keep-alive records. -/
def railsOff (s : State) : State :=
  { s with sup := { s.sup with ibcA := false, ibcB := false, hubOk := false, hubAttempts := 0, steps := 0,
                               early := false, full := false, dies := [], engineMissing := 0,
                               vinLowExt := false, inputSensorFailed := false, laneFails := [] } }

/-- The hub rails have locked out, or both IBCs or both boot images failed: every compute-path rail off, the module
stays in Start-up until VIN is removed (R78, R79, Table 3.4). -/
def hubLock (images : Bool) (s : State) : State :=
  let s := railsOff s
  { s with sup := { s.sup with hubLocked := s.sup.hubLocked || !images,
                               mpImageFail := s.sup.mpImageFail || images, steps := 2 } }

/-- The bank that boots of a component (R94): the one named active, or the other when that one fails. Its state is
marked FAILED, BANK_FALLBACK set and BOOT raised; a trial that fails reverts the component (R588). [log 112 DEDUCED] -/
def bootBank (k : Nat) (r : Bool × Bool) (s : State) : State :=
  let c := s.comp k
  if r.1 then s.setComp k { c with proven := c.proven || (c.trial && decide (k = 0)), switch := .none, selected := [] }
  else
    let bad := fun (b : Bank) => { b with state := .failed }
    let c' := { c with
      bankA := if c.active = 0 ∨ !r.2 then bad c.bankA else c.bankA
      bankB := if c.active = 1 ∨ !r.2 then bad c.bankB else c.bankB }
    let c'' := if r.2 then { c' with active := 1 - c.active, trial := false, switch := .none, selected := [] } else c'
    let s := s.setComp k c''
    if r.2 then
      serviceLog { time := s.now, kind := 7, who := k }
        (attn 14 0x0B 0 { s with sup := { s.sup with bankFallback := true } })
    else s

/-- The trial start of a component fails: the next start boots the previous bank, BANK_FALLBACK is set and BOOT raised
(R588). -/
def trialFailed (k : Nat) (s : State) : State :=
  let c := s.comp k
  if c.trial && !c.proven && c.switch = .none then
    serviceLog { time := s.now, kind := 7, who := k }
      (attn 14 0x0B 0 { s.setComp k { c with active := 1 - c.active, trial := false } with
        sup := { s.sup with bankFallback := true } })
  else s

/-- Engine k of components 4 to 9 has no bank that verifies: its bit in ENGINE_MISSING, BOOT raised (R95). -/
def engineCheck (k : Nat) (r : Bool × Bool) (s : State) : State :=
  let s := bootBank k r s
  if r.1 || r.2 then s
  else
    let bit := if k = 4 then 5 else k - 5
    attn 14 0x0B 0 { s with sup := { s.sup with engineMissing := s.sup.engineMissing ||| BitVec.ofNat 6 (2 ^ bit) } }

/-- Applies the boot checks of components `k` on. -/
def engineChecks : Nat → List (Bool × Bool) → State → State
  | _, [], s => s
  | k, r :: rs, s => engineChecks (k + 1) rs (engineCheck k r s)

/-- Steps 7, 8, 10 and 11 of Table 3.3, once the hub rails are good: secure boot by Table 3.4, the timebase, T2 and
T3 (R93 to R95, R98). -/
def hubBoot (s : State) : State :=
  let b := s.sup.boot
  let s := { s with sup := { s.sup with hubOk := true, steps := s.sup.steps ||| 0x3E } }
  if !(b.mp.1 || b.mp.2) || !(b.pa.1 || b.pa.2) then hubLock true (bootBank 1 b.mp (bootBank 2 b.pa s))
  else
    let s := bootBank 3 b.tensor (bootBank 2 b.pa (bootBank 1 b.mp s))
    let s := engineChecks 4 b.engines s
    let s := overList (markAbsent .voltageTable) (b.badTables.filter (· < 4)) s
    let s := if s.sup.engineMissing.getLsbD 5 || !(b.tensor.1 || b.tensor.2)
      then overList (markAbsent .migrationEngine) dieNums s else s
    let s := { s with
      sup := { s.sup with mpBank := (s.comp 1).active, ksBank := (s.comp 0).active
                          steps := s.sup.steps ||| 0xD80 }
      safe := { s.safe with mpAlive := true }
      lines := { s.lines with trigLive := true } }
    dieSteps (timeStart (memCleared s))

/-- Phases of the retirement record are loaded at a start (Tables 3.9, 3.10): index k removed, 16 + k on
estimated current. [log 20 DEDUCED] -/
def State.recordPhases (s : State) (kind unit lo : Nat) : Nat :=
  ((List.range 16).filter fun k => s.isRetired kind unit (lo + k)).foldl (fun v k => v + 2 ^ k) 0

/-- Keystone restarts on its new bank: the module is in Standby and the switch waits (R588). -/
def State.keystoneRestarting (s : State) : Bool := s.lines.run = .standby && (s.comp 0).switch = .waiting

/-- A die's rails begin soft start, or are good already. -/
def startDie (good : List Nat) (n : Nat) (s : State) : State :=
  s.setDie n { Die.rest with
    rails := if good.contains n then .good else .softStart
    removed := BitVec.ofNat 16 (s.recordPhases 1 n 0)
    senseFail := BitVec.ofNat 16 (s.recordPhases 1 n 16) }

/-- [log 17 DESIGN CHOICE] -/
def execStartUp (boot : Boot) (railsGood : List Nat) (hubGood : Bool) (s : State) :
    Host.Outcome State Fault Refusal :=
  let l := s.lines
  if l.run ≠ .standby ∨ !l.kaInRange ∨ !l.wake ∨ l.lockdown ∨ l.keystoneStopped ∨ s.keystoneRestarting
      ∨ !s.safe.selfTestOk then next s
  else
    let s := { s with
      lines := { l with run := .startUp, vinGood := true, trigLive := false }
      sup := { s.sup with
        ibcA := true, ibcB := true, boot := boot, steps := 0x1E, hubOk := false, hubAttempts := 0
        vhubRemoved := BitVec.ofNat 8 (s.recordPhases 2 0 0), vhubSense := BitVec.ofNat 8 (s.recordPhases 2 0 16)
        resetCause := (s.sup.resetCause &&& 0x0F0) ||| s.sup.nextCause, nextCause := 0, outNow := [] } }
    let s := overList (startDie railsGood) dieNums s
    let s := overList (markAbsent .retired) (dieNums.filter fun n => s.isRetired 8 n 0) s
    next (dieSteps (if hubGood then hubBoot s else s))

/-- [log 17 DESIGN CHOICE] -/
def execBistPass1Complete (die : Nat) (failing : List Nat) (s : State) : Host.Outcome State Fault Refusal :=
  let d := s.die die
  if 4 ≤ die ∨ d.out.isSome ∨ d.bist1 ∨ d.rails ≠ .good ∨ d.parked ∨ d.resetting
      ∨ (s.lines.run ≠ .startUp ∧ s.lines.run ≠ .running) then next s
  else
    let s := failSites die failing s
    let s := s.setDie die { s.die die with bist1 := true, early := (s.earlySites die).length
                                           active := (s.earlySites die).length, order := s.earlySites die }
    next (dieSteps s)

/-- FULL_COMPUTE of one die (steps 13 and 14): HBM trained, BIST pass 2, roles. -/
def completeDie (failing : List (Nat × Nat)) (n : Nat) (s : State) : State :=
  if (s.die n).out.isSome ∨ !(s.die n).bist1 then s
  else
    let s := failSites n ((failing.filter fun x => decide (x.1 = n)).map (·.2)) s
    mapDie n s

/-- [log 17 DESIGN CHOICE] -/
def execFullCompute (failing : List (Nat × Nat)) (s : State) : Host.Outcome State Fault Refusal :=
  if s.lines.run ≠ .running ∨ s.sup.full ∨ s.sup.steps &&& 0x1FFE ≠ 0x1FFE then next s
  else
    let s := overList (completeDie failing) dieNums s
    next (attn 0 0 0 { s with sup := { s.sup with full := true, early := false
                                                  steps := s.sup.steps ||| 0xE000 } })

def execRailSoftStartTimeout (rail : RailId) (s : State) : Host.Outcome State Fault Refusal :=
  match rail with
  | .hub =>
    if s.lines.run = .startUp ∧ !s.sup.hubOk ∧ s.sup.hubAttempts < 4 then
      next { s with sup := { s.sup with hubAttempts := s.sup.hubAttempts + 1 } }
    else next s
  | .die n =>
    let d := s.die n
    if n < 4 ∧ d.rails = .softStart ∧ d.attempts < 4 then next (s.setDie n { d with attempts := d.attempts + 1 })
    else next s

/-- Retry of a rail, 100 ms after its attempt began; a fourth failed attempt locks it out (R76 to R78). -/
def execRailRetry (rail : RailId) (good : Bool) (s : State) : Host.Outcome State Fault Refusal :=
  match rail with
  | .hub =>
    if s.lines.run ≠ .startUp ∨ s.sup.hubOk ∨ s.sup.hubAttempts = 0 then next s
    else if 4 ≤ s.sup.hubAttempts then next (hubLock false s)
    else if good then next (hubBoot s) else next s
  | .die n =>
    let d := s.die n
    if 4 ≤ n ∨ d.rails ≠ .softStart ∨ d.attempts = 0 then next s
    else if 4 ≤ d.attempts then
      if d.resetting then next (s.setDie n { d with rails := .locked, out := some .lockout })
      else next (dieSteps (markAbsent .lockout n s))
    else if good then next (dieSteps (s.setDie n { d with rails := .good })) else next s

/-! ### Loss of the supplies (R69, R87, Table 3.2, Table 3.6) -/

/-- What a VIN cycle clears: everything of the compute path. Keystone, SIGNAL_FAULT, the keep-alive bits of
START_STATUS and RESET_CAUSE stay; the safe state ends (R552). -/
def computePathOff (causeBits : BitVec 10) (s : State) : State :=
  let s := railsOff s
  let s := { s with
    host := { HostIf.atReset with readData := s.host.readData }
    ex := {}
    pa := { coeffA := s.pa.coeffA, coeffB := s.pa.coeffB, activeBank := s.pa.activeBank }
    safe := { s.safe with armed := false, outValid := false, safeState := false, powerCycle := false,
                          mpAlive := false, paEpochs := 0, partitionOk := false, translationOk := false,
                          c3 := [], copy := [], lockedCrc := [], cause := {} }
    lines := { s.lines with run := .standby, safeCmd := false, trigLive := false, ppsSeen := false,
                            vinGood := false }
    sup := { s.sup with nextCause := s.sup.nextCause ||| causeBits, enteringStandby := false, resetDue := none } }
  chaptersReset s

/-- The input switch opens (R87): die rails off, safety outputs invalid with a notice if they were valid, the
power-loss record, then Standby; Off where KA is gone too. -/
def vinLost (s : State) : State :=
  let s := if s.safe.outValid then sendNotice s else s
  let s := serviceLog { time := s.now, kind := 0x0B }
    { s with sup := { s.sup with powerLossRecords := s.sup.powerLossRecords + 1 } }
  let s := computePathOff 0x102 s
  if s.sup.kaCycled && s.lines.lockdown then { s with lines := { s.lines with run := .off } } else s

def execVinLoss (s : State) : Host.Outcome State Fault Refusal :=
  if s.lines.run = .startUp ∨ s.lines.run = .running then next (vinLost s)
  else next { s with lines := { s.lines with vinGood := false } }

/-- The hub supervisor's lock-down (R69). -/
def lockDown (s : State) : State :=
  let s := { s with
    lines := { s.lines with lockdown := true, safeCmd := false, trigLive := false }
    safe := { s.safe with outValid := false }
    host := { s.host with hostRdy := false } }
  overList (fun j s => s.setJob j { s.job j with inFlight := [] }) s.jobNums (dropPours (fun _ => true) s)

/-- KA is lost. With VIN still good the supervisor locks the module down; in Standby the module is Off. -/
def execKaLoss (s : State) : Host.Outcome State Fault Refusal :=
  let s := { s with sup := { s.sup with kaCycled := true }
                    lines := { s.lines with kaInRange := false, safeCmd := false }
                    safe := { s.safe with outValid := false } }
  if s.lines.run = .startUp ∨ s.lines.run = .running then next (lockDown s)
  else next { s with lines := { s.lines with run := .off } }

def execKeystoneLost (s : State) : Host.Outcome State Fault Refusal :=
  if s.lines.run = .startUp ∨ s.lines.run = .running then next (lockDown s)
  else next { s with lines := { s.lines with safeCmd := false, lockdown := true } }

/-- Both halves stop and drive the outputs invalid (R547). -/
def execKeystoneHalfMismatch (s : State) : Host.Outcome State Fault Refusal :=
  next { s with lines := { s.lines with keystoneStopped := true, safeCmd := false }
                safe := { s.safe with outValid := false, selfTestOk := false } }

def execKaDip (s : State) : Host.Outcome State Fault Refusal :=
  if s.lines.run = .off then next s else next (setFault 7 s)

def execKaOutOfRange (inBand : Bool) (s : State) : Host.Outcome State Fault Refusal :=
  if s.lines.run = .off then next s else next { s with lines := { s.lines with kaInRange := !inBand } }

/-- A cold start (Table 3.6): Keystone boots by R94, the straps are sampled, SIGNAL_FAULT and Keystone's own state
are cleared; logs, the retirement record and the bank records stay. -/
def execColdStart (straps : Nat) (ksOk ksOtherOk : Bool) (rtc : Option Nat) (s : State) : Host.Outcome State Fault Refusal :=
  if s.lines.run ≠ .off then next s
  else
    let s := { s with
      lines := { run := .standby, mgmtAddr := straps % 4 }
      fuses := { s.fuses with addrStraps := straps % 4 }
      tb := { cold := true, rtc := rtc, rtcErr := s.tb.rtcErr, rtcSetAt := s.tb.rtcSetAt }
      safe := { sources := ErrSource.defaults, log := s.safe.log, selfTestOk := ksOk || ksOtherOk }
      sup := { s.sup with nextCause := 1, resetCause := 0, bankFallback := false, hubLocked := false
                          mpImageFail := false, kaCycled := false } }
    next (bootBank 0 (ksOk, ksOtherOk) s)

def execWakeAccepted (s : State) : Host.Outcome State Fault Refusal :=
  if s.lines.run = .off then next s else next { s with lines := { s.lines with wake := true } }

def execWakeFall (s : State) : Host.Outcome State Fault Refusal :=
  let s' := { s with lines := { s.lines with wake := false } }
  if s.lines.run = .startUp ∨ s.lines.run = .running then next (setFault 4 s') else next s'

def execVinExtendedRange (s : State) : Host.Outcome State Fault Refusal :=
  if s.lines.run = .startUp ∨ s.lines.run = .running then next (setFault 6 s) else next s

def execVinLowExt (s : State) : Host.Outcome State Fault Refusal :=
  if s.sup.vinLowExt ∨ (s.lines.run ≠ .startUp ∧ s.lines.run ≠ .running) then next s
  else next (capBudget 0x45 { s with sup := { s.sup with vinLowExt := true } })

def execVinCapLift (s : State) : Host.Outcome State Fault Refusal :=
  if s.sup.ibcA ∧ s.sup.ibcB then next (refreshSupply { s with sup := { s.sup with vinLowExt := false } }) else next s

/-- An IBC stops regulating, or does not start to (R79, R89). [log 19 DEDUCED] -/
def ibcOut (ibc : Nat) (s : State) : State :=
  if ibc = 0 then { s with sup := { s.sup with ibcA := false } } else { s with sup := { s.sup with ibcB := false } }

/-- An IBC regulates. -/
def State.ibcUp (s : State) (ibc : Nat) : Bool := if ibc = 0 then s.sup.ibcA else s.sup.ibcB

def execIbcRegulationTimeout (ibc : Nat) (s : State) : Host.Outcome State Fault Refusal :=
  if s.lines.run ≠ .startUp ∨ !s.ibcUp ibc then next s
  else
    let s := ibcOut ibc s
    if s.sup.ibcA || s.sup.ibcB then next (capBudget 0x43 s) else next (hubLock false s)

def execIbcRegulationLoss (ibc : Nat) (s : State) : Host.Outcome State Fault Refusal :=
  if (s.lines.run ≠ .startUp ∧ s.lines.run ≠ .running) ∨ !s.ibcUp ibc then next s
  else
    let s := ibcOut ibc s
    if s.sup.ibcA || s.sup.ibcB then next (capBudget 0x43 s) else next (vinLost s)

/-! ### Phases and rails under load (R80 to R86) -/

/-- Phases of VCORE_CDn in service. -/
def Die.phases (d : Die) : Nat := ((List.range 16).filter fun k => !d.removed.getLsbD k).length

/-- A hub rail is lost: Keystone enters the safe state until VIN is removed (R85). -/
def hubRailLost (s : State) : State :=
  safeCause 9 0x2F none none true { s with sup := { s.sup with hubOk := false } }

/-- Removes a VCORE phase: its bit, the retirement record, a lasting fault; fewer than 8 phases lose the die
(R80, R84). [log 20 DEDUCED] -/
def removePhase (n k : Nat) (s : State) : State :=
  let d := s.die n
  let s := lastingFault 8 0 n k (retire 1 n k
    (s.setDie n { d with removed := d.removed ||| BitVec.ofNat 16 (2 ^ k) }))
  if (s.die n).phases < 8 then dieLost n .phases s else s

/-- Removes a VHUB phase; fewer than 6 lose the hub rail (R86). -/
def removeHubPhase (k : Nat) (s : State) : State :=
  let r := s.sup.vhubRemoved ||| BitVec.ofNat 8 (2 ^ k)
  let s := lastingFault 8 0 4 k (retire 2 0 k { s with sup := { s.sup with vhubRemoved := r } })
  if ((List.range 8).filter fun k => !r.getLsbD k).length < 6 then hubRailLost s else s

/-- The phase of a die, or of VHUB as die 4, opens (R80, R86). -/
def execOpenPhase (die phase : Nat) (s : State) : Host.Outcome State Fault Refusal :=
  if die = 4 then
    if 8 ≤ phase ∨ !s.sup.hubOk ∨ s.sup.vhubRemoved.getLsbD phase then next s else next (removeHubPhase phase s)
  else
    let d := s.die die
    if 4 ≤ die ∨ 16 ≤ phase ∨ d.rails ≠ .good ∨ d.removed.getLsbD phase then next s
    else next (removePhase die phase s)

/-- Localisation ends: it declares a phase sense-failed, or the input sensor (R82, R83, R86). [log 20 DEDUCED] -/
def execSenseLocalisation (die : Nat) (phase : Option Nat) (s : State) : Host.Outcome State Fault Refusal :=
  match phase with
  | none =>
    next (refreshSupply (lastingFault 8 0 0xFF 0 { s with sup := { s.sup with inputSensorFailed := true } }))
  | some k =>
    if die = 4 then
      if 8 ≤ k ∨ !s.sup.hubOk ∨ s.sup.vhubRemoved.getLsbD k ∨ s.sup.vhubSense.getLsbD k then next s
      else next (lastingFault 8 0 4 k (retire 2 0 (16 + k)
        { s with sup := { s.sup with vhubSense := s.sup.vhubSense ||| BitVec.ofNat 8 (2 ^ k) } }))
    else
      let d := s.die die
      if 4 ≤ die ∨ 16 ≤ k ∨ d.rails ≠ .good ∨ d.removed.getLsbD k ∨ d.senseFail.getLsbD k then next s
      else
        let others := (List.range 16).filter fun j => d.senseFail.getLsbD j && !d.removed.getLsbD j
        let s := lastingFault 8 0 die k (retire 1 die (16 + k)
          (s.setDie die { d with senseFail := d.senseFail ||| BitVec.ofNat 16 (2 ^ k) }))
        match others with
        | [] => next s
        | j :: _ => next (removePhase die k (removePhase die j s))

def execRailUndervoltage (rail : RailId) (s : State) : Host.Outcome State Fault Refusal :=
  match rail with
  | .hub => if s.sup.hubOk then next (hubRailLost s) else next s
  | .die n => if n < 4 ∧ (s.die n).rails = .good then next (dieLost n .undervoltage s) else next s

/-- A viaduct link's lane fails and a spare takes over; the fifth failure halves the link (R20, R574). -/
def execViaductLaneFailure (link lane : Nat) (s : State) : Host.Outcome State Fault Refusal :=
  if 8 ≤ link ∨ s.isRetired 3 link lane then next s
  else
    let k := Tab.get 0 s.sup.laneFails link + 1
    let s := retire 3 link lane { s with sup := { s.sup with laneFails := Tab.set 0 s.sup.laneFails link k } }
    if k = 5 then next (lastingFault 0 0 link lane (attn 11 0 0 s)) else next (attn 11 0 0 s)

/-! ### Standby, module reset, die reset (R99 to R102) -/

def execEnterStandby (p : Packet) (s : State) : Host.Outcome State Fault Refusal :=
  command 0x0840 0 true p s fun s _ =>
    if s.pa.mode = .park ∨ s.pa.mode = .depot then ok { s with sup := { s.sup with enteringStandby := true } }
    else .reject 8 0x40

def execStandbyReached (s : State) : Host.Outcome State Fault Refusal :=
  if !s.sup.enteringStandby then next s
  else next (computePathOff 0x202
    { s with sup := { s.sup with powerLossRecords := s.sup.powerLossRecords + 1 } })

/-- Drive, Limp or Robot: the safe state comes before the reset (R101). [log 22 DEDUCED] -/
def safeBeforeReset (detail : Nat) (s : State) : State :=
  if s.pa.mode = .drive ∨ s.pa.mode = .limp ∨ s.pa.mode = .robot then safeCause 9 detail none none false s else s

/-- [log 7 DEDUCED, 22 DEDUCED] -/
def execResetModule (p : Packet) (s : State) : Host.Outcome State Fault Refusal :=
  command 0x0841 1 true p s fun s _ =>
    if p.u8 12 ≠ 0xA5 then .reject 8 0
    else
      let s := safeBeforeReset 0x2D s
      ok { s with sup := { s.sup with resetDue := some true } }

def execMpHeartbeatMissed (s : State) : Host.Outcome State Fault Refusal :=
  if s.lines.run ≠ .running ∧ s.lines.run ≠ .startUp then next s
  else
    let starting := s.lines.run = .startUp
    let s := safeBeforeReset 0x29 { s with safe := { s.safe with mpAlive := false } }
    let s := if starting then trialFailed 2 (trialFailed 1 s) else s
    next { s with sup := { s.sup with resetDue := some false } }

def execPaHeartbeatMissed (s : State) : Host.Outcome State Fault Refusal :=
  if s.lines.run ≠ .running then next s
  else next (safeCause 9 0x29 none none false { s with safe := { s.safe with paEpochs := 0 } })

/-- A die at a module reset: rails stay up; a parked die is brought up as by RESET_DIE (R37, Table 3.6). -/
def resetDieState (n : Nat) (s : State) : State :=
  let d := s.die n
  let d' : Die := { Die.rest with rails := d.rails, out := d.out, removed := d.removed, senseFail := d.senseFail
                                  failed := [] }
  if d.parked ∨ d.parking ∧ d.rails = .off then s.setDie n { d' with rails := .good, out := none } else s.setDie n d'

/-- A module reset (Table 3.6): hub die except Keystone, all compute dies, every context, flask and queue, T0 to T2.
The safe state ends unless POWER_CYCLE holds it (R552). Start-up goes on from step 7. -/
def execModuleResetBegin (boot : Boot) (s : State) : Host.Outcome State Fault Refusal :=
  match s.sup.resetDue with
  | none => next s
  | some byCommand =>
    let ends := s.safe.safeState && !s.safe.powerCycle
    let s := { s with
      host := { HostIf.atReset with readData := s.host.readData, numVf := 0 }
      ex := {}
      pa := { coeffA := s.pa.coeffA, coeffB := s.pa.coeffB, activeBank := s.pa.activeBank
              supplyW := s.pa.supplyW }
      safe := { s.safe with
        safeState := s.safe.safeState && s.safe.powerCycle
        armed := s.safe.armed && !ends && s.safe.safeState
        outValid := false, mpAlive := false, paEpochs := 0, partitionOk := false, translationOk := false
        c3 := [], copy := [], lockedCrc := [], cause := if ends then {} else s.safe.cause }
      lines := { s.lines with run := .startUp, safeCmd := false, ppsSeen := false }
      sup := { s.sup with
        steps := 0x7E, early := false, full := false, engineMissing := 0, resetDue := none, boot := boot
        enteringStandby := false, nextCause := 0, outNow := []
        resetCause := (s.sup.resetCause &&& 0x0F0) ||| (if byCommand then 4 else 8) } }
    let s := overList resetDieState dieNums s
    let s := overList (markAbsent .retired) (dieNums.filter fun n => s.isRetired 8 n 0) s
    next (dieSteps (hubBoot (chaptersReset s)))

/-- A die holds no job, and no frame of its stack is in use (R102). -/
def State.dieIdle (s : State) (n : Nat) : Bool := s.dieEmpty n && memStackEmpty n s

def execResetDie (p : Packet) (s : State) : Host.Outcome State Fault Refusal :=
  command 0x0842 1 true p s fun s t =>
    let n := p.u8 12
    let d := s.die n
    if 4 ≤ n then reserved
    else if d.resetting then .reject 8 0x47
    else if d.parked ∨ d.parking then .reject 8 0x41
    else if d.out = some .thermal ∧ 95 ≤ (s.diePower n).hottest then .reject 8 0x46
    else if d.out.isNone ∧ !s.dieIdle n then .reject 8 0x41
    else
      let s := memStackCleared n s
      .later (s.setDie n { d with resetting := true, resetTicket := some t, rails := .softStart, attempts := 0
                                  bist1 := false, failed := []
                                  out := none, short := false, active := 0, reserve := 0, early := 0
                                  order := [], spares := [] })

/-- A die reset ends (R102): in service, short or absent; DIE_CHANGE is raised. -/
def execDieResetComplete (die : Nat) (test : DieTest) (s : State) : Host.Outcome State Fault Refusal :=
  let d := s.die die
  if 4 ≤ die ∨ !d.resetting then next s
  else
    let bit : BitVec 10 := if d.resetTicket.isSome then BitVec.ofNat 10 (2 ^ (4 + die)) else 0
    let s := { s with sup := { s.sup with
      resetCause := s.sup.resetCause ||| bit
      outNow := s.sup.outNow.filter fun r => !decide (r.unit = die ∧ (r.kind = 0 ∨ r.kind = 1 ∨ r.kind = 8)) } }
    let d0 := { d with resetting := false, resetTicket := none, attempts := 0
                       removed := BitVec.ofNat 16 (s.recordPhases 1 die 0), senseFail := BitVec.ofNat 16 (s.recordPhases 1 die 16) }
    let s :=
      if test.railsLock ∨ d.rails = .locked then s.setDie die { d0 with rails := .locked, out := some .lockout }
      else if s.isRetired 8 die 0 then s.setDie die { d0 with rails := .off, out := some .retired }
      else if test.badTable then s.setDie die { d0 with rails := .off, out := some .voltageTable }
      else
        let s := s.setDie die { d0 with rails := .good, out := none, bist1 := true }
        mapDie die (failSites die test.failing s)
    let s := memReturnHomes die (attn 4 8 0 s)
    let e := s.die die
    match d.resetTicket with
    | none => nextSweep s
    | some t =>
      if e.rails = .locked then nextSweep (finish t 4 8 0x44 [] s)
      else if e.out.isSome then nextSweep (finish t 4 8 0x49 [] s)
      else if e.short then nextSweep (finish t 1 8 0x48 [] s)
      else nextSweep (finishOk t s)

/-! ### Safety lines (R55, R57, R58) -/

def execTripInputAssert (line : Nat) (s : State) : Host.Outcome State Fault Refusal :=
  if s.lines.run = .off ∨ 2 ≤ line then next s
  else
    let l := if line = 0 then { s.lines with tripA := true } else { s.lines with tripB := true }
    let s := setFault (2 + line) { s with lines := l }
    next (if s.lines.run = .standby then s else tripBy line s)

def execTripInputDeassert (line : Nat) (s : State) : Host.Outcome State Fault Refusal :=
  if s.lines.run = .off ∨ 2 ≤ line then next s
  else if line = 0 then next { s with lines := { s.lines with tripA := false } }
  else next { s with lines := { s.lines with tripB := false } }

/-- Readback of a safety output disagrees with its command (R55). Invalid while commanded valid: both go invalid, a lasting
fault, and the cause SAFE_OUT_READBACK. Valid while commanded invalid: the notice is sent. -/
def readbackError (line : Nat) (s : State) : State :=
  let s := setFault line s
  if s.lines.safeCmd then
    safeCause 9 0x30 none none false (lastingFault 9 0x30 0 line
      { s with lines := { s.lines with safeCmd := false }, safe := { s.safe with outValid := false } })
  else sendNotice s

/-- A safety output disagrees with its command for more than 10 µs (R55). -/
def execSafeOutReadbackError (line : Nat) (s : State) : Host.Outcome State Fault Refusal :=
  if 2 ≤ line ∨ s.lines.run = .off then next s
  else
    let l := if line = 0 then { s.lines with safeAWrong := true } else { s.lines with safeBWrong := true }
    next (readbackError line { s with lines := l })

/-! ### Register accesses of these chapters -/

/-- Register accesses of the physical function are served: the link is up and no Function Level Reset runs. -/
def State.pfServed (s : State) : Bool := s.barServed 0

/-- A W1C write of SIGNAL_FAULT (R67, Table 2.9). -/
def clearSignalFault (value : Word) (s : State) : State :=
  { s with lines := { s.lines with fault := s.lines.fault &&& ~~~(value.setWidth 8) } }
/-- A W1C write of ATTN_CAUSE; the mirror bits are not held there (R143, Table 4.12). -/
def clearAttnCause (value : Word) (s : State) : State :=
  { s with host := { s.host with cause := s.host.cause &&& ~~~(value.setWidth 16) } }
/-- A W1C write of START_STATUS (R107, Table 3.11). -/
def clearStartStatus (value : Word) (s : State) : State :=
  { s with sup := { s.sup with
      bankFallback := s.sup.bankFallback && !value.getLsbD 6
      hubLocked := s.sup.hubLocked && !value.getLsbD 7
      mpImageFail := s.sup.mpImageFail && !value.getLsbD 8 } }

def execSignalFaultClear (value : Word) (s : State) : Host.Outcome State Fault Refusal :=
  if s.pfServed then next (clearSignalFault value s) else next s

def execAttnCauseClear (value : Word) (s : State) : Host.Outcome State Fault Refusal :=
  if s.pfServed then next (clearAttnCause value s) else next s

def execStartStatusClear (value : Word) (s : State) : Host.Outcome State Fault Refusal :=
  if s.pfServed then next (clearStartStatus value s) else next s

def execResetCauseRead (s : State) : Host.Outcome State Fault Refusal :=
  if s.pfServed then
    next { s with host := { s.host with readData := s.sup.resetCause.toNat }, sup := { s.sup with resetCause := 0 } }
  else next s

/-! ### The management sideband (R65) -/

/-- The sideband answers: the keep-alive domain runs, and Keystone does not restart. -/
def State.sidebandLive (s : State) : Bool :=
  s.lines.run ≠ .off && !s.keystoneRestarting

/-- The word that a command byte selects (Table 2.7). -/
def State.sidebandWord (s : State) (cmd : Nat) : Nat :=
  if cmd = 0 then s.moduleId else if cmd = 1 then s.signalStatus else if cmd = 2 then s.signalFault else 0

def execSmbusBlockRead (command : Nat) (s : State) : Host.Outcome State Fault Refusal :=
  if s.sidebandLive then
    next { s with lines := { s.lines with
      sideband := s.lines.sideband ++ [(command, BitVec.ofNat 32 (s.sidebandWord command))] } }
  else next s

/-- Only the command byte of a write is acknowledged: nothing is written. -/
def execSmbusWrite (_command : Nat) (_data : List Byte) (s : State) : Host.Outcome State Fault Refusal := next s

def execAlertResponse (s : State) : Host.Outcome State Fault Refusal :=
  if s.sidebandLive ∧ s.lines.alert then
    next { s with lines := { s.lines with
      alert := false, alertReplies := s.lines.alertReplies ++ [0x58 + s.lines.mgmtAddr] } }
  else next s

end Sys2Proof.Machine
end

