-- ==== Sys2Proof/Machine/FlaskCmds.lean ====
section
/-!
DEFINITION. The meanings of the commands on flasks, tenants, configuration series and synchronisation objects
(spec 05_execution_model.md, Table 5.20).
-/

namespace Sys2Proof.Machine

/-! ### Who may name what (R190) -/

/-- A flask number of a command. [log 35 DEDUCED] -/
def flaskOk (f : Nat) : Bool := decide (f < 16)

/-- The sending context is a tenant of the flask (R190). -/
def State.isTenant (s : State) (t : Ticket) (f : Nat) : Bool := decide (t.ctx ∈ (s.flask f).tenants)

/-- The module is in the safe state: the commands of R550 are refused. -/
def safeRefusal : Answer := .reject 9 5

/-! ### Series -/

/-- A flask is an uncommitted member of a series in progress or stopped (R180). -/
def State.inSeries (s : State) (f : Nat) : Bool := s.ex.series.any fun r => (r.members.drop r.done).contains f

/-- A flask is a member of a series in progress or stopped. -/
def State.anySeries (s : State) (f : Nat) : Bool := s.ex.series.any fun r => r.members.contains f

/-- A firmware series of components 3 to 9 is in progress or stopped (R587). -/
def State.bankSeries (s : State) : Bool :=
  s.ex.series.any fun r => match r.kind with | .bank _ => true | _ => false

/-- One generation above the last issued; 0xFFFF_FFFF is followed by 1 (R177). -/
def nextGen (g : Nat) : Nat := if g = counterMax then 1 else g + 1

/-- The flasks whose results a flask's images consume (R182). -/
def State.importsOf (s : State) (f : Nat) : List Nat := (s.jobsOf f).flatMap fun j => (s.job j).image.imports

/-- R182: no C3 flask stands before one of its imports. -/
def State.orderOk (s : State) : List Nat → Bool
  | [] => true
  | f :: rest => !((s.flask f).cls = 3 && rest.any fun g => (s.importsOf f).contains g) && s.orderOk rest

/-- Issues a series: one generation, its members in order (R177). [log 36 DEDUCED] -/
def issueSeries (kind : SeriesKind) (members : List Nat) (timeout : Nat) (t : Ticket) (s : State) : State :=
  let g := nextGen s.ex.lastGen
  { s with ex := { s.ex with
    lastGen := g
    issued := (g, members) :: s.ex.issued
    series := { kind := kind, generation := g, members := members, timeoutMs := timeout, since := s.now,
                ticket := some t } :: s.ex.series } }

/-- A timeout in ms: 0 means 100 (R179, Table 19.2). -/
def timeoutOf (v : Nat) : Nat := if v = 0 then 100 else v

/-- Continues a stopped series of the kind whose uncommitted members are those listed (R179). -/
def resumeSeries (kind : SeriesKind) (members : List Nat) (timeout : Nat) (t : Ticket) (s : State) : Option State :=
  if s.ex.series.any fun r => r.stopped && decide (r.kind = kind ∧ r.members.drop r.done = members) then
    some { s with ex := { s.ex with series := s.ex.series.map fun r =>
      if r.stopped ∧ r.kind = kind ∧ r.members.drop r.done = members then
        { r with stopped := false, since := s.now, timeoutMs := timeout, ticket := some t } else r } }
  else none

/-! ### Flasks -/

/-- Compute dies in service and not short (R25). -/
def State.c3Dies (s : State) : Nat := (dieNums.filter fun n => (s.die n).inService && !(s.die n).short).length

/-- [log 35 DEDUCED] -/
def execCreateFlask (p : Packet) (s : State) : Host.Outcome State Fault Refusal :=
  command 0x0201 7 true p s fun s _ =>
    let f := p.u8 12
    let cls := p.u8 13
    let mode := p.u8 14
    let span := p.u16 16
    if 15 < f ∨ 3 < cls ∨ 2 < mode ∨ 1 < p.u8 18 ∨ (mode = 0 ∧ (span < 5 ∨ 1000 < span)) then reserved
    else if (s.flask f).state ≠ .empty then .reject 2 4
    else if !s.sup.full ∧ (mode = 0 ∨ cls ≠ 0) then .reject 8 0x42
    else if s.bankSeries then .reject 0x0B 4
    else if (cls = 3 ∧ (mode ≠ 0 ∨ s.c3Dies < 3)) ∨ (mode = 2 ∧ cls ≠ 0) then .reject 2 7
    else
      let m := if mode = 0 then RunMode.paced else if mode = 1 then .free else .tile
      ok (s.setFlask f { Flask.rest with
        state := .created, cls := cls, mode := m, spanUs := if mode = 0 then span else 0
        autoRestart := p.u8 18 = 1 })

/-- A flask's jobs are unloaded, its objects abandoned, its resources freed (Table 5.9, R171). -/
def removeFlask (f : Nat) (s : State) : State :=
  let x := s.flask f
  let s := overList (fun j => jobFaulted j 0) ((s.jobsOf f).filter fun j => (s.job j).live) s
  let s := overList (fun j s => jobUnloaded j
    ((finishOpt (s.job j).startTicket 4 2 0 [] s).setJob j Job.rest)) (s.jobsOf f) s
  let s := finishOpt x.stopTicket 4 2 4 [] s
  let s := x.resetTickets.foldl (fun s t => finish t 4 2 4 [] s) s
  let s := dropPours (fun r => decide (r.flask = f)) (abandonFlask f s)
  let gone := s.ex.reloads.filter fun r => decide (r.flask = f)
  let s := gone.foldl (fun s r => finish r.ticket 4 2 4 [] s)
    { s with ex := { s.ex with reloads := s.ex.reloads.filter fun r => decide (r.flask ≠ f) } }
  let s := memFlaskRemoved f ((s.setFlaskPower f FlaskPower.rest).setC3 f C3.rest)
  { s.setFlask f Flask.rest with safe := { s.safe with
    copy := Tab.del s.safe.copy f, lockedCrc := Tab.del s.safe.lockedCrc f } }

def execRemoveFlask (p : Packet) (s : State) : Host.Outcome State Fault Refusal :=
  commandThen sweepClosing 0x0202 2 true p s fun s _ =>
    let f := p.u8 12
    if 15 < f ∨ 1 < p.u8 13 then reserved
    else if (s.flask f).state = .empty then .reject 2 4
    else if p.u8 13 = 0 ∧ (s.jobsOf f).any fun j => (s.job j).live then .reject 2 5
    else ok (removeFlask f s)

/-- Queues of an engine (Table 5.1). -/
def queueCount : Nat → Nat
  | 1 => 64 | 2 => 64 | 3 => 16 | 4 => 16 | 5 => 16 | 6 => 8 | 7 => 8
  | _ => 0

/-- Another flask holds a core, or has it staged (R24). -/
def State.coreElsewhere (s : State) (f : Nat) (c : Nat × Nat) : Bool :=
  flaskNums.any fun g => g ≠ f && ((s.flask g).committed.cores.contains c || (s.flask g).shadow.cores.contains c)

/-- A job of the flask owns a core. -/
def State.coreOwned (s : State) (f : Nat) (c : Nat × Nat) : Bool := (s.jobsOf f).any fun j => (s.job j).cores.contains c

/-- Stages `n` active cores of die `d` (Table 5.22, kind 0). -/
def stageCores (f d n : Nat) (s : State) : Answer :=
  let x := s.flask f
  let mine := x.shadow.cores.filter fun c => decide (c.1 = d)
  let others := x.shadow.cores.filter fun c => !decide (c.1 = d)
  if mine.length ≤ n then
    let free := ((s.die d).order.filter fun k => !mine.contains (d, k) && !s.coreElsewhere f (d, k)).map fun k => (d, k)
    if free.length < n - mine.length then .reject 2 6
    else ok (s.setFlask f { x with staged := true, shadow := { x.shadow with
      cores := others ++ mine ++ free.take (n - mine.length) } })
  else
    let give := (sortBy mine fun a b => decide (b.2 ≤ a.2)).filter fun c => !s.coreOwned f c
    if give.length < mine.length - n then .reject 2 8
    else
      let gone := give.take (mine.length - n)
      ok (s.setFlask f { x with staged := true, shadow := { x.shadow with
        cores := others ++ mine.filter fun c => !gone.contains c } })

/-- Stages an engine queue (Table 5.22, kind 1). -/
def stageQueue (f e q : Nat) (take : Bool) (s : State) : Answer :=
  let x := s.flask f
  if take then
    if flaskNums.any fun g => g ≠ f && ((s.flask g).committed.queues.contains (e, q)
        || (s.flask g).shadow.queues.contains (e, q)) then .reject 2 6
    else if x.shadow.queues.contains (e, q) then ok s
    else ok (s.setFlask f { x with staged := true, shadow := { x.shadow with queues := x.shadow.queues ++ [(e, q)] } })
  else if x.shadow.queues.contains (e, q) then
    ok (s.setFlask f { x with staged := true, shadow := { x.shadow with
      queues := x.shadow.queues.filter fun c => !decide (c = (e, q)) } })
  else ok s

/-- The staged SHARE of a flask on a path (R173). -/
def Flask.share (x : Flask) (r : Nat) : Nat := Tab.get 0 x.shadow.bw r % 1024

/-- Stages a regulator (Table 5.22, kind 2). -/
def stageBw (f r w : Nat) (s : State) : Answer :=
  let x := s.flask f
  let sum := flaskNums.foldl (fun k g => if g = f then k else k + (s.flask g).share r) (w % 1024)
  if 1000 < sum then .reject 2 9
  else ok (s.setFlask f { x with staged := true, shadow := { x.shadow with bw := Tab.set 0 x.shadow.bw r w } })

/-- Stages a tier quota and pin quota (Table 5.22, kind 3; R346). -/
def stageQuota (f tier q pin : Nat) (s : State) : Answer :=
  let x := s.flask f
  if !quotaFits f tier q pin s then .reject 3 9
  else ok (s.setFlask f { x with staged := true, shadow := { x.shadow with
    quota := Tab.set (0, 0) x.shadow.quota tier (q, pin) } })

/-- [log 6 DEDUCED] -/
def execStageFlask (p : Packet) (s : State) : Host.Outcome State Fault Refusal :=
  command 0x0203 12 true p s fun s _ =>
    let f := p.u8 12
    let kind := p.u8 13
    let i := p.u8 14
    if 15 < f ∨ 3 < kind then reserved
    else if (s.flask f).state = .empty then .reject 2 4
    else if s.inSeries f then .reject 2 0x0A
    else if kind ≤ 1 ∧ s.bankSeries then .reject 0x0B 4
    else if kind = 0 then
      if 3 < i ∨ !p.zeros 18 6 ∨ (s.die i).active < p.u16 16 then reserved else stageCores f i (p.u16 16) s
    else if kind = 1 then
      if queueCount (p.u8 16) ≤ i ∨ 1 < p.u8 17 ∨ !p.zeros 18 6 then reserved
      else stageQueue f (p.u8 16) i (p.u8 17 = 1) s
    else if kind = 2 then
      if 13 < i ∨ 1000 < p.u16 16 ∨ 4095 < p.u16 18 ∨ !p.zeros 20 4 then reserved else stageBw f i (p.u32 16) s
    else
      if i = 0 ∨ 3 < i ∨ (i = 3 ∧ p.u32 20 ≠ 0) then reserved else stageQuota f i (p.u32 16) (p.u32 20) s

/-- A flask that COMMIT_CONFIG may name (Table 5.9). -/
def Flask.commits (x : Flask) : Bool :=
  x.state = .created || x.state = .loaded || x.state = .active || x.state = .stopped

def execCommitConfig (p : Packet) (s : State) : Host.Outcome State Fault Refusal :=
  command 0x0204 24 true p s fun s t =>
    let n := p.u8 12
    let members := (List.range n).map fun k => p.u8 (14 + k)
    let timeout := timeoutOf (p.u32 32)
    if n = 0 ∨ 16 < n ∨ 1 < p.u8 13 ∨ 10000 < timeout ∨ members.any (15 < ·) ∨ ¬ members.Nodup then reserved
    else if p.u8 13 = 1 then
      match resumeSeries .config members timeout t s with
      | none => .reject 2 0x0C
      | some s => .later s
    else if members.any fun f => !(s.flask f).commits then .reject 2 4
    else if members.any s.anySeries then .reject 2 0x0A
    else if !s.orderOk members then .reject 2 0x0D
    else .later (issueSeries .config members timeout t s)

def execAdmitTenant (p : Packet) (s : State) : Host.Outcome State Fault Refusal :=
  command 0x0205 4 true p s fun s _ =>
    let f := p.u8 12
    let c := p.u16 14
    let x := s.flask f
    if 15 < f ∨ 1024 ≤ c then reserved
    else if x.state = .empty then .reject 2 4
    else if (s.ctx c).state = .free ∨ (s.ctx c).state = .closing then .reject 1 8
    else if c ∈ x.tenants then ok s
    else if (s.flaskOfCtx c).isSome then .reject 2 6
    else if x.cls ≠ 0 ∧ x.tenants ≠ [] then .reject 2 7
    else if 64 ≤ x.tenants.length then .reject 1 0x0A
    else ok (s.setFlask f { x with tenants := x.tenants ++ [c] })

def execReleaseTenant (p : Packet) (s : State) : Host.Outcome State Fault Refusal :=
  command 0x0206 5 true p s fun s _ =>
    let f := p.u8 12
    let c := p.u16 14
    if 15 < f ∨ 1024 ≤ c ∨ 1 < p.u8 16 then reserved
    else if (s.flask f).state = .empty then .reject 2 4
    else if c ∉ (s.flask f).tenants then .reject 1 8
    else if p.u8 16 = 0 ∧ (s.jobsOfCtx c).any fun j => (s.job j).flask = f then .reject 1 9
    else
      let s := if p.u8 16 = 1 then endCtxJobs c (some f) s else s
      ok (s.setFlask f { s.flask f with tenants := (s.flask f).tenants.filter (· ≠ c) })

def execResetFlask (p : Packet) (s : State) : Host.Outcome State Fault Refusal :=
  command 0x0207 1 true p s fun s t =>
    let f := p.u8 12
    let x := s.flask f
    if 15 < f then reserved
    else if x.state ≠ .active ∧ x.state ≠ .loaded ∧ x.state ≠ .stopped then .reject 2 4
    else .later (flaskReset f (some t) s)

def execQueryFlask (p : Packet) (s : State) : Host.Outcome State Fault Refusal :=
  command 0x0208 2 false p s fun s t =>
    let f := p.u8 12
    if 15 < f ∨ 1 < p.u8 13 then reserved
    else if s.sender p ≠ 0 ∧ !s.isTenant t f then notPermitted
    else
      let h := if p.u8 13 = 1 then (s.flask f).shadow else (s.flask f).committed
      ok s ([0, 1, 2, 3].flatMap fun k => leBytes 4 (s.flaskWord f k h))

/-- The declared energy of a flask's jobs, in credits per epoch (R523). -/
def State.declared (s : State) (f : Nat) : Nat :=
  (s.jobsOf f).foldl (fun k j => k + (s.job j).image.energy.foldl (· + ·) 0) 0

/-- The sum of every paced reservation (R518, R523). -/
def State.reservations (s : State) : Nat := flaskNums.foldl (fun k f => k + (s.flaskPower f).reserved) 0

/-- Credits per epoch of a power in watts (R521). -/
def creditsOf (w : Nat) : Nat := w * 50

/-- The effective budget in watts as it stands (Table 16.1). -/
def State.effectiveW (s : State) : Nat :=
  min (modeBudget s.fuses.grade s.pa.mode)
    (min s.pa.swCeilW (min s.supplyFigure (min s.pa.coolantW s.pa.hubThermalW)))

/-- A flask class runs in a mode (Table 1.8, R626). -/
def classRuns (m : Mode) (cls : Nat) : Bool :=
  match m with
  | .drive | .robot => true
  | .depot => cls = 0
  | .limp => cls ≠ 0
  | .park | .none => false

/-- Slack cores that a C3 flask's images declare (R561). -/
def State.slackNeed (s : State) (f : Nat) : Nat := (s.jobsOf f).foldl (fun k j => max k (s.job j).image.slack) 0

/-- A flask starts: ACTIVE, its reservation taken, its slack cores taken (Table 5.9, R523, R561). -/
def startFlask (f : Nat) (s : State) : State :=
  let x := s.flask f
  let s := dropStretch f (s.setFlask f { x with state := .active, inPeriod := false, revoked := false, lastBoundary := none })
  let s := overList (fun j s => s.setJob j { s.job j with suspended := false, begun := false }) (s.jobsOf f) s
  let s := if x.mode = .paced then s.setFlaskPower f { s.flaskPower f with reserved := s.declared f } else s
  let y := s.c3 f
  let s := dispatchTiles f s
  if x.cls = 3 ∧ y.mode ≠ .none ∧ y.slackSites = [] ∧ (s.die y.dieC).inService then
    let sites := ((s.freeReserves y.dieC).take (s.slackNeed f)).map fun k => (y.dieC, k)
    s.setC3 f { y with mode := if sites = [] then .noSlack else .slack, slack := sites.length, slackSites := sites }
  else s

def execStartFlask (p : Packet) (s : State) : Host.Outcome State Fault Refusal :=
  command 0x0209 1 true p s fun s _ =>
    let f := p.u8 12
    let x := s.flask f
    let y := s.c3 f
    if 15 < f then reserved
    else if s.safe.safeState then safeRefusal
    else if x.state ≠ .loaded ∧ x.state ≠ .stopped then .reject 2 4
    else if !classRuns s.pa.mode x.cls then .reject 8 3
    else if x.cls = 3 ∧ (y.mode = .none
        ∨ (y.slackSites = [] ∧ (s.freeReserves y.dieC).length < s.slackNeed f)) then .reject 9 3
    else if x.mode = .paced ∧ creditsOf s.effectiveW
        < s.reservations + s.declared f + s.pa.platformCr + loopGrant s then .reject 8 4
    else ok (startFlask f s)

def execStopFlask (p : Packet) (s : State) : Host.Outcome State Fault Refusal :=
  command 0x020A 1 true p s fun s t =>
    let f := p.u8 12
    let x := s.flask f
    if 15 < f then reserved
    else if x.state ≠ .active ∨ x.stopTicket.isSome then .reject 2 4
    else .later (s.setFlask f { x with stopPending := true, stopTicket := some t })

/-! ### Synchronisation objects (R159 to R163, R191) -/

/-- A 16-bit value has reached a target (R159). -/
def reached (v target : Nat) : Bool := decide ((v + 65536 - target % 65536) % 65536 < 32768)

/-- An object satisfies a wait; `pulsed` tells whether a PULSE has satisfied it (Table 5.5, R162). -/
def Sync.satisfies (x : Sync) (target : Nat) (pulsed : Bool) : Bool :=
  x.abandoned || match x.kind with
    | .free => false
    | .counter => reached (x.value % 65536) target
    | .event => x.value % 2 = 1 || pulsed
    | .barrier => reached (x.value % 65536) target

/-- Marks the wait of every pour whose next entry waits on event `o` as satisfied by a PULSE (R160). -/
def pulse (o : Nat) (s : State) : State :=
  { s with ex := { s.ex with queues := s.ex.queues.map fun (k, q) => (k, { q with pours := q.pours.map fun r =>
    match r.entries[r.next]? with
    | some e => if e.waits.any fun w => decide (w.object = o) then { r with pulsed := o :: r.pulsed } else r
    | none => r }) } }

/-- An ACTION is defined for a kind (Table 5.6). -/
def actionOk (k : SyncKind) (action : Nat) : Bool :=
  match k with
  | .free => false
  | .counter | .barrier => action = 0
  | .event => decide (action ≤ 2)

/-- An AMOUNT is in its range (Table 5.4). -/
def amountOk (k : SyncKind) (amount : Nat) : Bool :=
  match k with
  | .free => false
  | .counter => decide (1 ≤ amount ∧ amount ≤ 65535)
  | .barrier => decide (1 ≤ amount ∧ amount ≤ 1024)
  | .event => true

/-- A signal takes effect on an object (Table 5.6); an abandoned object ignores it (R162). -/
def signalSync (o action amount : Nat) (s : State) : State :=
  let x := s.sync o
  if x.abandoned then s
  else match x.kind with
    | .free => s
    | .counter => s.setSync o { x with value := (x.value + amount) % 2 ^ 32 }
    | .event =>
      if action = 0 then s.setSync o { x with value := 1 }
      else if action = 1 then s.setSync o { x with value := 0 }
      else pulse o (s.setSync o { x with value := 0 })
    | .barrier =>
      let a := x.arrivals + amount
      s.setSync o { x with value := (x.value + a / max 1 x.parties) % 65536, arrivals := a % max 1 x.parties }

/-- The die in service with most cores of a flask, the lowest of equals: an object's home (R161). -/
def State.homeDie (s : State) (f : Nat) : Nat :=
  (dieNums.foldl (fun (b : Nat × Nat) n =>
    let k := ((s.flask f).committed.cores.filter fun c => decide (c.1 = n)).length
    if (s.die n).inService ∧ b.2 < k then (n, k) else b) (0, 0)).1

def execCreateSync (p : Packet) (s : State) : Host.Outcome State Fault Refusal :=
  command 0x0220 12 false p s fun s t =>
    let k := p.u8 12
    let f := p.u8 14
    let parties := p.u16 18
    let kind := if k = 1 then SyncKind.counter else if k = 2 then .event else .barrier
    if k = 0 ∨ 3 < k ∨ 15 < f then reserved
    else if (if k = 3 then parties = 0 ∨ 1024 < parties else parties ≠ 0) then reserved
    else if !s.isTenant t f then notPermitted
    else match lowest (fun o => (s.sync o).kind = .free) 16384 0 with
      | none => .reject 1 0x0A
      | some o =>
        let v := if k = 1 then p.u32 20 else if k = 2 then p.u32 20 % 2 else p.u16 20
        ok (s.setSync o { Sync.rest with
          kind := kind, value := v, parties := parties, holder := f, home := s.homeDie f, owner := t.ctx
          waiters := BitVec.ofNat 16 (p.u16 16) }) (leBytes 2 o)

/-- An entry names an object. -/
def Entry.names (e : Entry) (o : Nat) : Bool :=
  e.waits.any (fun w => decide (w.object = o)) || e.signals.any (fun w => decide (w.object = o))

/-- A loaded job names an object in a WAIT or SIGNAL (R191). -/
def State.syncNamed (s : State) (o : Nat) : Bool :=
  s.jobNums.any fun j => (s.job j).used && (s.job j).image.pours.any fun q => q.entries.any fun e => e.names o

def execDestroySync (p : Packet) (s : State) : Host.Outcome State Fault Refusal :=
  command 0x0221 2 false p s fun s t =>
    let o := p.u16 12
    let x := s.sync o
    if 16384 ≤ o then reserved
    else if x.kind = .free then .reject 2 0x1B
    else if x.owner ≠ t.ctx then notPermitted
    else if s.syncNamed o then .reject 2 0x10
    else ok (s.setSync o Sync.rest)

def execSignalSync (p : Packet) (s : State) : Host.Outcome State Fault Refusal :=
  command 0x0222 8 false p s fun s t =>
    let o := p.u16 12
    let a := p.u8 14
    let v := p.u32 16
    let x := s.sync o
    if 16384 ≤ o ∨ 3 < a then reserved
    else if x.kind = .free then .reject 2 0x1B
    else if x.owner ≠ t.ctx then notPermitted
    else if a = 3 then
      let v := match x.kind with | .counter => v | .event => v % 2 | _ => v % 65536
      ok (s.setSync o { x with value := v, arrivals := 0, abandoned := false })
    else if !actionOk x.kind a then .reject 2 0x11
    else if !amountOk x.kind v then reserved
    else ok (signalSync o a v s)

def execQuerySync (p : Packet) (s : State) : Host.Outcome State Fault Refusal :=
  command 0x0223 2 false p s fun s t =>
    let o := p.u16 12
    let x := s.sync o
    let waiter := flaskNums.any fun f => s.isTenant t f && (x.waiters.getLsbD f || decide (f = x.holder))
    if 16384 ≤ o then reserved
    else if x.kind = .free then .reject 2 0x1B
    else if x.owner ≠ t.ctx ∧ !waiter then notPermitted
    else ok s (leBytes 8 (s.syncState o))

/-- STALL_MS (Table 5.18): a value outside 1 to 10,000 is ignored. -/
def writeStallMs (v : Nat) (s : State) : State :=
  let ms := v % 16384
  if 1 ≤ ms ∧ ms ≤ 10000 then { s with ex := { s.ex with stallMs := ms } } else s

def execStallMs (value : Word) (s : State) : Host.Outcome State Fault Refusal :=
  if s.pfServed then next (writeStallMs value.toNat s) else next s

end Sys2Proof.Machine
end

