-- ==== Sys2Proof/Machine/Prefetch.lean ====
section
/-!
DEFINITION. Raises within a job's reservation, and the prefetch descriptors that issue tokens start
(spec 10_memory_tiers.md, R350, R352).
-/

namespace Sys2Proof.Machine

/-- The new units that a claim on `tier` of these pages takes from the flask: of its own pages (tier quota), of others'
(pin quota). -/
def State.claimUnits (s : State) (f tier : Nat) (own : Bool) (ps : List Nat) : Nat :=
  ps.foldl (fun k a => let x := s.page a
    if (x.owner = f) = own ∧ tier < x.freeClaimOf f ∧ (tier < x.homeTier ∨ !own) then k + unitsOf x.big else k) 0

/-- What a job's claims hold of a tier, in units (R350). -/
def State.jobHolds (s : State) (j tier : Nat) : Nat :=
  s.mem.pages.foldl (fun k (p : Nat × Page) =>
    if p.2.claims.any fun c => decide (c.job = some j ∧ c.tier = tier) then k + unitsOf p.2.big else k) 0

/-- A raise of pages of a flask for a job stays within the job's reservation, or within the quota where no job
carries it (R350). -/
def State.raiseFits (s : State) (f tier : Nat) (job : Option Nat) (ps : List Nat) : Bool :=
  match job with
  | some j =>
    let im := (s.job j).image
    let fresh := ps.filter fun k => !(s.page k).claims.any fun c => decide (c.job = some j ∧ c.tier = tier)
    let own := fresh.filter fun k => (s.page k).owner = f
    decide (s.jobHolds j tier + fresh.foldl (fun k a => k + unitsOf (s.page a).big) 0
      ≤ im.peakRaised.getD tier 0 + (if own.length = fresh.length then 0 else im.peakPins.getD tier 0))
  | none => (s.claimUnits f tier true ps = 0 || decide (s.charge f tier + s.claimUnits f tier true ps ≤ s.quotaOf f tier))
      && (s.claimUnits f tier false ps = 0 || s.pinRoom f tier (s.claimUnits f tier false ps))

/-- Places claims on the pages of a range; `place` gives the T0 frames page by page. -/
def raisePages (f c tier stack : Nat) (job : Option Nat) (pin : Bool) (place : List Nat) (ps : List Nat) (s : State) : State :=
  ((List.range ps.length).zip ps).foldl (fun s (x : Nat × Nat) =>
    pageEvent x.2 (.raise f c tier stack job pin (if tier = 0 then place[x.1]? else none)) s) s

/-- Makes an entry wait for its pages. -/
def entryWaits (engine queue entry : Nat) (ps : List Nat) (g : Goal) (s : State) : State :=
  { s with mem := { s.mem with moves := s.mem.moves ++ [{ mover := .entry engine queue entry, pages := ps, goal := g }] } }

/-- Adds to a flask's LATE, or its T0_WAITS. -/
def countLate (f late t0 : Nat) (s : State) : State :=
  let x := Tab.get MoveCount.rest s.mem.counts f
  let y := { x with late := satAdd x.late late, t0Waits := satAdd x.t0Waits t0 }
  { s with mem := { s.mem with counts := Tab.put s.mem.counts f y } }

/-- Starts one descriptor of a job (R352): a lower drops or lowers the claim, a raise places it; a T0 raise makes its use
entry wait. A raise beyond the reservation answers `none` (R350). -/
def startDescriptor (j : Nat) (d : Prefetch) (s : State) : Option State :=
  let x := s.job j
  match s.pagesOf x.owner d.va (65536 * d.pages) with
  | none => none
  | some ms =>
    let ps := ms.map (·.2)
    if d.lower then some (overPages (fun k => pageEvent k (.lower x.flask d.tier)) ps s)
    else if !s.raiseFits x.flask d.tier (some j) ps then none
    else
      let frames := d.place.map fun p => t0Frame p.1 p.2.1 p.2.2
      let s := raisePages x.flask x.owner d.tier d.stack (some j) d.pin frames ps s
      match d.tier, d.use with
      | 0, some u => some (entryWaits 1 d.useQueue u ps (.raised 0) s)
      | _, _ => some s

/-- Starts descriptors in order; one that would exceed the reservation faults the job with ILLEGAL_OP. -/
def startDescriptors (j : Nat) : List Prefetch → State → State
  | [], s => s
  | d :: ds, s => match startDescriptor j d s with
    | some s1 => startDescriptors j ds s1
    | none => jobFault j 1 s

/-- The Tensor Array emits the issue token of an entry (R352). -/
def issueToken (j pour entry : Nat) (s : State) : State :=
  let im := (s.job j).image
  match im.pours[pour]? with
  | none => s
  | some q => startDescriptors j (im.prefetch.filter fun d => decide (d.queue = q.queue ∧ d.trigger = entry)) s

/-- When a job starts, descriptors with NEXT start for the first iteration (R352). -/
def startNext (j : Nat) (s : State) : State := startDescriptors j ((s.job j).image.prefetch.filter (·.next)) s

/-- A use entry issues: pages of its T1 and T2 raises that have not switched count LATE (R352). -/
def noteLate (j queue entry : Nat) (s : State) : State :=
  let x := s.job j
  let ds := x.image.prefetch.filter fun d =>
    !d.lower && decide (1 ≤ d.tier ∧ d.useQueue = queue ∧ d.use = some entry)
  let late := ds.foldl (fun n d => match s.pagesOf x.owner d.va (65536 * d.pages) with
    | none => n
    | some ms => n + (ms.filter fun (m : Mapping × Nat) => decide (d.tier < (s.page m.2).tier)).length) 0
  if late = 0 then s else countLate x.flask late 0 s

/-- A use entry finds its T0 raise incomplete: it waits, and is counted once (R352). -/
def noteT0Wait (f engine queue entry : Nat) (s : State) : State :=
  let mine := fun (w : MoveWait) => decide (w.mover = .entry engine queue entry) && !w.counted
  if s.mem.moves.any mine then
    let ms := s.mem.moves.map fun w => if mine w then { w with counted := true } else w
    countLate f 0 1 { s with mem := { s.mem with moves := ms } }
  else s

end Sys2Proof.Machine
end

