-- ==== Sys2Proof/Machine/JobCmds.lean ====
section
/-!
DEFINITION. Jobs, their placement and the issue and completion of pour entries
(spec 05_execution_model.md, R153 to R169, R184 to R187).
-/

namespace Sys2Proof.Machine

/-! ### Error sources (R363, R574) -/

/-- One event of error source `k` at a unit; the flag tells whether the unit has become a lasting fault. -/
def errEvent (k unit : Nat) (s : State) : State × Bool :=
  let x := s.errSource k
  let n := Tab.get 0 x.leaky unit + 1
  let full := decide (x.threshold ≤ n)
  let y := { x with events := satInc x.events, leaky := Tab.set 0 x.leaky unit (if full then 0 else n)
                    lasting := if full then satInc x.lasting else x.lasting }
  ({ s with safe := { s.safe with sources := s.safe.sources.set k y } }, full)

/-- A pace overrun of a flask (R157, source 1): lasting, it is the cause PACE_OVERRUN for C2 and C3. -/
def paceOverrun (f : Nat) (s : State) : State :=
  let (s, lasting) := errEvent 1 f s
  if !lasting then s
  else if 2 ≤ (s.flask f).cls then safeCause 9 0x2A (some f) none false (lastingFault 9 0x2A f 0 s)
  else lastingFault 9 0x2A f 0 s

/-- A datapath of a triple engine disagrees and is masked (R566, source 3). -/
def datapathEvent (unit : Nat) (s : State) : State :=
  let (s, lasting) := errEvent 3 unit s
  if lasting then attn 5 9 0x32 (lastingFault 9 0x32 unit 0 s) else s

/-! ### Job commands (R166, R167) -/

/-- The number of a job a command names: used, and of the sender's flask (R190). -/
def State.jobNamed (s : State) (t : Ticket) (j : Nat) : Bool :=
  (s.job j).used && (decide ((s.job j).owner = t.ctx) || s.isTenant t (s.job j).flask)

def execStartJob (p : Packet) (s : State) : Host.Outcome State Fault Refusal :=
  command 0x0211 3 false p s fun s t =>
    let j := p.u16 12
    let x := s.job j
    if 4096 ≤ j ∨ 1 < p.u8 14 then reserved
    else if s.safe.safeState then safeRefusal
    else if !s.jobNamed t j then notPermitted
    else if x.state ≠ .loaded ∧ x.state ≠ .ended ∧ x.state ≠ .faulted then .reject 2 0x0E
    else if x.image.digest ≠ moduleDigest s then .reject 2 3
    else
      let s := s.setJob j { x with
        state := .ready, repeats := p.u8 14 = 1, readyAt := s.ex.readyClock, passed := 0, cause := 0
        iterations := 0, fired := [], startTicket := some t }
      .later { s with ex := { s.ex with readyClock := s.ex.readyClock + 1 } }

/-- The runs of a job's pours on the queues. -/
def State.runsOf (s : State) (j : Nat) : List PourRun :=
  s.ex.queues.flatMap fun (_, q) => q.pours.filter fun r => decide (r.job = some j)

/-- Nothing of the job is in flight. -/
def State.jobQuiet (s : State) (j : Nat) : Bool :=
  (s.job j).inFlight.isEmpty && (s.runsOf j).all fun r => r.inFlight.isEmpty

/-- A DRAINING job whose last step in flight has completed ends: at once in mode 1, at the end of the iteration
in mode 0 (Table 5.8). -/
def tryEnd (j : Nat) (s : State) : State :=
  let x := s.job j
  if x.state = .draining ∧ s.jobQuiet j
      ∧ (x.drainMode = 1 ∨ (s.runsOf j).all fun r => decide (r.next = 0 ∨ r.entries.length ≤ r.next)) then jobEnded j s
  else s

/-- [log 34 DEDUCED] -/
def execStopJob (p : Packet) (s : State) : Host.Outcome State Fault Refusal :=
  commandThen sweepClosing 0x0212 3 false p s fun s t =>
    let j := p.u16 12
    let x := s.job j
    if 4096 ≤ j ∨ 1 < p.u8 14 then reserved
    else if !s.jobNamed t j then notPermitted
    else if x.state ≠ .running then .reject 2 0x0E
    else
      let s := s.setJob j { x with state := .draining, drainMode := p.u8 14 }
      if p.u8 14 = 1 ∧ s.jobQuiet j then ok (jobEnded j s)
      else .later (s.setJob j { s.job j with stopTicket := some t })

/-- The row of a job state in Table 5.8. -/
def JobState.row : JobState → Nat
  | .loaded => 0 | .ready => 1 | .running => 2 | .draining => 3 | .ended => 4 | .faulted => 5

/-- [log 31 DESIGN CHOICE] -/
def execQueryJob (p : Packet) (s : State) : Host.Outcome State Fault Refusal :=
  command 0x0213 2 false p s fun s t =>
    let j := p.u16 12
    let x := s.job j
    if 4096 ≤ j then reserved
    else if !s.jobNamed t j then notPermitted
    else ok s ([Config.jobStateCode x.state.row] ++ leBytes 1 x.cause ++ [0, 0] ++ leBytes 4 x.iterations
      ++ leBytes 4 x.cores.length)

def execUnloadJob (p : Packet) (s : State) : Host.Outcome State Fault Refusal :=
  command 0x0214 2 false p s fun s t =>
    let j := p.u16 12
    let x := s.job j
    if 4096 ≤ j then reserved
    else if !s.jobNamed t j then notPermitted
    else if x.state ≠ .loaded ∧ x.state ≠ .ended ∧ x.state ≠ .faulted then .reject 2 0x0E
    else ok (jobUnloaded j (s.setJob j Job.rest))

/-! ### Placement (R168, R169, R524, R525) -/

/-- Cores of the flask on a die that no job owns and that are not staged for removal (R168). -/
def State.idleCores (s : State) (f d : Nat) : List Nat :=
  ((s.flask f).committed.cores.filter fun c => decide (c.1 = d) && !s.coreOwned f c
    && (s.flask f).shadow.cores.contains c).map (·.2)

/-- Bytes of a job's declared resident inputs that lie in a core. -/
def residentIn (im : PourImage) (d k : Nat) : Nat :=
  im.resident.foldl (fun b x => if x.1 = d ∧ x.2.1 = k then b + x.2.2 else b) 0

/-- The cores that a die gives a job: most resident bytes first, then the lowest numbers. [log 33 DEDUCED] -/
def State.pickCores (s : State) (f : Nat) (im : PourImage) (d : Nat) : Option (List (Nat × Nat)) :=
  let held := ((s.flask f).committed.cores.filter fun c => decide (c.1 = d)).length
  let want := min (im.cores.getD d 0) held
  let idle := sortBy (s.idleCores f d) fun a b =>
    decide (residentIn im d b < residentIn im d a ∨ (residentIn im d a = residentIn im d b ∧ a ≤ b))
  if idle.length < want then none else some ((idle.take want).map fun k => (d, k))

/-- The core set of a job, when its flask can place it. [log 33 DEDUCED] -/
def State.place (s : State) (j : Nat) : Option (List (Nat × Nat)) :=
  let x := s.job j
  let queues := x.image.pours.all fun q => (s.flask x.flask).committed.queues.contains (q.engine, q.queue)
  match s.pickCores x.flask x.image 0, s.pickCores x.flask x.image 1, s.pickCores x.flask x.image 2,
      s.pickCores x.flask x.image 3 with
  | some a, some b, some c, some d =>
    let cs := a ++ b ++ c ++ d
    if queues ∧ (cs ≠ [] ∨ x.image.cores.all (· = 0)) then some cs else none
  | _, _, _, _ => none

/-- R525: the job's declared energy fits the epoch. A paced job does not wait per epoch (R169). [log 33 DEDUCED] -/
def State.fits (s : State) (j : Nat) : Bool :=
  let im := (s.job j).image
  (s.flask (s.job j).flask).mode = .paced
    || (decide (im.energy.foldl (· + ·) 0 ≤ s.pa.leftCr)
        && dieNums.all fun n => decide (im.energy.getD n 0 + (s.diePower n).granted ≤ (s.diePower n).ceiling
            ∨ im.energy.getD n 0 = 0))

/-- A pour joins its queue behind those that wait. -/
def enqueue (e q : Nat) (r : PourRun) (s : State) : State :=
  let x := s.queue e q
  s.setQueue e q { x with pours := x.pours ++ [r] }

/-- Puts a job's pours on their queues, from the first entry. -/
def enqueueJob (j : Nat) (s : State) : State :=
  let x := s.job j
  ((List.range x.image.pours.length).zip x.image.pours).foldl (fun s (k, q) =>
    enqueue q.engine q.queue { job := some j, ctx := x.owner, flask := x.flask, pour := k, entries := q.entries,
                               iteration := x.iterations } s) s

/-- A ready job is placed and runs (Table 5.8): it owns its cores, START_JOB has its final reply. -/
def runJob (j : Nat) (cores : List (Nat × Nat)) (s : State) : State :=
  let x := s.job j
  let short := cores.any fun c => (s.die c.1).short
  let s := s.setJob j { x with
    state := .running, cores := cores, startTicket := none, begun := false, placed := s.ex.readyClock
    remapped := short || decide (cores.length < x.image.cores.foldl (· + ·) 0) }
  let s := { s with ex := { s.ex with readyClock := s.ex.readyClock + 1 } }
  let s := if (s.flask x.flask).mode = .paced then
      { s with safe := { s.safe with lockedCrc := Tab.put s.safe.lockedCrc x.flask (BitVec.ofNat 64 (crc64 0 (s.lockedBytes x.flask))) } }
    else
    -- R524: in this epoch the job receives its declared energy
    let e := x.image.energy.foldl (· + ·) 0
    let y := s.flaskPower x.flask
    let s := s.setFlaskPower x.flask { y with grant := y.grant + if e = 0 then s.pa.modeW / 2 else e }
    let s := { s with pa := { s.pa with leftCr := s.pa.leftCr - e, meteredFlasks := s.pa.meteredFlasks.filter (· ≠ x.flask) } }
    overList (fun n s => let d := s.diePower n
      s.setDiePower n { d with granted := d.granted + x.image.energy.getD n 0 }) dieNums s
  finishOpt x.startTicket 0 2 0 [] (startNext j (driftStart j (enqueueJob j s)))

/-- The ready jobs of a flask in the order in which they became ready. [log 44 DEDUCED] -/
def State.readyJobs (s : State) (f : Nat) : List Nat :=
  sortBy ((s.jobsOf f).filter fun j => (s.job j).state = .ready && !(s.job j).suspended)
    fun a b => decide ((s.job a).readyAt ≤ (s.job b).readyAt)

/-- The first ready job that can be placed, with the jobs it passes; none passes a job already passed 8 times
(R169). [log 33 DEDUCED] -/
def State.choose (s : State) : List Nat → List Nat → Option (Nat × List (Nat × Nat) × List Nat)
  | [], _ => none
  | j :: rest, skipped =>
    match (if s.fits j then s.place j else none) with
    | some cs => some (j, cs, skipped)
    | none => if 8 ≤ (s.job j).passed then none else s.choose rest (skipped ++ [j])

/-- [log 33 DEDUCED] -/
def execJobPlacement (flask : Nat) (s : State) : Host.Outcome State Fault Refusal :=
  if (s.flask flask).state ≠ .active ∨ s.safe.safeState then next s
  else match s.choose (s.readyJobs flask) [] with
    | none => next s
    | some (j, cs, skipped) =>
      let s := overList (fun k s => s.setJob k { s.job k with passed := (s.job k).passed + 1 }) skipped s
      let waits := (skipped.filter fun k => !s.fits k).length
      let s := s.setFlaskPower flask { s.flaskPower flask with waits := satAdd (s.flaskPower flask).waits waits }
      nextSweep (runJob j cs s)

/-! ### Issue (R153, R159, R163) -/

/-- Changes the pour that a queue executes. -/
def setHead (e q : Nat) (r : PourRun) (s : State) : State :=
  let x := s.queue e q
  s.setQueue e q { x with pours := r :: x.pours.drop 1 }

/-- The waits of an entry are all satisfied. -/
def State.waitsMet (s : State) (r : PourRun) (e : Entry) : Bool :=
  e.waits.all fun w => (s.sync w.object).satisfies w.target (r.pulsed.contains w.object)

/-- Some wait of the entry is satisfied with ABANDONED. -/
def State.waitAbandoned (s : State) (e : Entry) : Bool := e.waits.any fun w => (s.sync w.object).abandoned

/-- Applies an entry's signals in field order (R153). -/
def applySignals (e : Entry) (s : State) : State :=
  e.signals.foldl (fun s g => signalSync g.object g.action g.amount s) s

/-- The flask's entries may issue: it runs, the module is not in the safe state, no free-running commit has fallen
due, no draining job forbids it (R178, R550, Table 5.8). [log 37 DEDUCED] -/
def State.mayIssue (s : State) (r : PourRun) : Bool :=
  let f := s.flask r.flask
  !s.safe.safeState && f.state = .active && !f.revoked && !r.held && !(s.commitDue r.flask && f.mode ≠ .paced)
    && (match r.job with
      | none => true
      | some j =>
        let x := s.job j
        !x.suspended && (f.mode ≠ .paced || x.begun) && (x.state = .running
          || (x.state = .draining && x.drainMode = 0 && decide (0 < r.next ∧ r.next < r.entries.length))))

/-- The order of execution in the queue lets the next entry start (Table 5.1). [log 44 DEDUCED] -/
def orderLets (e : Nat) (r : PourRun) : Bool :=
  decide (e ≤ 2) || r.inFlight.isEmpty
    || match r.entries[r.next - 1]? with | some b => b.overlap | none => true

/-- Where an iteration of a pour is complete: a paced pour waits for its next period, a free-running job runs
again or ends, a submitted pour leaves its queue (Table 5.8). -/
def pourDone (e q : Nat) (s : State) : State :=
  match (s.queue e q).pours.head? with
  | none => s
  | some r =>
    if r.next < r.entries.length ∨ r.inFlight ≠ [] then s
    else match r.job with
      | none => s.setQueue e q { s.queue e q with pours := (s.queue e q).pours.drop 1 }
      | some j =>
        let x := s.job j
        if (s.flask x.flask).mode = .paced then tryEnd j s
        else if !(s.runsOf j).all fun r => decide (r.entries.length ≤ r.next) && r.inFlight.isEmpty then s
        else
          let s := s.setJob j { x with iterations := satInc x.iterations }
          if x.state = .draining then tryEnd j s
          else if x.repeats then enqueueJob j (dropPours (fun r => decide (r.job = some j)) s)
          else jobEnded j s

/-- An entry is passed over with its outputs missing and its signals applied (R163 SKIP). -/
def skipEntry (e q : Nat) (r : PourRun) (k : Nat) (en : Entry) (s : State) : State :=
  let out : OutState := { attrs := { valid := false }, epoch := s.now, missing := true }
  pourDone e q (applySignals en (setHead e q { r with next := k + 1, pulsed := []
                                                      outs := Tab.put r.outs k out } s))

def execEntryIssue (engine queue : Nat) (s : State) : Host.Outcome State Fault Refusal :=
  match (s.queue engine queue).pours.head? with
  | none => next s
  | some r =>
    match r.entries[r.next]? with
    | none => next s
    | some en =>
      if !s.mayIssue r ∨ !orderLets engine r ∨ !s.waitsMet r en then next s
      else if s.entryMoving engine queue r.next then next (noteT0Wait r.flask engine queue r.next s)
      else if s.waitAbandoned en then
        if (s.flask r.flask).mode = .paced ∨ en.onAbandonSkip then nextSweep (skipEntry engine queue r r.next en s)
        else match r.job with
          | some j => nextSweep (jobFault j 7 s)
          | none => next (s.setQueue engine queue { s.queue engine queue with
              pours := (s.queue engine queue).pours.drop 1 })
      else
        let k := r.next
        let s := setHead engine queue { r with next := k + 1, inFlight := r.inFlight ++ [k], pulsed := [] } s
        let s := traceNote 2 engine k s
        match engine, r.job with
        | 1, some j => nextSweep (issueToken j r.pour k (noteLate j queue k s))
        | _, _ => next s

/-! ### Completion (R153, R181, R566, R614) -/

/-- The attribute word of what is derived from two things (R614). -/
def Attrs.join (a b : Attrs) : Attrs :=
  { valid := a.valid && b.valid, shifted := a.shifted || b.shifted, remapped := a.remapped || b.remapped
    mixedGen := a.mixedGen || b.mixedGen, concealed := a.concealed || b.concealed, aged := a.aged
    deferred := a.deferred, voted := a.voted || b.voted, anytime := a.anytime || b.anytime }

/-- Attributes that a result hands on: AGED and DEFERRED stay behind (R614). -/
def Attrs.carried (a : Attrs) : Attrs := { a with aged := false, deferred := false }

/-- R181: consuming a result of generation `g` of another flask makes MIXED_GEN. -/
def State.mixes (s : State) (f g src : Nat) : Bool :=
  let mine := (s.flask f).generation
  let newer := s.ex.issued.find? fun x => decide (x.1 = mine ∨ x.1 = g)
  decide (src ≠ f ∧ g ≠ mine) && match newer with
    | some x => x.2.contains f && x.2.contains src
    | none => false

/-- What a source of an entry contributes. -/
def State.sourceOut (s : State) (f : Nat) (r : PourRun) : Source → OutState
  | .entry k => Tab.get {} r.outs k
  | .batch t => batchOut t s
  | .result c =>
    match s.ex.results.find? fun x => decide (x.1 = c) with
    | none => { attrs := { valid := false }, epoch := s.now, missing := true }
    | some (_, h) => { attrs := { h.attrs.carried with mixedGen := h.attrs.mixedGen || s.mixes f h.generation h.flask }
                       epoch := h.sourceEpoch }

/-- The output of an entry: its own part joined with its sources; the oldest epoch; REMAPPED from its job. -/
def State.entryOut (s : State) (r : PourRun) (k : Nat) (en : Entry) : OutState :=
  let own := Tab.get { epoch := s.now } r.own k
  -- a solution carries what its problem and policy give it (R474, R477)
  let srcs := if en.op = 0x7002 then [] else en.sources.map (s.sourceOut r.flask r)
  let missing := match r.job with
    | some j => ((List.range (s.job j).image.steps.length).zip (s.job j).image.steps).any fun (x : Nat × Step) =>
        decide (x.2.entry = k) && (s.job j).missing.contains x.1
    | none => false
  let rm := match r.job with | some j => (s.job j).remapped | none => false
  let voted := match r.job with
    | some j => (s.job j).voted.any fun i => match (s.job j).image.steps[i]? with | some st => decide (st.entry = k) | none => false
    | none => false
  let a := srcs.foldl (fun a o => a.join { o.attrs.carried with valid := o.attrs.valid && !o.missing }) own.attrs
  { attrs := { a with valid := a.valid && !missing && !own.missing, remapped := a.remapped || rm, voted := a.voted || voted }
    epoch := srcs.foldl (fun e o => min e o.epoch) own.epoch, missing := missing || own.missing }

/-- Delivers an entry's result: at once in a free-running flask, at the next boundary in a paced one (R28). -/
def entryResult (r : PourRun) (k : Nat) (en : Entry) (o : OutState) (s : State) : State :=
  let f := s.flask r.flask
  let h : Header := { outputTime := s.now, sourceEpoch := o.epoch, generation := f.generation, cls := en.cls
                      flask := r.flask, attrs := o.attrs, digest := s.digestFor (some r.flask) % 65536 }
  if !en.result then s
  else if f.mode = .paced then s.setFlask r.flask { f with waitingResults := f.waitingResults ++
      [{ header := h, engine := en.op / 4096, entry := k
         image := match r.job with | some j => (s.job j).image.hash | none => 0 }] }
  else deliver h s

/-- A step of entry `k` of a C3 flask has fired and has not been released (R563). -/
def State.entryHeld (s : State) (r : PourRun) (k : Nat) : Bool :=
  match r.job with
  | none => false
  | some j => (s.c3 r.flask).held.any fun x => decide (x.1 = j) && match (s.job j).image.steps[x.2]? with
    | some st => decide (st.entry = k)
    | none => false

/-- The steps of entry `k`. -/
def Job.stepsOf (x : Job) (k : Nat) : List Nat :=
  (List.range x.image.steps.length).filter fun i =>
    match x.image.steps[i]? with
    | some y => decide (y.entry = k)
    | none => false

/-- Completes entry `k` of the pour a queue executes. -/
def completeEntry (e q k : Nat) (lost : Bool) (s : State) : State :=
  match (s.queue e q).pours.head? with
  | none => s
  | some r =>
    match r.entries[k]? with
    | none => s
    | some en =>
      if !r.inFlight.contains k then s
      else
        let o0 := s.entryOut r k en
        let o0 := if s.streamBad q k && e = 1 then { o0 with attrs := { o0.attrs with valid := false } } else o0
        let o := if lost then { o0 with attrs := { o0.attrs with valid := false }, missing := true } else o0
        let s := setHead e q { r with inFlight := r.inFlight.filter (· ≠ k), outs := Tab.put r.outs k o } s
        let s := match r.job with
          | some j =>
            let x := s.job j
            let mine := x.stepsOf k
            s.setJob j { x with inFlight := x.inFlight.filter fun i => !mine.contains i
                                missing := x.missing.filter fun i => !mine.contains i
                                voted := x.voted.filter fun i => !mine.contains i }
          | none => s
        let s := traceNote 3 e k s
        pourDone e q (applySignals en (entryResult r k en o (entryDone r.job r.pour e q k o.missing s)))

/-- A TAKE_BATCH in flight that has taken nothing yet (R416). -/
def State.takeWaits (s : State) (queue entry : Nat) : Bool :=
  match (s.queue 3 queue).pours.head? with
  | some r => match r.entries[entry]? with
    | some en => r.inFlight.contains entry && decide (en.op % 4096 = 1) && !r.own.any fun y => decide (y.1 = entry)
    | none => false
  | none => false

/-- An entry completes. `agree` is how many of the three datapaths of a triple engine agree (R566); `unit` the one
that disagrees. -/
def execEntryComplete (engine queue entry agree unit : Nat) (s : State) : Host.Outcome State Fault Refusal :=
  let flask := match (s.queue engine queue).pours.head? with | some r => r.flask | none => 0
  let triple := (engine = 2 ∨ 5 ≤ engine) ∧ 1 ≤ (s.flask flask).cls
  let busy := match (s.queue engine queue).pours.head? with | some r => r.inFlight.contains entry | none => false
  let unreleased : Bool := match (s.queue engine queue).pours.head? with | some r => s.entryHeld r entry | none => false
  if !busy ∨ unreleased ∨ s.entryMoving engine queue entry ∨ (engine = 1 ∧ s.forkPending queue entry) ∨ (engine = 3 ∧ s.takeWaits queue entry) then next s
  else if triple ∧ agree = 2 then nextSweep (completeEntry engine queue entry false (datapathEvent unit s))
  else if triple ∧ agree < 2 then
    let s := completeEntry engine queue entry true s
    nextSweep (if (s.flask flask).cls = 3 then safeCause 9 0x32 (some flask) none false s else s)
  else nextSweep (completeEntry engine queue entry false s)

/-- A NOP entry in flight waits and signals only (R152). -/
def execNopEntry (engine queue entry : Nat) (s : State) : Host.Outcome State Fault Refusal :=
  match (s.queue engine queue).pours.head? with
  | none => next s
  | some r =>
    match r.entries[entry]? with
    | none => next s
    | some en => if en.op % 4096 = 0 then nextSweep (completeEntry engine queue entry false s) else next s

/-! ### Steps, stalls, resets (R19, R155, R156, R158, R185) -/

/-- R19: a token for every input and a credit for every output. [log 102 DEDUCED] -/
def Job.canFire (x : Job) (st : Step) : Bool :=
  st.ins.all (fun e => decide (1 ≤ Tab.get 0 x.tokens e))
    && st.outs.all (fun e => decide (Tab.get 0 x.tokens e < x.image.edges.getD e 0))

/-- The step's entry is in flight. -/
def State.entryInFlight (s : State) (j k : Nat) : Bool := (s.runsOf j).any fun r => r.inFlight.contains k

/-- A token that a step would consume comes from a step of a C3 flask that has not been released (R563). -/
def State.tokenHeld (s : State) (j : Nat) (st : Step) : Bool :=
  (s.c3 (s.job j).flask).held.any fun x => decide (x.1 = j) && match (s.job j).image.steps[x.2]? with
    | some y => y.outs.any st.ins.contains
    | none => false

/-- The step is the one its core fires next: in list order in a paced flask (R155), the lowest entry, then the lowest
step, among those that can fire in a free-running one (R156). -/
def State.isNextStep (s : State) (j i : Nat) (st : Step) : Bool :=
  let x := s.job j
  let mine := (List.range x.image.steps.length).filter fun k =>
    match x.image.steps[k]? with
    | some y => decide (y.core = st.core) && decide (Tab.get 0 x.fired k ≤ x.iterations)
    | none => false
  if (s.flask x.flask).mode = .paced then decide (mine.head? = some i)
  else mine.all fun k => match x.image.steps[k]? with
    | some y => !(x.canFire y && s.entryInFlight j y.entry) || decide (st.entry < y.entry ∨ (st.entry = y.entry ∧ i ≤ k))
    | none => true

/-- A core fires a step: a token from every input, one to every output; a missing batch or a missing producer
leaves the outputs missing (R30). -/
def fireStep (j i : Nat) (st : Step) (s : State) : State :=
  let x := s.job j
  let toks := st.ins.foldl (fun t e => Tab.set 0 t e (Tab.get 0 t e - 1)) x.tokens
  let toks := st.outs.foldl (fun t e => Tab.set 0 t e (Tab.get 0 t e + 1)) toks
  let lost := st.batches.any fun t => (batchOut t s).missing
  let s := s.setJob j { x with tokens := toks, fired := Tab.put x.fired i (x.iterations + 1), inFlight := x.inFlight ++ [i]
                               missing := if lost then (x.missing ++ [i]).dedup else x.missing }
  let y := s.c3 x.flask
  if (s.flask x.flask).cls = 3 ∧ (y.mode = .slack ∨ y.mode = .noSlack) then
    s.setC3 x.flask { y with held := y.held ++ [(j, i)] }
  else s

def execCoreStepFire (job step : Nat) (hit : StepHit) (s : State) : Host.Outcome State Fault Refusal :=
  let x := s.job job
  match x.image.steps[step]? with
  | none => next s
  | some st =>
    let metered := s.pa.meteredFlasks.contains x.flask && (s.flask x.flask).mode ≠ .paced
    -- a paced step starts at its start span, not before (R155, R157)
    let early := (s.flask x.flask).mode = .paced && (!x.begun || decide ((s.flask x.flask).span < st.startSpan))
    if early ∨ !x.live ∨ !x.canFire st ∨ !s.entryInFlight job st.entry ∨ !s.isNextStep job step st ∨ metered ∨ s.tokenHeld job st
        ∨ s.safe.safeState then next s
    else match hit with
      | .none => next (fireStep job step st s)
      | .poison => if (s.flask x.flask).cls = 3 then next (fireStep job step st s)
                   else nextSweep (jobFault job 3 (ctxEvent x.owner 27 3 0 s))
      | .translation => nextSweep (jobFault job 2 s)
      | .illegal => nextSweep (jobFault job 1 s)
      | .engine => nextSweep (jobFault job 5 s)

/-- R158: a free-running job shows no progress for STALL_MS. -/
def execJobStall (job : Nat) (s : State) : Host.Outcome State Fault Refusal :=
  let x := s.job job
  let taking := s.ex.queues.any fun (y : Nat × Queue) => decide (y.1 / 64 = 3) && (match y.2.pours.head? with
    | some r => decide (r.job = some job) && r.inFlight.any (s.takeWaits (y.1 % 64))
    | none => false)
  if x.live ∧ (s.flask x.flask).mode = .free ∧ !taking then nextSweep (jobFault job 4 s) else next s

/-- Step 6 of Table 5.13: FLASK_RESET in each tenant's event word; jobs that were RUNNING restart from their first
entry; the flask is LOADED or ACTIVE by AUTO_RESTART (Table 5.9, R171, R523). [log 34 DEDUCED] -/
def completeReset (f : Nat) (s : State) : State :=
  let s := overList (fun j s =>
    let y := s.job j
    if y.state = .draining then jobEnded j s
    else if y.wasRunning then
      let s := s.setJob j { y with state := .ready, cores := [], iterations := 0, fired := [], missing := [], begun := false
                                   readyAt := s.ex.readyClock, passed := 0, wasRunning := false }
      { s with ex := { s.ex with readyClock := s.ex.readyClock + 1 } }
    else s) (s.jobsOf f) s
  let x := s.flask f
  let s := overList (fun c => ctxEvent c 18 2 0) x.tenants s
  let tickets := x.resetTickets
  let s := s.setFlask f { x with state := if x.autoRestart then .active else .loaded, revoked := false
                                 resetTickets := [], stopPending := x.stopPending && x.autoRestart
                                 stopTicket := if x.autoRestart then x.stopTicket else none }
  let s := if x.autoRestart then
      if x.mode = .paced then s.setFlaskPower f { s.flaskPower f with reserved := s.declared f } else s
    else finishOpt x.stopTicket 0 2 0 [] s
  tickets.foldl (fun s t => finishOk t s) s

def execFlaskResetComplete (flask : Nat) (s : State) : Host.Outcome State Fault Refusal :=
  let x := s.flask flask
  if x.state = .resetting ∧ x.unconfirmed = [] then nextSweep (completeReset flask s) else next s

def execRevocationConfirm (flask block : Nat) (s : State) : Host.Outcome State Fault Refusal :=
  let x := s.flask flask
  next (s.setFlask flask { x with unconfirmed := x.unconfirmed.filter (· ≠ block) })

/-- A block has not confirmed within 40 µs (R578): a compute die is held in reset and lost, another block is the
cause REVOKE_TIMEOUT. -/
def execRevokeTimeout (flask block : Nat) (s : State) : Host.Outcome State Fault Refusal :=
  let x := s.flask flask
  if !x.unconfirmed.contains block then next s
  else
    let s := s.setFlask flask { x with unconfirmed := x.unconfirmed.filter (· ≠ block) }
    if block < 4 then next (dieLost block .revocation s)
    else next (safeCause 9 0x2C (some flask) none false s)

end Sys2Proof.Machine
end

