-- ==== Sys2Proof/Machine/MemCmds.lean ====
section
/-!
DEFINITION. The memory commands of area 0x03, the operations of the Migration Engine and the events of the tiers
(spec 10_memory_tiers.md, Tables 10.4, 10.17).
-/

namespace Sys2Proof.Machine

/-- RETIRE_DIE ends once every flask has left the die and its stack is empty (R594). -/
def finishRetire (s : State) : State :=
  let ready := s.svc.retiring.filter fun r => memStackEmpty r.die s && flaskNums.all fun f =>
    !(s.flask f).leaveDue.contains r.die && !(s.flask f).committed.cores.any fun c => decide (c.1 = r.die)
  let s := { s with svc := { s.svc with retiring := s.svc.retiring.filter fun r => !ready.contains r } }
  ready.foldl (fun s r =>
    let s := s.setDie r.die { s.die r.die with out := some .retired, rails := .off, short := false }
    finishOk r.ticket (attn 15 0x0B 0 (retire 8 r.die 0 s))) s

/-- Every change of pages lets waiting commands and evacuations come to their end, and parked dies go off. -/
def afterMoves (s : State) : State := finishRetire (overList finishPark dieNums (sweepEvac (sweepMoves (notePeak s))))

/-- What follows on a change of pages and of jobs. -/
def settleMoves (s : State) : State := sweepClosing (afterMoves s)

def nextMoves (s : State) : Host.Outcome State Fault Refusal := next (settleMoves s)

/-- As `command`, for a command after which pages may have come to rest. -/
def commandMoves (opcode least : Nat) (pfOnly : Bool) (p : Packet) (s : State) (body : State → Ticket → Answer) :
    Host.Outcome State Fault Refusal := commandThen settleMoves opcode least pfOnly p s body

/-! ### Ranges -/

def generalBase : Nat := 0x200000
def kvBase : Nat := 0x800000000000

/-- A range lies in the general region and is aligned to a page size (R334). -/
def rangeValid (va n : Nat) (big : Bool) : Bool :=
  decide (0 < n ∧ va % bytesOf big = 0 ∧ n % bytesOf big = 0 ∧ generalBase ≤ va ∧ va + n ≤ kvBase)

/-- The lowest place for `n` bytes from `lo` up at a multiple of `align`, outside the taken ranges. -/
def fitVa (align n : Nat) : List (Nat × Nat) → Nat → Nat
  | [], lo => (lo + align - 1) / align * align
  | (a, b) :: r, lo =>
    let c := (lo + align - 1) / align * align
    if c + n ≤ a then c else fitVa align n r (max lo (a + b))

/-- The ranges a context maps, rising. -/
def State.takenVa (s : State) (c : Nat) : List (Nat × Nat) :=
  sortBy ((s.mem.maps.filter fun m => decide (m.ctx = c)).map fun m => (m.va, m.bytes)) fun a b => decide (a.1 ≤ b.1)

/-- The flask of a tenant that sends a command; a sender that is no tenant is refused (R190, R371). -/
def State.senderFlask (s : State) (t : Ticket) : Option Nat := s.flaskOfCtx t.ctx

/-- Maps new pages for a context and answers the state and the frames, or the reason why not (R341, R345). -/
def mapNew (f c tier stack : Nat) (strict big : Bool) (va n : Nat) (job : Option Nat) (write kv : Bool) (s : State) :
    Except Nat (State × List Nat) :=
  let k := n / bytesOf big
  if !s.roomFor f c tier (k * unitsOf big) then .error 1
  else match s.allocFrames f tier stack strict big k with
    | none => .error 3
    | some frames =>
      let (s1, nums) := makePages f c tier big kv frames s
      let s2 := { s1 with mem := { s1.mem with maps := s1.mem.maps ++ [{ ctx := c, flask := f, va := va, pages := nums
                                                                         big := big, write := write, own := true
                                                                         job := job, kv := kv }] } }
      if xlatSize < s2.xlatUsed then .error 0x0A else .ok (notePeak s2, frames)

/-- Completes a command once the frames it has mapped are cleared (R333). -/
def whenClear (t : Ticket) (ret : List Byte) (frames : List Nat) (big : Bool) (s : State) : Answer :=
  let w := s.uncleared frames big
  if w.isEmpty then ok s ret
  else .later { s with mem := { s.mem with waitClear := s.mem.waitClear ++ [(t, ret, w)] } }

/-- [log 6 DEDUCED, 64 DEDUCED] -/
def execAllocate (p : Packet) (s : State) : Host.Outcome State Fault Refusal :=
  commandMoves 0x0301 18 false p s fun s t =>
    let tier := p.u8 12
    let big := (p.u8 13).testBit 0
    let fixed := (p.u8 13).testBit 1
    let strict := (p.u8 13).testBit 2
    let stack := if p.u8 14 = 0xFF then 4 else p.u8 14
    let n := p.u64 16
    if tier = 0 ∨ 3 < tier ∨ 7 < p.u8 13 ∨ 4 < stack then reserved
    else match s.senderFlask t with
      | none => notPermitted
      | some f =>
        let va := if fixed then p.u48 24 else fitVa (bytesOf big) n (s.takenVa t.ctx) generalBase
        if !rangeValid va n big ∨ (tier = 3 ∧ !big) then .reject 3 5
        else if s.rangeUsed t.ctx va n then .reject 3 4
        else match mapNew f t.ctx tier stack (strict && decide (stack < 4)) big va n none true false s with
          | .error d => .reject 3 d
          | .ok (s1, frames) => whenClear t (leBytes 6 va) frames big s1

/-- Cuts the mappings of a context to what lies outside a range, page by page. -/
def cutMap (c va n : Nat) (m : Mapping) : List Mapping :=
  if m.ctx ≠ c ∨ m.va + m.bytes ≤ va ∨ va + n ≤ m.va then [m]
  else
    let b := bytesOf m.big
    let before := (va - m.va) / b
    let after := m.pages.length - (va + n - m.va) / b
    (if 0 < va - m.va then [{ m with pages := m.pages.take before }] else [])
    ++ (if 0 < after then [{ m with va := m.va + (m.pages.length - after) * b
                                    pages := m.pages.drop (m.pages.length - after) }] else [])

def execRelease (p : Packet) (s : State) : Host.Outcome State Fault Refusal :=
  commandMoves 0x0302 20 false p s fun s t =>
    let va := p.u48 16
    let n := p.u64 24
    match s.senderFlask t with
    | none => notPermitted
    | some f =>
      if !rangeValid va n false then .reject 3 5
      else match s.pagesOf t.ctx va n with
        | none => .reject 3 6
        | some ps =>
          if ps.any fun x => va % bytesOf x.1.big ≠ 0 ∨ (va + n) % bytesOf x.1.big ≠ 0 then .reject 3 5
          else if ps.any fun x => x.1.job.isSome then .reject 3 0x0F
          else
            let s := { s with mem := { s.mem with maps := s.mem.maps.flatMap (cutMap t.ctx va n) } }
            let foreign := (ps.filter fun x => !x.1.own).map (·.2)
            ok (overPages freeUnmapped (ps.map (·.2)) (overPages (dropFlask f) foreign s))

/-- R556: a flask may map a page of another, by their classes: not from C1 to C3 to a lower class, not from C0 or C1 to C3. -/
def classesShare (target source : Nat) (s : State) : Bool :=
  let a := (s.flask source).cls
  let b := (s.flask target).cls
  !decide (1 ≤ a ∧ b < a) && !decide (b = 3 ∧ a ≤ 1)

/-- [log 64 DEDUCED] -/
def execShareMemory (p : Packet) (s : State) : Host.Outcome State Fault Refusal :=
  commandMoves 0x0303 28 true p s fun s _ =>
    let a := p.u16 12
    let b := p.u16 14
    let sva := p.u48 16
    let tva := p.u48 24
    let n := p.u64 32
    if 1024 ≤ a ∨ 1024 ≤ b then reserved
    else match s.flaskOfCtx a, s.flaskOfCtx b with
      | some fa, some fb =>
        if !rangeValid sva n false ∨ !rangeValid tva n false then .reject 3 5
        else match s.pagesOf a sva n with
          | none => .reject 3 6
          | some ps =>
            let big := ps.all fun x => x.1.big
            if (sva % bytesOf big ≠ 0 ∨ tva % bytesOf big ≠ 0 ∨ n % bytesOf big ≠ 0)
                ∨ (ps.any fun x => x.1.big ≠ big) then .reject 3 5
            else if ps.any fun x => !x.1.own then .reject 3 6
            else if s.rangeUsed b tva n then .reject 3 4
            else if ps.any fun x => (s.page x.2).claims.any fun c => decide (c.tier = 0) then .reject 3 0x0C
            else if !classesShare fb fa s then .reject 9 7
            else
              let m : Mapping :=
                { ctx := b, flask := fb, va := tva, pages := ps.map (·.2), big := big, write := false, own := false }
              let s1 := { s with mem := { s.mem with maps := s.mem.maps ++ [m] } }
              if xlatSize < s1.xlatUsed then .reject 3 0x0A else ok s1
      | _, _ => .reject 1 8

/-- A paced flask maps one of the pages (R371). -/
def State.pacedMaps (s : State) (ps : List Nat) : Bool :=
  s.mem.maps.any fun m => decide ((s.flask m.flask).mode = .paced) && ps.any m.pages.contains

/-- The range of a command: the pages of the sender's mappings, whole. -/
def State.commandPages (s : State) (t : Ticket) (va n : Nat) : Except Nat (List Nat) :=
  if !rangeValid va n false then .error 5
  else match s.pagesOf t.ctx va n with
    | none => .error 6
    | some ps =>
      if ps.any fun x => va % bytesOf x.1.big ≠ 0 ∨ (va + n) % bytesOf x.1.big ≠ 0 then .error 5 else .ok (ps.map (·.2))

/-- Waits for pages: done at once where they are there already. -/
def waitPages (t : Ticket) (ps : List Nat) (g : Goal) (s : State) : Answer :=
  .later { s with mem := { s.mem with moves := s.mem.moves ++ [{ mover := .command t, pages := ps, goal := g }] } }

/-- Units of pages that a flask has not pinned in a tier yet. -/
def State.pinUnits (s : State) (f tier : Nat) (ps : List Nat) : Nat :=
  ps.foldl (fun k a => k + if (s.page a).pins.contains (f, tier) then 0 else unitsOf (s.page a).big) 0

/-- [log 64 DEDUCED] -/
def execPin (p : Packet) (s : State) : Host.Outcome State Fault Refusal :=
  commandMoves 0x0304 20 false p s fun s t =>
    let tier := p.u8 12
    if tier = 0 ∨ 2 < tier then reserved
    else match s.senderFlask t, s.commandPages t (p.u48 16) (p.u64 24) with
      | none, _ => notPermitted
      | _, .error d => .reject 3 d
      | some f, .ok ps =>
        if s.pacedMaps ps then .reject 3 8
        else if !s.pinRoom f tier (s.pinUnits f tier ps) then .reject 3 2
        else if s.quotaOf f tier < s.charge f tier + s.claimUnits f tier true ps ∧ 0 < s.claimUnits f tier true ps then
          .reject 3 1
        else waitPages t ps (.raised tier) (overPages (fun k => pageEvent k (.pin f t.ctx tier)) ps s)

def execUnpin (p : Packet) (s : State) : Host.Outcome State Fault Refusal :=
  commandMoves 0x0305 20 false p s fun s t =>
    match s.senderFlask t, s.commandPages t (p.u48 16) (p.u64 24) with
    | none, _ => notPermitted
    | _, .error d => .reject 3 d
    | some f, .ok ps =>
      if s.pacedMaps ps then .reject 3 8 else ok (overPages (fun k => pageEvent k (.unpin f)) ps s)

/-- [log 64 DEDUCED] -/
def execMove (p : Packet) (s : State) : Host.Outcome State Fault Refusal :=
  commandMoves 0x0306 20 false p s fun s t =>
    let op := p.u8 12
    let tier := p.u8 13
    let stack := if p.u8 14 = 0xFF then 4 else p.u8 14
    if 2 < op ∨ 3 < tier ∨ 4 < stack then reserved
    else match s.senderFlask t, s.commandPages t (p.u48 16) (p.u64 24) with
      | none, _ => notPermitted
      | _, .error d => .reject 3 d
      | some f, .ok ps =>
        if s.pacedMaps ps then .reject 3 8
        else if op = 0 then
          if tier = 0 ∨ ps.any fun k => (s.page k).homeTier ≤ tier then .reject 3 0x0B
          else if s.quotaOf f tier < s.charge f tier + s.claimUnits f tier true ps ∧ 0 < s.claimUnits f tier true ps then
            .reject 3 1
          else if !s.pinRoom f tier (s.claimUnits f tier false ps) ∧ 0 < s.claimUnits f tier false ps then .reject 3 2
          else waitPages t ps (.raised tier)
            (overPages (fun k => pageEvent k (.raise f t.ctx tier stack none false none)) ps s)
        else if op = 1 then
          waitPages t ps (.lowered f) (overPages (fun k => pageEvent k (.lower f tier)) ps s)
        else if tier = 0 ∨ ps.any fun k => (s.page k).ctx ≠ t.ctx ∨ (tier = 3 ∧ !(s.page k).big) then .reject 3 0x0B
        else
          let units := ps.foldl (fun k a => k + if (s.page a).homeTier = tier then 0 else unitsOf (s.page a).big) 0
          if !s.roomFor f t.ctx tier units ∧ 0 < units then .reject 3 1
          else waitPages t ps (.homed tier)
            (overPages (fun k => pageEvent k (.rehome f t.ctx tier stack)) ps s)

/-- A set of flasks as bits. -/
def flaskBits (fs : List Nat) : Nat := fs.dedup.foldl (fun k f => k + 2 ^ f) 0

/-- [log 64 DEDUCED] -/
def execQueryTranslation (p : Packet) (s : State) : Host.Outcome State Fault Refusal :=
  command 0x0307 10 false p s fun s t =>
    match s.senderFlask t, s.mapAt t.ctx (p.u48 16) with
    | none, _ => notPermitted
    | _, none => .reject 3 6
    | some f, some m =>
      let k := m.pageAt (p.u48 16)
      let x := s.page k
      let pinning := x.pins.map (·.1) ++ (x.claims.filter fun c => c.pin || c.flask ≠ x.owner).map (·.flask)
      let tier := min (x.claimOf f) (if x.owner = f then x.homeTier else 3)
      ok s (leBytes 8 (s.pte m k) ++ leBytes 2 (flaskBits (s.refFlasks k)) ++ leBytes 2 (flaskBits pinning) ++ leBytes 1 tier)

def execSetContextQuota (p : Packet) (s : State) : Host.Outcome State Fault Refusal :=
  command 0x0308 8 true p s fun s _ =>
    let c := p.u16 12
    let tier := p.u8 14
    if 1024 ≤ c ∨ tier = 0 ∨ 3 < tier then reserved
    else if (s.ctx c).state = .free then .reject 1 8
    else ok { s with mem := { s.mem with ctxQuota := Tab.set 0xFFFFFFFF s.mem.ctxQuota (4 * c + tier) (p.u32 16) } }

def execQueryMemory (p : Packet) (s : State) : Host.Outcome State Fault Refusal :=
  command 0x0309 4 false p s fun s t =>
    let f := p.u8 12
    let tier := p.u8 13
    let c := p.u16 14
    if 15 < f ∨ tier = 0 ∨ 3 < tier ∨ (1024 ≤ c ∧ c ≠ 0x3FF) then reserved
    else if s.sender p ≠ 0 ∧ !s.isTenant t f then notPermitted
    else ok s (leBytes 4 (s.quotaOf f tier) ++ leBytes 4 (s.charge f tier) ++ leBytes 4 (s.pinQuotaOf f tier)
      ++ leBytes 4 (s.pinCharge f tier) ++ leBytes 4 (if c = 0x3FF then 0 else s.ctxCharge c tier))

def State.memSource (s : State) (k : Nat) : MemSource := s.mem.sources.getD k {}
def State.setMemSource (s : State) (k : Nat) (x : MemSource) : State :=
  { s with mem := { s.mem with sources := s.mem.sources.set k x } }

def execSetErrorPolicy (p : Packet) (s : State) : Host.Outcome State Fault Refusal :=
  command 0x030A 8 true p s fun s _ =>
    let k := p.u8 12
    let th := p.u8 13
    let w := p.u32 16
    if 4 < k then reserved
    else if th < 2 ∨ 64 < th ∨ w < 10 ∨ 60000 < w then .reject 3 0x0D
    else ok (s.setMemSource k { s.memSource k with threshold := th, windowMs := w })

/-- Pages on stack `n`, and free frames on the other stacks in service. -/
def State.unitsOnStack (s : State) (n : Nat) : Nat :=
  (s.mem.pages.flatMap fun x => x.2.frames).foldl (fun k a =>
    if stackBase n ≤ a.1 ∧ a.1 < stackEnd n then k + a.2 else k) 0

/-- Stack `n` can be emptied onto the other stacks (R371). -/
def State.mayEvacuate (s : State) (n : Nat) : Bool :=
  let others := [0, 1, 2, 3].filter fun m => m ≠ n ∧ s.stackOpen m = true
  decide (s.unitsOnStack n ≤ others.foldl (fun k m => k + (0x60000 - s.unitsOnStack m
    - 256 * (s.outUnits.filter fun r => decide (r.kind = 5 ∧ r.unit = m)).length)) 0)

def execEvacuateStack (p : Packet) (s : State) : Host.Outcome State Fault Refusal :=
  commandMoves 0x030B 1 true p s fun s t =>
    let n := p.u8 12
    if 3 < n then reserved
    else if !s.dieEmpty n ∨ !s.mayEvacuate n ∨ s.mem.evac.any (fun e => decide (e.stack = n)) then .reject 3 0x0E
    else .later { s with mem := { s.mem with evac := s.mem.evac ++ [{ stack := n, ticket := some t }] } }

/-! ### The Migration Engine (Table 10.4) -/

/-- An entry in flight at the head of a queue, of a given operation. -/
def State.entryOf (s : State) (e q k op : Nat) : Option (PourRun × Entry) :=
  match (s.queue e q).pours.head? with
  | none => none
  | some r => match r.entries[k]? with
    | some en => if r.inFlight.contains k ∧ en.op % 4096 = op then some (r, en) else none
    | none => none

/-- A fault of an entry: its job faults; a pour that a command submitted leaves its queue (Table 5.11). -/
def entryFault (e q : Nat) (r : PourRun) (cause : Nat) (s : State) : State :=
  match r.job with
  | some j => jobFault j cause s
  | none =>
    let f := s.flask r.flask
    let s1 := s.setQueue e q { s.queue e q with pours := (s.queue e q).pours.drop 1 }
    if f.cls = 0 ∧ 2 ≤ f.tenants.length then contextTeardown r.ctx s1 else flaskReset r.flask none s1

/-- Notes what an operation's own output is. -/
def noteOwn (e q k : Nat) (o : OutState) (s : State) : State :=
  match (s.queue e q).pours.head? with
  | none => s
  | some r => setHead e q { r with own := Tab.put r.own k o } s

/-- POISON_HIT: the owner and every context that references the page are told, the attention log gives the address,
the flask's count rises (R362). [log 66 DEDUCED] -/
def poisonHit (f c va : Nat) (s : State) : State :=
  let k := match s.mapAt c va with | some m => m.pageAt va | none => 0
  let told := ((s.page k).ctx :: s.refCtxs k).dedup
  let s := overList (fun d s => setEvent d 27
    { s with host := { s.host with cause := s.host.cause ||| BitVec.ofNat 16 (2 ^ 13) } }) told s
  let s := pushLog ⟨s.now, 13, 3, 0, c, va⟩ s
  let x := Tab.get MoveCount.rest s.mem.counts f
  { s with mem := { s.mem with counts := Tab.put s.mem.counts f { x with poisonHits := satInc x.poisonHits } } }

/-- The first poisoned address of a range. [log 66 DEDUCED] -/
def State.poisonIn (s : State) (c va n : Nat) : Option Nat :=
  match s.pagesOf c va n with
  | none => none
  | some ps => (ps.flatMap fun (x : Mapping × Nat) =>
      let pg := s.page x.2
      let start := match x.1.pages.findIdx? (· = x.2) with | some i => x.1.va + i * bytesOf x.1.big | none => x.1.va
      (pg.servingPoison.map fun l => start + l * pg.lineBytes).filter fun a =>
        decide (a < va + n ∧ va < a + pg.lineBytes)).head?

/-- What an access of an entry meets: nothing, a fault cause of Table 5.12 (R338, R362). -/
def State.accessFault (s : State) (c va n : Nat) (write : Bool) : Option Nat :=
  match s.pagesOf c va n with
  | none => some 2
  | some ps => if ps.any fun x => write && !x.1.write then some 2
    else if ps.any fun x => decide ((s.page x.2).mstate = .lost) then some 3 else none

/-- Migration Engine COPY: `bytes` from TA to TB. Whole lines written lose their poison; a poisoned line that is read
is a poison hit (R351, R362). [log 66 DEDUCED] -/
def execCopy (queue entry bytes : Nat) (s : State) : Host.Outcome State Fault Refusal :=
  match s.entryOf 2 queue entry 1 with
  | none => next s
  | some (r, en) =>
    let a := en.tensors.getD 0 0
    let b := en.tensors.getD 1 0
    match s.accessFault r.ctx a bytes false, s.accessFault r.ctx b bytes true with
    | some c, _ => nextSweep (entryFault 2 queue r c s)
    | _, some c => nextSweep (entryFault 2 queue r c s)
    | none, none => match s.poisonIn r.ctx a bytes with
      | some va => nextSweep (entryFault 2 queue r 3 (poisonHit r.flask r.ctx va s))
      | none => next (addMoved r.flask bytes (vwrite r.ctx b (s.vread r.ctx a bytes) (unpoison r.ctx b bytes s)))

/-- Bytes of a pattern repeated. -/
def repeatBytes (pat : List Byte) (n : Nat) : List Byte := (List.range n).map fun i => pat.getD (i % 4) 0

/-- Migration Engine FILL: the 4-byte pattern over `bytes` at TA (R351). A poisoned line that is written in part is
read first. [log 66 DEDUCED] -/
def execFill (queue entry bytes pattern : Nat) (s : State) : Host.Outcome State Fault Refusal :=
  match s.entryOf 2 queue entry 2 with
  | none => next s
  | some (r, en) =>
    let a := en.tensors.getD 0 0
    match s.accessFault r.ctx a bytes true with
    | some c => nextSweep (entryFault 2 queue r c s)
    | none =>
      let s1 := unpoison r.ctx a bytes s
      match s1.poisonIn r.ctx a bytes with
      | some va => nextSweep (entryFault 2 queue r 3 (poisonHit r.flask r.ctx va s))
      | none => next (vwrite r.ctx a (repeatBytes (leBytes 4 pattern) bytes) s1)

/-- RAISE: places the flask's claim on `tier`; the entry completes once every page serves from there (R351). -/
def execRaise (queue entry pages tier stack : Nat) (place : List (Nat × Nat × Nat)) (s : State) :
    Host.Outcome State Fault Refusal :=
  match s.entryOf 2 queue entry 3 with
  | none => next s
  | some (r, en) =>
    match s.pagesOf r.ctx (en.tensors.getD 0 0) (65536 * pages) with
    | none => nextSweep (entryFault 2 queue r 2 s)
    | some ms =>
      let ps := ms.map (·.2)
      let frames := place.map fun x => t0Frame x.1 x.2.1 x.2.2
      if tier = 0 ∧ ps.any (fun k => 2 ≤ (s.refFlasks k).length) then
        nextSweep (entryFault 2 queue r 1 s)
      else if !s.raiseFits r.flask tier r.job ps then nextSweep (entryFault 2 queue r 1 s)
      else nextMoves (entryWaits 2 queue entry ps (.raised tier)
        (raisePages r.flask r.ctx tier (if stack = 0xFF then 4 else stack) r.job false frames ps s))

/-- LOWER: drops the flask's claim, or lowers it to `tier` (R351). -/
def execLower (queue entry pages tier : Nat) (s : State) : Host.Outcome State Fault Refusal :=
  match s.entryOf 2 queue entry 4 with
  | none => next s
  | some (r, en) =>
    match s.pagesOf r.ctx (en.tensors.getD 0 0) (65536 * pages) with
    | none => nextSweep (entryFault 2 queue r 2 s)
    | some ms =>
      nextMoves (entryWaits 2 queue entry (ms.map (·.2)) (.lowered r.flask)
        (overPages (fun k => pageEvent k (.lower r.flask tier)) (ms.map (·.2)) s))

/-- REHOME: moves the home of the owner's pages (R351). -/
def execRehome (queue entry pages tier stack : Nat) (s : State) : Host.Outcome State Fault Refusal :=
  match s.entryOf 2 queue entry 5 with
  | none => next s
  | some (r, en) =>
    match s.pagesOf r.ctx (en.tensors.getD 0 0) (65536 * pages) with
    | none => nextSweep (entryFault 2 queue r 2 s)
    | some ms =>
      let ps := ms.map (·.2)
      if ps.any fun k => (s.page k).owner ≠ r.flask then nextSweep (entryFault 2 queue r 1 s)
      else nextMoves (entryWaits 2 queue entry ps (.homed tier)
        (overPages (fun k => pageEvent k (.rehome r.flask r.ctx tier (if stack = 0xFF then 4 else stack))) ps s))

/-! ### Events of the tiers -/

/-- A page copy completes (R355, R356). [log 63 DEDUCED] -/
def execMigrationCopyComplete (page : Nat) (s : State) : Host.Outcome State Fault Refusal :=
  -- at the flash limit, writes to T3 are stopped (Table 16.7)
  let stopped := s.pa.atLimit.getLsbD 10 && (s.page page).dest.any fun d => decide (d.tier = 3)
  if stopped then next s else nextMoves (kvCopyDone page (copyComplete page s))

/-- A freed frame has been cleared; commands that wait for it may complete (R333). -/
def execFrameClearComplete (frame : Nat) (s : State) : Host.Outcome State Fault Refusal :=
  let s := { s with mem := { s.mem with
    clearing := s.mem.clearing.filter fun c => c.1 ≠ frame
    waitClear := s.mem.waitClear.map fun (w : Ticket × List Byte × List Nat) => (w.1, w.2.1, w.2.2.filter (· ≠ frame)) } }
  let ready := s.mem.waitClear.filter fun w => w.2.2.isEmpty
  let s := { s with mem := { s.mem with waitClear := s.mem.waitClear.filter fun w => !w.2.2.isEmpty } }
  next (ready.foldl (fun s (w : Ticket × List Byte × List Nat) => finish w.1 0 3 0 w.2.1 s) s)

/-- The retirement kind of the unit of a memory error source (R596), the unit's die or stack, and its index.
[log 62 DEDUCED] -/
def memUnit (source unit : Nat) : Nat × Nat × Nat :=
  if source = 0 then (0, unit / (144 * 48), unit / 48 % 144)
  else if source = 1 then (5, unit / 1536, unit % 1536)
  else if source = 2 then (6, 0, unit % 128)
  else if source = 3 then (9, 0, unit)
  else (7, 0, unit)

/-- A core site leaves service now: out of the order and the spares, into the record (R18, R364). -/
def retireSiteNow (n p : Nat) (s : State) : State :=
  let d := s.die n
  let s := if s.isRetired 0 n p then s else retire 0 n p s
  let wasActive := d.order.contains p
  let wasSpare := d.spares.contains p
  s.setDie n { d with order := d.order.filter (· ≠ p), spares := d.spares.filter (· ≠ p)
                      active := if wasActive then d.active - 1 else d.active
                      reserve := if wasSpare then d.reserve - 1 else d.reserve
                      retiredCount := d.retiredCount + 1 }

/-- The flask that holds a core site. -/
def State.holderOf (s : State) (n p : Nat) : Option Nat :=
  flaskNums.find? fun f => (s.flask f).committed.cores.contains (n, p) || (s.c3 f).slackSites.contains (n, p)

/-- A core site that is a lasting fault: retired at its flask's next parting line, or at once where none holds it
(Table 10.12). -/
def retireSite (n p : Nat) (s : State) : State :=
  if s.isRetired 0 n p then s
  else match s.holderOf n p with
    | some f => s.setFlask f { s.flask f with retireDue := ((s.flask f).retireDue ++ [(n, p)]).dedup }
    | none => retireSiteNow n p s

/-- A memory unit is a lasting fault: retired, LASTING_FAULT raised (R364). -/
def memLasting (source unit : Nat) (s : State) : State :=
  let (kind, u, i) := memUnit source unit
  let s := lastingFault 3 0 u i s
  if kind = 0 then retireSite u i s else if s.isRetired kind u i then s else retire kind u i s

/-- Poisons a line of the page on a frame (R362). -/
def poisonFrame (frame line : Nat) (s : State) : State :=
  overPages (fun k s =>
    let x := s.page k
    let at_ := fun (a : Nat) => decide (a ≤ frame ∧ frame < a + unitsOf x.big)
    let off := fun (a : Nat) => (frame - a) * 1024 + line
    if at_ x.homeFrame then
      s.setPage k { x with poison := (x.poison ++ [if x.homeTier = 3 then off x.homeFrame / 64 else off x.homeFrame]).dedup }
    else match x.copyAt with
      | some (_, a) => if at_ a then s.setPage k { x with copyPoison := (x.copyPoison ++ [off a]).dedup } else s
      | none => s) s.pageNums s

/-- A memory error of source `k` of Table 10.11 at a unit: correctable, counted in the leaky counter; uncorrectable, a
lasting fault at once with its line poisoned (R361 to R364). `reader` is the job whose step read the line.
[log 67 DEDUCED] -/
def execMemoryError (source unit : Nat) (uncorrectable : Bool) (frame line : Nat) (reader : Option Nat) (s : State) :
    Host.Outcome State Fault Refusal :=
  let x := s.memSource source
  if 4 < source then next s
  else if !uncorrectable then
    let n := Tab.get 0 x.leaky unit + 1
    let full := decide (x.threshold ≤ n)
    let s := s.setMemSource source { x with corrected := satInc x.corrected
                                            leaky := Tab.set 0 x.leaky unit (if full then 0 else n) }
    nextMoves (if full then memLasting source unit s else s)
  else
    let s := memLasting source unit (s.setMemSource source { x with uncorrected := satInc x.uncorrected })
    let s := if source = 4 then s else poisonFrame frame line s
    match reader with
    | none => nextMoves s
    | some j =>
      if source = 4 then nextMoves (jobFault j 2 s)
      else if (s.flask (s.job j).flask).cls = 3 then nextMoves s
      else
        let y := s.job j
        let hit := (s.mem.maps.find? fun m => decide (m.ctx = y.owner) && m.pages.any fun k =>
          (s.page k).frames.any fun a => decide (a.1 ≤ frame ∧ frame < a.1 + a.2)).map (·.va)
        nextMoves (jobFault j 3 (poisonHit y.flask y.owner (hit.getD 0) s))

/-- The patrol scrubber has read and corrected every line of a store in place (R366): 0 core stores, 1 T1, 2 T2, 3
translation store, 4 T3. Errors it finds are MEMORY_ERROR events. [log 67 DEDUCED] -/
def execScrubPass (store : Nat) (s : State) : Host.Outcome State Fault Refusal :=
  next { s with mem := { s.mem with scrubs := Tab.put s.mem.scrubs store (Tab.get 0 s.mem.scrubs store + 1) } }

/-- A relocation copy completes (R365); an evacuation counts its pages. -/
def execRelocationComplete (page : Nat) (s : State) : Host.Outcome State Fault Refusal :=
  if !(s.toRelocate.contains page) then next s
  else
    let t := relocate page s
    let t := { t with mem := { t.mem with evac := t.mem.evac.map fun e =>
      if ((s.page page).frames.any fun a => decide (stackBase e.stack ≤ a.1 ∧ a.1 < stackEnd e.stack))
          && !((t.page page).frames.any fun a => decide (stackBase e.stack ≤ a.1 ∧ a.1 < stackEnd e.stack))
      then { e with moved := e.moved + 1 } else e } }
    nextMoves t

end Sys2Proof.Machine
end

