-- ==== Sys2Proof/Machine/LoadCmds.lean ====
section
/-!
DEFINITION. Loading pour images, submitting pours, tile programs and tile tasks (spec 05_execution_model.md R151 to R154,
R164, R175, R191; the load checks of spec 06 to 10, 17; R611).
-/

namespace Sys2Proof.Machine

/-! ### Checks of entries (R154, R611) -/

/-- Operation codes of an engine (Table 19.4), with NOP. -/
def opCodes : Nat → List Nat
  | 1 => [0, 0x010, 0x013, 0x014, 0x015, 0x020, 0x021, 0x022, 0x030, 0x031, 0x032, 0x033, 0x034, 0x035, 0x036, 0x037,
          0x040, 0x060, 0x061, 0x062, 0x063]
  | 2 => [0, 1, 2, 3, 4, 5]
  | 3 => [0, 1]
  | 4 => [0, 1, 2]
  | 5 => [0, 1, 2, 3, 4, 5, 6]
  | 6 => [0, 1]
  | 7 => [0, 1, 2]
  | _ => []

/-- The flask may wait on an object: its holding flask, or one of its waiter mask. -/
def State.mayWait (s : State) (f o : Nat) : Bool :=
  let x := s.sync o
  x.kind ≠ .free && (decide (x.holder = f) || x.waiters.getLsbD f)

/-- An entry breaks none of the rules of R154 and R611. -/
def State.entryValid (s : State) (f e params : Nat) (x : Entry) : Bool :=
  x.wellFormed && decide (x.op / 4096 = e ∧ x.op < 65536) && (opCodes e).contains (x.op % 4096)
    && decide (x.param < params)
    && x.waits.all (fun w => s.mayWait f w.object)
    && x.signals.all (fun g => let y := s.sync g.object
        decide (y.holder = f) && actionOk y.kind g.action && amountOk y.kind g.amount)

/-- A pour of 1 to 65,536 valid entries on a queue that the engine has (R150, R154). -/
def State.pourValid (s : State) (f : Nat) (p : Pour) : Bool :=
  decide (1 ≤ p.entries.length ∧ p.entries.length ≤ 65536 ∧ p.queue < queueCount p.engine)
    && p.entries.all (s.entryValid f p.engine p.params)

/-- The ENGINE_MISSING bit of an engine (Table 3.11). -/
def missingBit : Nat → Option Nat
  | 2 => some 5 | 3 => some 0 | 4 => some 1 | 5 => some 2 | 6 => some 3 | 7 => some 4
  | _ => none

/-- The engine's bit is set in ENGINE_MISSING (R95). -/
def State.engineGone (s : State) (e : Nat) : Bool :=
  match missingBit e with
  | some b => s.sup.engineMissing.getLsbD b
  | none => false

/-! ### Checks of images (R164, R272, R353, R354) -/

def Segment.finish (x : Segment) : Nat := x.va + x.bytes

/-- The home tier of the pages of a descriptor's range: one segment or one mapping of the context holds it (R354). -/
def State.rangeHome (s : State) (c : Nat) (im : PourImage) (va n : Nat) : Option Nat :=
  match im.segments.find? fun g => !g.extern && decide (g.va ≤ va ∧ va + n ≤ g.finish) with
  | some g => some g.home
  | none => match s.mem.maps.find? fun m => decide (m.ctx = c ∧ m.va ≤ va ∧ va + n ≤ m.va + m.bytes) with
    | some _ => some ((s.pagesOf c va n).getD [] |>.foldl (fun t x => min t (s.page x.2).homeTier) 3)
    | none => none

/-- A descriptor breaks none of the rules of R353 and R354. -/
def State.descriptorValid (s : State) (f c : Nat) (im : PourImage) (d : Prefetch) : Bool :=
  match s.rangeHome c im d.va (65536 * d.pages) with
  | none => false
  | some home =>
    (d.lower || decide (d.tier < home)) && !(home = 3 && (im.paced || decide (1 ≤ (s.flask f).cls)))
      && (d.tier ≠ 0 || decide (d.place.length = d.pages) && d.place.all fun p => decide (1 ≤ im.cores.getD p.1 0))

/-- A segment lies in the general region and is aligned (Table 10.3, R272, R334); T3 segments have pages of 2 MiB and
belong to no paced or C1 to C3 flask (R353). -/
def State.segmentValid (s : State) (f : Nat) (im : PourImage) (g : Segment) : Bool :=
  rangeValid g.va g.bytes g.big && decide (1 ≤ g.home ∧ g.home ≤ 3 ∧ g.stack ≤ 4 ∧ g.init.length ≤ g.bytes)
    && (g.home ≠ 3 || (g.big && !im.paced && decide ((s.flask f).cls = 0)))

/-- Cores the flask holds on a die. -/
def State.coresHeld (s : State) (f n : Nat) : Nat :=
  ((s.flask f).committed.cores.filter fun c => decide (c.1 = n)).length

/-- The image is refused with IMAGE_INVALID (R164 and the rules it is joined by). [log 30 DESIGN CHOICE] -/
def State.imageInvalid (s : State) (f c : Nat) (im : PourImage) : Bool :=
  let x := s.flask f
  !im.hashOk || im.broken ≠ []
    || !im.pours.all (s.pourValid f)
    || im.pours.any (fun p => s.engineGone p.engine)
    || dieNums.any (fun n => decide (s.coresHeld f n < im.cores.getD n 0))
    || (im.paced != (x.mode = .paced : Bool))
    || (im.paced && (decide (im.spanUs ≠ x.spanUs) || im.parting.isEmpty || im.period = 0 || decide (65536 < im.period)))
    || im.edges.any (fun k => decide (k = 0 ∨ 16 < k))
    || !im.segments.all (s.segmentValid f im)
    || !im.prefetch.all (s.descriptorValid f c im)
    || (x.cls = 3 && decide (16 < im.slack))
    || !im.uses.all (s.spatialOwned f) || !im.uses.all (s.controlOwned f)
    || im.takes.any (fun (y : Nat × Nat) => let u := s.tundish y.1
        !u.used || decide (u.flask ≠ f) || decide (u.windowVa ≠ y.2))

/-! ### Loading -/

/-- Pages that an image maps. -/
def PourImage.pageCount (im : PourImage) : Nat := im.segments.foldl (fun k g => k + g.bytes / bytesOf g.big) 0

/-- Locked entries of loaded paced images on a die (R337). -/
def State.lockedOn (s : State) (n : Nat) : Nat :=
  s.ex.jobs.foldl (fun k (x : Nat × Job) =>
    if x.2.used ∧ x.2.image.paced ∧ 1 ≤ x.2.image.cores.getD n 0 then k + x.2.image.pageCount else k) 0

/-- An EXTERN segment matches a mapping of the context (R340). -/
def State.externMatch (s : State) (c : Nat) (g : Segment) : Bool :=
  s.mem.maps.any fun m => decide (m.ctx = c ∧ m.va = g.va ∧ m.bytes = g.bytes ∧ m.big = g.big) && (m.write || !g.write)

/-- Maps the segments of an image and writes their data; answers the frames, or the detail of area 0x03 (R340, R341). -/
def mapSegments (f c j : Nat) : List Segment → State → List Nat → Except Nat (State × List Nat)
  | [], s, fr => .ok (s, fr)
  | g :: gs, s, fr =>
    if g.extern then mapSegments f c j gs s fr
    else match mapNew f c g.home g.stack false g.big g.va g.bytes (some j) g.write false s with
      | .error d => .error d
      | .ok (s1, a) => mapSegments f c j gs (vwrite c g.va g.init s1) (fr ++ s1.uncleared a g.big)

/-- The tables that the image's gathers name exist and the flask may read them (R314). -/
def State.tablesOk (s : State) (f : Nat) (im : PourImage) : Bool :=
  im.tables.all fun k => let t := Tab.get MapTable.rest s.ta.maps k
    t.created && (decide (t.owner = f) || t.readers.getLsbD f)

/-- Loads an image into a flask for a context, as LOAD_POUR_IMAGE and RELOAD_FLASK do: the state, the job and the frames to
be cleared, or area and detail of the refusal. `old` is the job whose streams the new one may keep (R593).
[log 30 DESIGN CHOICE] -/
def loadImage (f c : Nat) (im : PourImage) (old : Option Nat) (s : State) : Except (Nat × Nat) (State × Nat × List Nat) :=
  if s.imageInvalid f c im then .error (2, 2)
  else if im.digest ≠ moduleDigest s then .error (2, 3)
  else if im.training ∧ (s.flask f).cls ≠ 0 then .error (2, 7)
  else if !s.tablesOk f im then .error (2, 2)
  else if im.segments.any fun g => !g.extern && s.rangeUsed c g.va g.bytes then .error (3, 4)
  else if im.segments.any fun g => g.extern && !s.externMatch c g then .error (3, 6)
  else if im.prefetch.any fun d => d.tier = 0 && !d.lower && ((s.pagesOf c d.va (65536 * d.pages)).getD []).any
      fun x => (s.refFlasks x.2).any fun g => g ≠ f then .error (3, 0x0C)
  else match lowest (fun k => !(s.job k).used) 4096 0 with
    | none => .error (1, 0x0A)
    | some j =>
      if 16384 < s.ta.streams.length + im.streams.length then .error (1, 0x0A)
      else if im.paced ∧ dieNums.any fun n => decide (1 ≤ im.cores.getD n 0 ∧ 8192 < s.lockedOn n + im.pageCount) then
        .error (3, 0x0A)
      else
        let s1 := s.setJob j { Job.rest with used := true, owner := c, flask := f, image := im }
        if [0, 1, 2].any fun t => decide (1 ≤ t ∧ (s1.quotaOf f t < s1.charge f t ∧ s.charge f t < s1.charge f t)) then
          .error (3, 1)
        else if [1, 2].any fun t => decide (s1.pinQuotaOf f t < s1.pinCharge f t ∧ s.pinCharge f t < s1.pinCharge f t) then
          .error (3, 2)
        else match mapSegments f c j im.segments s1 [] with
          | .error d => .error (3, d)
          | .ok (s2, frames) => .ok (bindStreams j old s2, j, frames)

/-- LOAD_POUR_IMAGE: `image` is what the module finds at the address that the packet gives.
[log 30 DESIGN CHOICE, 32 DEDUCED] -/
def execLoadPourImage (p : Packet) (image : PourImage) (s : State) : Host.Outcome State Fault Refusal :=
  command 0x0210 16 false p s fun s t =>
    let f := p.u8 12
    if 15 < f ∨ 1 < p.u8 13 then reserved
    else if !s.isTenant t f then notPermitted
    else if (s.flask f).state = .empty ∨ (s.flask f).state = .resetting then .reject 2 4
    else if (s.flask f).mode = .tile then .reject 2 7
    else match loadImage f t.ctx image none s with
      | .error (a, d) => .reject a d
      | .ok (s1, j, frames) =>
        let x := s1.flask f
        let s2 := if x.state = .created then s1.setFlask f { x with state := .loaded } else s1
        if frames.isEmpty then ok s2 (leBytes 2 j)
        else .later { s2 with mem := { s2.mem with waitClear := s2.mem.waitClear ++ [(t, leBytes 2 j, frames)] } }

/-! ### Pours from memory (Tables 5.2 to 5.4) -/

/-- A WAIT field; bits 15:14 are reserved. -/
def waitOf (v : Nat) : WaitField × Bool := (⟨v % 16384, v / 65536⟩, decide (bitsOf v 15 14 = 0))

def signalOf (v : Nat) : SignalField := ⟨v % 16384, bitsOf v 15 14, v / 65536⟩

/-- Bytes `a` to `a + n - 1` as a number. -/
def fieldOf (bs : List Byte) (a n : Nat) : Nat := leNat ((bs.drop a).take n)

/-- Adds an extension entry to its base entry (Table 5.3). -/
def Entry.extend (x : Entry) (bs : List Byte) : Entry :=
  let c := fieldOf bs 3 1
  let ts := [fieldOf bs 4 6, fieldOf bs 10 6].take (c % 4)
  let ws := ([fieldOf bs 16 4, fieldOf bs 20 4].take (c / 4 % 4)).map waitOf
  let gs := ([fieldOf bs 24 4, fieldOf bs 28 4].take (c / 16 % 4)).map signalOf
  { x with
    tensors := x.tensors ++ ts, waits := x.waits ++ ws.map (·.1), signals := x.signals ++ gs
    wellFormed := x.wellFormed && decide (fieldOf bs 2 1 = 0 ∧ c / 64 = 0 ∧ c % 4 < 3 ∧ c / 4 % 4 < 3 ∧ c / 16 % 4 < 3)
      && ws.all (·.2) }

/-- Reads a base entry (Table 5.2). -/
def Entry.ofBase (bs : List Byte) : Entry :=
  let fl := fieldOf bs 2 1
  let c := fieldOf bs 3 1
  let w := waitOf (fieldOf bs 24 4)
  { op := fieldOf bs 0 2, onAbandonSkip := bitAt fl 0, overlap := bitAt fl 1, result := bitAt fl 2
    tensors := [fieldOf bs 4 6, fieldOf bs 10 6, fieldOf bs 16 6].take (c % 4)
    param := fieldOf bs 22 2
    waits := if bitAt c 2 then [w.1] else []
    signals := if bitAt c 3 then [signalOf (fieldOf bs 28 4)] else []
    wellFormed := decide (fl / 8 = 0 ∧ c / 64 = 0) && (!bitAt c 2 || w.2) }

/-- Reads entries: each base entry takes the extension entries that it counts; an extension entry elsewhere, or a missing
one, is malformed (R154). [log 32 DEDUCED] -/
def readEntries : Nat → List (List Byte) → List Entry
  | 0, _ => []
  | _ + 1, [] => []
  | n + 1, b :: bs =>
    let k := fieldOf b 3 1 / 16 % 4
    let exts := bs.take k
    let whole := decide (exts.length = k) && exts.all fun e => decide (fieldOf e 0 2 = 0xF000)
    let x := exts.foldl Entry.extend (Entry.ofBase b)
    { x with wellFormed := x.wellFormed && whole } :: readEntries n (bs.drop k)

/-- SUBMIT_POUR: the entries are read from the sender's memory. What only parameter records say of an entry that delivers a
result (its class, what it derives from) is `results`, by entry index; `params` is the size of the parameter table.
[log 32 DEDUCED] -/
def execSubmitPour (p : Packet) (params : Nat) (results : List (Nat × Nat × List Source)) (s : State) :
    Host.Outcome State Fault Refusal :=
  commandThen sweepClosing 0x0230 24 false p s fun s t =>
    let n := p.u32 24
    let raw := readEntries n (chunks 32 n (s.vread t.ctx (p.u64 16) (32 * n)))
    let e := (raw.headD { op := 0 }).op / 4096
    let q := p.u8 12
    let entries := ((List.range raw.length).zip raw).map fun (x : Nat × Entry) =>
      match results.find? fun r => decide (r.1 = x.1) with
      | some r => { x.2 with cls := r.2.1, sources := r.2.2 }
      | none => x.2
    if 64 ≤ q ∨ n = 0 ∨ 65536 < n then reserved
    else if s.safe.safeState then safeRefusal
    else match s.senderFlask t with
      | none => notPermitted
      | some f =>
        let x := s.flask f
        if x.mode ≠ .free ∨ x.cls ≠ 0 then .reject 2 7
        else if !s.rangeOk t.ctx (p.u64 16) (32 * n) false then .reject 3 6
        else if s.engineGone e ∨ !s.pourValid f ⟨e, q, entries, params⟩ ∨ !x.committed.queues.contains (e, q) then
          .reject 2 2
        else if 17 ≤ (s.queue e q).pours.length then .reject 2 0x0F
        else ok (enqueue e q { job := none, ctx := t.ctx, flask := f, entries := entries } s)

/-! ### Tile tasks (R175) -/

/-- LOAD_TILE_PROGRAM: the FK2 program is accepted without recompilation. [log 32 DEDUCED] -/
def execLoadTileProgram (p : Packet) (s : State) : Host.Outcome State Fault Refusal :=
  command 0x0231 16 false p s fun s t =>
    let f := p.u8 12
    let x := s.flask f
    if 15 < f ∨ 1 < p.u8 13 then reserved
    else if !s.isTenant t f then notPermitted
    else if x.mode ≠ .tile ∨ x.cls ≠ 0 then .reject 2 7
    else if x.state = .resetting then .reject 2 4
    else ok (s.setFlask f { x with tileProgram := true, state := if x.state = .created then .loaded else x.state })

/-- SUBMIT_TILES: `tasks` are the descriptors as the module reads them: the core whose store holds the input tile, and the
working set in bytes. [log 32 DEDUCED] -/
def execSubmitTiles (p : Packet) (tasks : List (Option (Nat × Nat) × Nat)) (s : State) : Host.Outcome State Fault Refusal :=
  command 0x0232 16 false p s fun s t =>
    let n := p.u32 24
    let ts := tasks.take n
    if s.safe.safeState then safeRefusal
    else match s.senderFlask t with
      | none => notPermitted
      | some f =>
        let x := s.flask f
        if x.mode ≠ .tile then .reject 2 7
        else if !x.tileProgram then .reject 2 4
        else if 4096 < x.tasks.length + ts.length then .reject 2 0x0F
        else if ts.any fun k => decide (0x100000 < k.2) then .reject 2 2
        else
          let y := { x with tasks := x.tasks ++ ts.map fun k => { ctx := t.ctx, hint := k.1 } }
          ok (dispatchTiles f (s.setFlask f y)) (leBytes 4 y.tasks.length)

/-- A task completes on its core, and the core takes the next task. -/
def execTileTaskComplete (flask : Nat) (core : Nat × Nat) (s : State) : Host.Outcome State Fault Refusal :=
  let x := s.flask flask
  next (dispatchTiles flask (s.setFlask flask { x with tasks := x.tasks.filter fun t => decide (t.core ≠ some core) }))

end Sys2Proof.Machine
end

