-- ==== Sys2Proof/Machine/TensorOps.lean ====
section
/-!
DEFINITION. Tensors as the Tensor Array's operations read and write them: elements with their scales, weights of the three
matrix paths, epilogues, rows converted to their stored format (spec 06_core_arithmetic.md).
-/

namespace Sys2Proof.Machine

/-- A value lies in a range. -/
def within (lo hi v : Nat) : Bool := decide (lo ≤ v ∧ v ≤ hi)

/-! ### Entries -/

/-- Tensor `i` of an entry: its descriptor with the address that the entry gives. -/
def Entry.tensor (en : Entry) (ts : List TDesc) (i : Nat) : TDesc := { ts.getD i {} with va := en.tensors.getD i 0 }

/-- The entry names tensor `i`. -/
def Entry.has (en : Entry) (i : Nat) : Bool := decide (i < en.tensors.length)

/-- An entry of the Tensor Array in flight with an operation code. -/
def State.arrayEntry (s : State) (queue entry op : Nat) : Option (PourRun × Entry) := s.entryOf 1 queue entry op

/-- The operation of an entry in flight that has not yet acted: what acts once notes its output. [log 51 DEDUCED] -/
def State.arrayOnce (s : State) (queue entry op : Nat) : Option (PourRun × Entry) :=
  match s.arrayEntry queue entry op with
  | some (r, en) => if r.own.any fun x => decide (x.1 = entry) then none else some (r, en)
  | none => none

/-- Notes that an operation has acted; its own part of the output adds nothing. -/
def noteActed (queue entry : Nat) (s : State) : State := noteOwn 1 queue entry { epoch := s.now } s

/-! ### Reading -/

/-- A little-endian number of `n` bytes at a virtual address. -/
def State.vnum (s : State) (c va n : Nat) : Nat := leNat (s.vread c va n)

/-- The stored code of element `i` of a tensor. -/
def State.code (s : State) (c : Nat) (t : TDesc) (i : Nat) : Nat := s.vnum c (t.va + i * t.fmt.bytes) t.fmt.bytes

/-- The scale exponent of a row and column (Table 6.5, R217); mode 5 takes it from the scale slot (R221). -/
def State.scaleOf (s : State) (c : Nat) (t : TDesc) (row col : Nat) : Int :=
  match t.scale with
  | 1 => t.fixedExp
  | 2 => twosVal 8 (s.vbyte c (t.scaleVa + row)).toNat
  | 3 => twosVal 8 (s.vbyte c (t.scaleVa + col)).toNat
  | 4 => twosVal 8 (s.vbyte c (t.scaleVa + row)).toNat
  | 5 => twosVal 8 (s.vbyte c t.scaleVa).toNat
  | _ => 0

/-- The value of element (row, col) of a matrix of `cols` columns, its scale applied (R203). [log 48 DEDUCED] -/
def State.elem (s : State) (c : Nat) (t : TDesc) (cols row col : Nat) : Num :=
  (t.fmt.decode (s.code c t (row * cols + col))).shift (s.scaleOf c t row col)

/-- As an FP32 code, as the EWP takes it (R223). [log 48 DEDUCED] -/
def State.elem32 (s : State) (c : Nat) (t : TDesc) (cols row col : Nat) : Nat := toF32 (s.elem c t cols row col)

/-- The code of weight (k, n) of a matrix of `rows` × `cols`, `part` matrices lying one after another. A W4 weight is the
codebook entry that its code selects (R202, R215). [log 48 DEDUCED] -/
def State.weight (s : State) (c : Nat) (t : TDesc) (rows cols part k n : Nat) : Nat :=
  if t.w4 then
    let g := (cols + 127) / 128
    let group := part * rows * g + k * g + n / 128
    let byte := (s.vbyte c (t.codes + 64 * group + n % 128 / 2)).toNat
    (s.vbyte c (t.books + 16 * group + (if n % 2 = 0 then byte % 16 else byte / 16))).toNat
  else s.code c t (part * rows * cols + k * cols + n)

/-! ### Matrix products (R209 to R216) -/

/-- A product takes the BF16 path where its weights are BF16. -/
def TDesc.bf16 (t : TDesc) : Bool := !t.w4 && decide (t.fmt = .bf16)

/-- One output of a product of activation codes by weight codes, in order of reduction: the exact accumulator read out with
both scales, or the BF16 path. -/
def product (fa fw : Fmt) (bf : Bool) (sa sw : Int) (ps : List (Nat × Nat)) : Num :=
  if bf then f32 (bf16Dot ps)
  else (ps.foldl (fun (a : Acc) (p : Nat × Nat) => a.add (fa.decode p.1) (fw.decode p.2)) {}).readout sa sw 0

/-! ### Epilogues (R224) -/

/-- [log 49 DEDUCED] -/
def EpFn.apply : EpFn → Nat → Nat → Nat → Nat
  | .add, v, b, _ => fadd v b
  | .sub, v, b, _ => fsub v b
  | .mul, v, b, _ => fmul v b
  | .fma, v, b, c => ffma v b c
  | .min, v, b, _ => fmin v b
  | .max, v, b, _ => fmax v b
  | .abs, v, _, _ => fabs v
  | .neg, v, _, _ => fneg v
  | .sqrt, v, _, _ => fsqrt v
  | .recip, v, _, _ => frecip v
  | .rsqrt, v, _, _ => frsqrt v
  | .exp2, v, _, _ => fexp2 v
  | .log2, v, _, _ => flog2 v
  | .tanh, v, _, _ => ftanh v
  | .sigmoid, v, _, _ => fsigmoid v
  | .sin, v, _, _ => fsin v
  | .cos, v, _, _ => fcos v

/-- An operand of the epilogue at an output's row and column. -/
def State.epSrc (s : State) (c : Nat) (cols row col : Nat) : EpSrc → Nat
  | .scalar v => v
  | .column t => s.elem32 c t cols 0 col
  | .row t => s.elem32 c t 1 row 0
  | .element t => s.elem32 c t cols row col

/-- The operand tensors of an epilogue with the addresses that the entry's TD and TE give: `column` the bias, `element` the
residual (Table 7.1). [log 49 DEDUCED] -/
def EpSrc.bind (en : Entry) : EpSrc → EpSrc
  | .column t => .column { t with va := en.tensors.getD 3 t.va }
  | .element t => .element { t with va := en.tensors.getD 4 t.va }
  | x => x

/-- Without an epilogue a value goes to conversion as it is; with one it is first rounded to FP32 (R212). [log 49 DEDUCED] -/
def State.epilogue (s : State) (c : Nat) (ep : List EpOp) (cols row col : Nat) (v : Num) : Num :=
  if ep.isEmpty then v
  else f32 (ep.foldl (fun x e => e.fn.apply x (s.epSrc c cols row col e.b) (s.epSrc c cols row col e.c)) (toF32 v))

/-! ### Writing (R204 to R206, R218, R221) -/

/-- Converts and writes one row of a tensor with its scale; answers the conversion counts. `exp` is the drift record's EXP. -/
def storeRow (c : Nat) (t : TDesc) (cols row : Nat) (exp : Int) (vals : List Num) (s : State) : State × Counts :=
  let so : Int := match t.scale with
    | 4 => rowScale t.fmt t.headroom vals
    | 5 => exp
    | _ => s.scaleOf c t row 0
  let s := match t.scale with
    | 4 => vwriteByte c (t.scaleVa + row) (BitVec.ofInt 8 so) s
    | 5 => vwriteByte c t.scaleVa (BitVec.ofInt 8 so) s
    | _ => s
  let out := ((List.range vals.length).zip vals).map fun (x : Nat × Num) =>
    t.store (row * cols + x.1) (x.2.shift (-(if t.scale = 3 then s.scaleOf c t row x.1 else so)))
  let bytes := out.flatMap fun (x : Nat × Counts) => leBytes t.fmt.bytes x.1
  (vwrite c (t.va + row * cols * t.fmt.bytes) bytes s, out.foldl (fun a (x : Nat × Counts) => a.add x.2) {})

/-- Adds conversion counts to a core's registers and to the drift record of the tensor written (R206, R235). -/
def countTensor (core : Nat × Nat) (job : Option Nat) (t : TDesc) (n : Counts) (s : State) : State :=
  let s := countSite core.1 core.2 n s
  match job with
  | some j => if t.scale = 5 then countDrift j t.index n s else s
  | none => s

/-- EXP in use for a tensor of a job. -/
def State.expOf (s : State) (job : Option Nat) (t : TDesc) : Int :=
  match job with
  | some j => (s.drift j t.index).exp
  | none => 0

/-- Writes one row as an entry's output. -/
def putRow (core : Nat × Nat) (r : PourRun) (t : TDesc) (cols row : Nat) (vals : List Num) (s : State) : State :=
  let (s1, n) := storeRow r.ctx t cols row (s.expOf r.job t) vals s
  countTensor core r.job t n s1

/-- Writes rows from row `base` up. [log 48 DEDUCED] -/
def putRows (core : Nat × Nat) (r : PourRun) (t : TDesc) (cols base : Nat) (rows : List (List Num)) (s : State) : State :=
  ((List.range rows.length).zip rows).foldl (fun s (x : Nat × List Num) => putRow core r t cols (base + x.1) x.2 s) s

/-- A row of +0. -/
def zeroRow (n : Nat) : List Num := List.replicate n Num.zero

/-- A row converted on the fly under SCALE mode 4 in a format, as codes with their scale; BF16 takes no scale. -/
def convertRow (f : Fmt) (vals : List Num) : List Nat × Int :=
  let sc : Int := if f = .bf16 then 0 else rowScale f 0 vals
  (vals.map fun v => (f.store .nearest false (v.shift (-sc))).1, sc)

/-- The 32 bytes of a result header (Table 19.5, Table 19.6). -/
def Attrs.word (a : Attrs) : Nat :=
  flagAt 0 a.valid + flagAt 1 a.shifted + flagAt 2 a.remapped + flagAt 3 a.mixedGen + flagAt 4 a.concealed
    + flagAt 5 a.aged + flagAt 6 a.deferred + flagAt 7 a.voted + flagAt 8 a.anytime
/-- [log 48 DEDUCED] -/
def Header.bytes (h : Header) : List Byte :=
  leBytes 8 h.outputTime ++ leBytes 8 h.sourceEpoch ++ leBytes 4 h.generation ++ leBytes 1 h.cls ++ leBytes 1 h.flask
    ++ leBytes 2 h.attrs.word ++ leBytes 2 h.digest ++ List.replicate 6 0

end Sys2Proof.Machine
end

