-- ==== Sys2Proof/Machine/IngestCmds.lean ====
section
/-!
DEFINITION. The commands of area 0x04, the events of camera and point streams, TAKE_BATCH and the Codec Engine's operations
(spec 12_ingest_and_video.md).
-/

namespace Sys2Proof.Machine

/-- A command to an engine that is missing is refused (R95); no detail code is stated. [log 7 DEDUCED] -/
def engineMissing (area : Nat) : Answer := .reject area 0

/-! ### Slots -/

/-- Writes bytes to the pages of a slot from an offset up. -/
def slotWrite (pages : List Nat) (at_ : Nat) (bs : List Byte) (s : State) : State :=
  (bs.foldl (fun (a : Nat × State) b =>
    let k := pages.getD (a.1 / 0x200000) 0
    (a.1 + 1, if a.1 / 0x200000 < pages.length then a.2.setPage k ((a.2.page k).write (a.1 % 0x200000) b) else a.2)) (at_, s)).2

/-- Slices that a member adds to a batch (R409, R417). -/
def InStream.slices (x : InStream) : Nat := match x.rec_ with | some (.cam r) => r.sliceCount x.remap | _ => 1

/-- SLICES of a tundish: what each batch adds to the progress object. -/
def State.slicesOf (s : State) (u : Nat) : Nat := (s.enabledOf u).foldl (fun k (m : Nat × InStream) => k + m.2.slices) 0

/-- Adds to the progress object of a tundish and to the slot's own count (R417). -/
def progress (u i n : Nat) (s : State) : State :=
  let x := s.tundish u
  let y := x.slots.getD i {}
  let s := s.setSlot u i { y with progress := y.progress + n }
  if x.progress = 0xFFFF then s else signalSync x.progress 0 n s

/-- Writes a damage record (R419); `ref` names the batch it belongs to. [log 73 DEDUCED] -/
def damage (k : Nat) (ref : Option Nat) (time cause first count action : Nat) (s : State) : State :=
  let x := s.instream k
  let s := s.setInstream k { x with damaged := satInc x.damaged }
  if !x.joined then s
  else
    let u := x.tundish
    let t := s.tundish u
    let bytes := leBytes 8 time ++ leBytes 1 k ++ leBytes 1 cause ++ leBytes 2 first ++ leBytes 2 count ++ leBytes 1 action ++ [0]
    let s := vwrite t.owner (t.ringVa + 16 * t.ringAt) bytes s
    let s := s.setTundish u { t with ringAt := (t.ringAt + 1) % 256, overflow := t.overflow || t.ringFull
                                     ringFull := t.ringFull || decide (t.ringAt = 255) }
    match ref.bind t.slotOf with
    | none => s
    | some i =>
      let y := t.slots.getD i {}
      let s := s.setSlot u i { y with damage := y.damage + 1 }
      if y.damage = 0 then ctxEvent t.owner 31 4 cause s else s

/-- The low-water alarm (R418). -/
def lowWater (u cause : Nat) (s : State) : State :=
  let x := s.tundish u
  ctxEvent x.owner 30 4 cause (s.setTundish u { x with lowCause := x.lowCause ||| BitVec.ofNat 3 (2 ^ cause) })

/-- A slot comes to rest: READY, or HELD as before; the progress object gets the balance (R417, Table 12.6). -/
def slotReady (u i : Nat) (s : State) : State :=
  let y := (s.tundish u).slots.getD i {}
  let s := progress u i (s.slicesOf u - y.progress) s
  let z := (s.tundish u).slots.getD i {}
  s.setSlot u i { z with state := if z.state = .filling then .ready else z.state }

/-- Every member complete: the slot is READY (Table 12.6). -/
def checkComplete (u i : Nat) (s : State) : State :=
  let y := (s.tundish u).slots.getD i {}
  if y.closed || y.complete || !(y.members.all fun m => y.present.contains m.1) then s
  else slotReady u i (s.setSlot u i { y with complete := true })

/-- Finds the slot of a sample: its own batch's, a FREE one, or the oldest READY under DROP_OLDEST; else the cause of the
discard (R414, R415). [log 71 DEDUCED, 72 DEDUCED] -/
def placeSample (k τ : Nat) (r : Int) (s : State) : State × Except Nat Nat :=
  let x := s.instream k
  let u := x.tundish
  let t := s.tundish u
  match s.trigLatest t.refLine (τ + r).toNat with
  | none => (s, .error 6)
  | some ref =>
    match t.slotOf ref with
    | some i =>
      let y := t.slots.getD i {}
      if y.present.contains x.member then (s, .error 9)
      else if y.state ≠ .filling ∧ (y.closed ∨ ref + 1000 * t.closeUs ≤ s.now) then (s, .error 7)
      else (s, .ok ref)
    | none =>
      let done := match t.doneT with | some d => decide (ref ≤ d) | none => false
      if done then (s, .error 7)
      else if t.destroyer.isSome then (s, .error 8)
      else
        let free := t.slots.findIdx? fun y => y.state = .free
        let oldest := if t.dropNewest then none else t.pick false fun y => y.state = .ready
        match free, oldest with
        | none, none => (s, .error 8)
        | f, o =>
          let i := f.getD (o.getD 0)
          let s := if f.isSome then s else
            let s := freeSlot u i s
            s.setTundish u { s.tundish u with overrun := satInc (s.tundish u).overrun }
          let t := s.tundish u
          let mem := (s.enabledOf u).map fun m => (m.2.member, m.1, m.2.required)
          let y : Slot := { state := .filling, batch := t.batches, t := ref, members := mem
                            pages := (t.slots.getD i {}).pages }
          (s.setTundish u { t with slots := t.slots.set i y, batches := (t.batches + 1) % 2 ^ 32 }, .ok ref)

/-- A sample begins or is discarded: NO_TRIGGER, LATE, NO_SLOT and DUPLICATE (R404, R415). [log 72 DEDUCED] -/
def beginSample (k : Nat) (τ : Option Nat) (offset : Int) (s : State) : State :=
  let dropped := fun (s : State) (t : Nat) =>
    s.setInstream k { s.instream k with sample := some { time := t, ref := 0, dropped := true } }
  match τ with
  | none => dropped (damage k none s.now 6 0 1 2 s) s.now
  | some t =>
    match placeSample k t offset s with
    | (s, .ok ref) => s.setInstream k { s.instream k with sample := some { time := t, ref := ref } }
    | (s, .error c) =>
      let x := s.instream k
      let ref := s.trigLatest (s.tundish x.tundish).refLine (t + offset).toNat
      let s := damage k (if c = 7 ∨ c = 9 then ref else none) t c 0 1 2 s
      let y := s.instream k
      dropped (s.setInstream k { y with absent := if c = 8 then satInc y.absent else y.absent }) t

/-- The trigger time of a sample whose first packet arrives now (R404). -/
def triggerTime (line lagMin lagMax : Nat) (s : State) : Option Nat :=
  if line = 0xFF then some (s.now - 1000 * lagMin)
  else match s.trigLatest line (s.now - 1000 * lagMin) with
    | some t => if s.now - 1000 * lagMax ≤ t then some t else none
    | none => none

/-- The record that a stream uses from now on, and a staged remap table (R410, R428). -/
def takeRecord (k : Nat) (s : State) : State :=
  let x := s.instream k
  s.setInstream k { x with rec_ := match x.nextRec with | some r => some r | none => x.rec_
                           nextRec := none
                           remap := match x.stagedRemap with | some t => some t | none => x.remap
                           stagedRemap := none }

/-! ### Camera frames -/

/-- Adds conversion counts to a stream. -/
def countStream (k : Nat) (c : Counts) (s : State) : State :=
  let x := s.instream k
  s.setInstream k { x with sat := satAdd x.sat c.sat, uf := satAdd x.uf c.uf, nan := satAdd x.nan c.nan }

/-- Writes the slices of a frame that are ready, in order; at its end, all of them (R409). -/
def writeSlices (k : Nat) (r : CamRec) (ended : Bool) : Nat → State → State
  | 0, s => s
  | n + 1, s =>
    let x := s.instream k
    match x.sample with
    | none => s
    | some z =>
      let need := r.sliceNeeds x.remap z.slices
      if z.dropped || decide (r.sliceCount x.remap ≤ z.slices) then s
      else if !ended && !(decide (need ≤ z.lines.length) && r.linesUp z.lines need) then s
      else
        let (at_, bs, c) := r.slice x.remap z.lines z.slices
        let s := match (s.tundish x.tundish).slotOf z.ref with
          | some i => progress x.tundish i 1
              (slotWrite ((s.tundish x.tundish).slots.getD i {}).pages (r.regionOff + at_) (bs.take (r.regionBytes - at_)) s)
          | none => s
        let s := countStream k c s
        writeSlices k r ended n (s.setInstream k { s.instream k with sample := some { z with slices := z.slices + 1 } })

/-- A member is present in its batch. -/
def memberPresent (k : Nat) (z : Sample) (s : State) : State :=
  let x := s.instream k
  let s := s.setInstream k { x with samples := satInc x.samples, sample := none }
  match (s.tundish x.tundish).slotOf z.ref with
  | none => s
  | some i =>
    let y := (s.tundish x.tundish).slots.getD i {}
    checkComplete x.tundish i (s.setSlot x.tundish i { y with
      present := x.member :: y.present, times := (x.member, z.time) :: y.times
      concealedM := if z.concealed then x.member :: y.concealedM else y.concealedM
      concealed := y.concealed || z.concealed })

/-- Hands the Colour stage of a frame to the encode sessions that tap its stream (R425). -/
def tapFrame (k : Nat) (r : CamRec) (z : Sample) (s : State) : State :=
  s.ing.encodes.foldl (fun s (e : Nat × Session) =>
    if e.2.stream ≠ k then s
    else
      let p := r.tapped z.lines e.2.downscale e.2.tap
      s.setSession 1 e.1 { e.2 with input := some { time := z.time, luma := p.1, chroma := p.2, concealed := z.concealed } }) s

/-- The encode sessions of a stream miss a frame. -/
def tapAbsent (k : Nat) (s : State) : State :=
  s.ing.encodes.foldl (fun s (e : Nat × Session) =>
    if e.2.stream = k then s.setSession 1 e.1 { e.2 with gap := true } else s) s

/-- A frame that is not concealed: its member counts as absent (R420). [log 72 DEDUCED] -/
def frameAbsent (k : Nat) (z : Sample) (s : State) : State :=
  tapAbsent k (s.setInstream k { s.instream k with sample := some { z with dropped := true } })

/-- One line more: good, or damaged with its cause (R403, R409, R420). -/
def takeLine (k : Nat) (r : CamRec) (l : LineIn) (s : State) : State :=
  let x := s.instream k
  match x.sample with
  | none => s
  | some z =>
    if z.dropped ∨ r.height ≤ z.lines.length then s
    else
      let l' : LineIn := match l with
        | .good px => if px.length < r.width then .damaged 3 else .good px
        | d => d
      match l' with
      | .good px =>
        let z := { z with lines := z.lines ++ [some (px.take r.width)] }
        writeSlices k r false (r.sliceCount x.remap) (s.setInstream k { x with sample := some z })
      | .damaged c =>
        let n := z.lines.length
        let z := { z with lines := z.lines ++ [none], concealed := true }
        let spoilt := decide (r.concealMax < (z.lines.filter (·.isNone)).length)
        let s := damage k (some z.ref) z.time c n 1 (if spoilt then 1 else 0) (s.setInstream k { x with sample := some z })
        if spoilt then frameAbsent k z s else s

/-- A frame ends: missing lines are concealed, the last slices written, the member completes (R420). -/
def endFrame (k : Nat) (r : CamRec) (s : State) : State :=
  let x := s.instream k
  match x.sample with
  | none => s
  | some z =>
    if z.dropped then s.setInstream k { x with sample := none }
    else
      let lost := r.height - z.lines.length
      let z1 := { z with lines := z.lines ++ List.replicate lost none, concealed := z.concealed || decide (0 < lost) }
      let spoilt := decide (r.concealMax < (z1.lines.filter (·.isNone)).length) || !r.linesUp z1.lines r.height
      let s := s.setInstream k { x with sample := some z1 }
      let s := if lost = 0 then s else damage k (some z.ref) z.time 4 z.lines.length lost (if spoilt then 1 else 0) s
      if spoilt then
        let s := frameAbsent k z1 s
        s.setInstream k { s.instream k with sample := none }
      else
        let s := writeSlices k r true (r.sliceCount x.remap) s
        memberPresent k z1 (tapFrame k r z1 s)

/-- The camera record of an enabled stream. -/
def State.camera (s : State) (k : Nat) : Option CamRec :=
  let x := s.instream k
  if !x.enabled then none else match x.rec_ with | some (.cam r) => some r | _ => none

/-- CSI2_FRAME_START: `time` is its arrival. A frame still in arrival ends (Table 12.11 LINES_MISSING). -/
def execCsi2FrameStart (stream time : Nat) (s : State) : Host.Outcome State Fault Refusal :=
  let s0 := advance time s
  if 48 ≤ stream ∨ !(s0.instream stream).enabled then next s
  else
    let s1 := match s0.camera stream with | some r => endFrame stream r s0 | none => s0
    let s2 := takeRecord stream s1
    match s2.camera stream with
    | none => next s
    | some r => next (beginSample stream (triggerTime r.trig r.lagMin r.lagMax s2) r.offsetNs s2)

def execCsi2Line (stream : Nat) (line : LineIn) (s : State) : Host.Outcome State Fault Refusal :=
  match s.camera stream with
  | some r => if stream < 48 then next (takeLine stream r line s) else next s
  | none => next s

/-- CSI2_FRAME_END, with the physical-layer errors that the port counted in the frame. -/
def execCsi2FrameEnd (stream phyErr : Nat) (s : State) : Host.Outcome State Fault Refusal :=
  match s.camera stream with
  | some r =>
    if 48 ≤ stream then next s
    else
      let x := s.instream stream
      next (endFrame stream r (s.setInstream stream { x with phyErr := satAdd x.phyErr phyErr }))
  | none => next s

/-! ### Point streams (R411, R412) -/

/-- A sweep ends: the point count in the first 8 bytes, the member present (R412). -/
def endSweep (k : Nat) (r : PointRec) (s : State) : State :=
  let x := s.instream k
  match x.sample with
  | none => s
  | some z =>
    if z.dropped then s.setInstream k { x with sample := none }
    else
      let spoilt := decide (0 < z.excess)
      let s := if spoilt then damage k (some z.ref) z.time 0x0B (r.maxPoints / 1000) ((z.excess + 999) / 1000) 0 s else s
      let s := match (s.tundish x.tundish).slotOf z.ref with
        | some i => progress x.tundish i 1 (slotWrite ((s.tundish x.tundish).slots.getD i {}).pages r.regionOff (leBytes 8 z.points) s)
        | none => s
      memberPresent k { z with concealed := z.concealed || spoilt } s

/-- Writes one point at its place. -/
def putPoint (k : Nat) (r : PointRec) (b : Nat × Option (List Byte)) (s : State) : State :=
  let x := s.instream k
  match x.sample with
  | none => s
  | some z =>
    let z := { z with lastAz := some b.1 }
    match b.2 with
    | none => s.setInstream k { x with sample := some z }
    | some bs =>
      if z.dropped then s
      else if r.maxPoints ≤ z.points then s.setInstream k { x with sample := some { z with excess := z.excess + 1 } }
      else
        let at_ := 16 + 16 * z.points
        let s := match (s.tundish x.tundish).slotOf z.ref with
          | some i => if at_ + 16 ≤ r.regionBytes then
              slotWrite ((s.tundish x.tundish).slots.getD i {}).pages (r.regionOff + at_) bs s else s
          | none => s
        s.setInstream k { s.instream k with sample := some { z with points := z.points + 1 } }

/-- A sweep begins with the packet at hand if none is in progress. -/
def startSweep (k : Nat) (data : List Byte) (s : State) : State :=
  if (s.instream k).sample.isSome then s
  else
    let s := takeRecord k s
    match (s.instream k).rec_ with
    | some (.point r) =>
      let τ := match r.time with
        | some l => some (l.read data)
        | none => triggerTime r.trig r.lagMin r.lagMax s
      beginSample k τ r.offsetNs s
    | _ => s

/-- Reads points in order; one that passes START_AZ ends the sweep before it. [log 75 DEDUCED] -/
def readPoints (k : Nat) (data : List Byte) : List (Nat × Option (List Byte)) → State → State
  | [], s => s
  | b :: bs, s =>
    match (s.instream k).rec_ with
    | some (.point r) =>
      let wrapped := match r.sweep, (s.instream k).sample with
        | .wrap start, some z => passes start z.lastAz b.1
        | _, _ => false
      let s := if wrapped then startSweep k data (endSweep k r s) else s
      readPoints k data bs (putPoint k r b s)
    | _ => s

/-- A packet of a sweep: its count, a gap in SEQ, the earliest packet time. -/
def notePacket (k : Nat) (r : PointRec) (data : List Byte) (s : State) : State :=
  let x := s.instream k
  let seq := r.seq.read data % 65536
  let want := x.lastSeq.map fun q => (q + 1) % 65536
  let s := s.setInstream k { x with lastSeq := some seq }
  match x.sample with
  | none => s
  | some z =>
    let gap : Bool := match want with | some w => decide (w ≠ seq) | none => false
    let t := match r.time with | some l => min z.time (l.read data) | none => z.time
    let z := { z with packets := z.packets + 1, concealed := z.concealed || gap, time := if z.dropped then z.time else t }
    let s := s.setInstream k { s.instream k with sample := some z }
    match want with
    | some w => if gap ∧ !z.dropped then damage k (some z.ref) z.time 0x0A w ((seq + 65536 - w) % 65536) 0 s else s
    | none => s

/-- POINT_PACKET: a datagram of a flow, with its arrival and the frame errors before it. -/
def execPointPacket (stream time : Nat) (data : List Byte) (phyErr : Nat) (s : State) : Host.Outcome State Fault Refusal :=
  let s0 := advance time s
  let x := s0.instream stream
  if !within 48 63 stream ∨ !x.enabled then next s
  else
    let s1 := s0.setInstream stream { x with phyErr := satAdd x.phyErr phyErr }
    let s2 := startSweep stream data s1
    match (s2.instream stream).rec_ with
    | some (.point r) =>
      let n := match r.count with | .inl l => l.read data | .inr n => n
      let fits := (data.length - r.head) / max 1 r.pointBytes
      let pts := (List.range (min n fits)).map fun i => r.point ((data.drop (r.head + i * r.pointBytes)).take r.pointBytes)
      let s3 := readPoints stream data pts (notePacket stream r data s2)
      let z := (s3.instream stream).sample
      let last := match r.sweep with
        | .flag l => decide (l.read data ≠ 0)
        | .packets n => match z with | some z => decide (n ≤ z.packets) | none => false
        | .wrap _ => false
      next (if last then endSweep stream r s3 else s3)
    | _ => next s

/-! ### Close, warning (R414, R418) -/

/-- Absent members at the close: MISSING of a REQUIRED one, fill of an optional one (Table 12.6). -/
def closeMember (u i : Nat) (m : Nat × Nat × Bool) (s : State) : State :=
  let y := (s.tundish u).slots.getD i {}
  if y.present.contains m.1 then s
  else
    let x := s.instream m.2.1
    let begun := match x.sample with | some z => decide (z.ref = y.t) && !z.dropped | none => false
    let time := match x.sample with | some z => z.time | none => s.now
    let s := if begun then damage m.2.1 (some y.t) time 7 0 1 2 s else s
    let x := s.instream m.2.1
    let s := s.setInstream m.2.1 { x with absent := satInc x.absent
                                          sample := if begun then x.sample.map fun z => { z with dropped := true } else x.sample }
    let y := (s.tundish u).slots.getD i {}
    if m.2.2 then s.setSlot u i { y with missing := true, missingM := m.1 :: y.missingM }
    else
      let s := match x.rec_ with
        | some (.cam r) => slotWrite y.pages r.regionOff ((r.filled x.remap).take r.regionBytes) s
        | some (.point r) => slotWrite y.pages r.regionOff (List.replicate 8 0) s
        | none => s
      let y := (s.tundish u).slots.getD i {}
      s.setSlot u i { y with concealed := true, concealedM := m.1 :: y.concealedM }

/-- TUNDISH_CLOSE: T + CLOSE_US of the batch `ref`. -/
def execTundishClose (tundish ref : Nat) (s : State) : Host.Outcome State Fault Refusal :=
  let t := s.tundish tundish
  match t.slotOf ref with
  | none => next s
  | some i =>
    let y := t.slots.getD i {}
    if y.closed ∨ y.complete ∨ (y.state ≠ .filling ∧ y.state ≠ .held) then next s
    else
      let s := advance (ref + 1000 * t.closeUs) s
      let s := y.members.foldl (fun s m => closeMember tundish i m s) s
      let y := (s.tundish tundish).slots.getD i {}
      next (slotReady tundish i (s.setSlot tundish i { y with closed := true }))

/-- TUNDISH_WARN: T + WARN_US of the batch `ref`. -/
def execTundishWarn (tundish ref : Nat) (s : State) : Host.Outcome State Fault Refusal :=
  let t := s.tundish tundish
  match t.slotOf ref with
  | none => next s
  | some i =>
    if (t.slots.getD i {}).state = .filling ∧ t.warnUs ≠ 0 then
      next (lowWater tundish 0 (advance (ref + 1000 * t.warnUs) s))
    else next s

/-! ### TAKE_BATCH (R416) -/

/-- A set of members as bits. -/
def memberBits (ms : List Nat) : Nat := ms.dedup.foldl (fun k m => k + 2 ^ m) 0

/-- The batch descriptor (Table 12.8). -/
def batchDescriptor (i : Nat) (y : Slot) (epoch : Nat) (early : Bool) : List Byte :=
  leBytes 4 y.batch
    ++ leBytes 1 (flagAt 0 y.missing + flagAt 1 y.concealed + flagAt 2 early + flagAt 3 y.complete) ++ leBytes 1 i ++ [0, 0]
    ++ leBytes 8 y.t ++ leBytes 8 epoch ++ leBytes 4 (memberBits y.present) ++ leBytes 4 (memberBits y.concealedM)
    ++ leBytes 4 (memberBits y.missingM) ++ leBytes 4 y.damage ++ List.replicate 24 0

/-- The source epoch of a batch (R405). -/
def Slot.epoch (y : Slot) : Nat := match y.times with | [] => y.t | t :: ts => ts.foldl (fun k x => min k x.2) t.2

/-- The slot that a TAKE_BATCH takes. [log 76 DEDUCED] -/
def State.takeSlot (s : State) (u f : Nat) (early : Bool) : Option Nat :=
  let x := s.tundish u
  let fl := s.flask f
  if fl.mode = .paced then
    let boundary := s.now / (1000 * max 1 fl.spanUs) * (1000 * max 1 fl.spanUs)
    x.pick true fun y => y.state = .ready && decide (y.t + 1000 * x.closeUs ≤ boundary)
  else match x.pick false fun y => y.state = .ready with
    | some i => some i
    | none => if early then x.pick false fun y => y.state = .filling else none

/-- The window's pages become the slot's (R416). [log 76 DEDUCED] -/
def switchWindow (u i : Nat) (s : State) : State :=
  let x := s.tundish u
  { s with mem := { s.mem with maps := s.mem.maps.map fun m =>
    if m.ctx = x.owner ∧ m.va = x.windowVa ∧ m.own then { m with pages := (x.slots.getD i {}).pages } else m } }

/-- TAKE_BATCH takes slot `i`: the slot held before becomes FREE, older READY slots of a paced take are skipped.
[log 76 DEDUCED] -/
def takeBatch (q k : Nat) (r : PourRun) (en : Entry) (u i : Nat) (s : State) : State :=
  let x := s.tundish u
  let y := x.slots.getD i {}
  let early := decide (y.state = .filling)
  let paced := (s.flask r.flask).mode = .paced
  let held := (List.range x.slots.length).filter fun j => decide ((x.slots.getD j {}).state = .held)
  let older := if paced then (List.range x.slots.length).filter fun j =>
      decide ((x.slots.getD j {}).state = .ready ∧ (x.slots.getD j {}).t < y.t) else []
  let s := (held ++ older).foldl (fun s j => freeSlot u j s) s
  let x := s.tundish u
  let out : OutState := { attrs := { concealed := y.concealed }, epoch := y.epoch, missing := y.missing }
  let s := s.setTundish u { x with
    slots := x.slots.set i { y with state := .held, early := early }, lastTaken := y.batch
    skipped := satAdd x.skipped older.length, waiting := false, out := out
    missing := if y.missing then satInc x.missing else x.missing
    concealed := if y.concealed then satInc x.concealed else x.concealed }
  let s := vwrite r.ctx (en.tensors.getD 1 0) (batchDescriptor i y y.epoch early) (switchWindow u i s)
  let s := noteOwn 3 q k out s
  if (s.tundish u).countIn .ready < x.lowWater then lowWater u 2 s else s

/-- TAKE_BATCH of a tundish with its EARLY bit. A free-running one waits where no slot is there; a paced one never does.
[log 76 DEDUCED] -/
def execTakeBatch (queue entry tundish : Nat) (early : Bool) (s : State) : Host.Outcome State Fault Refusal :=
  match s.entryOf 3 queue entry 1 with
  | none => next s
  | some (r, en) =>
    let x := s.tundish tundish
    if (r.own.any fun y => decide (y.1 = entry)) ∨ !x.used ∨ x.flask ≠ r.flask then next s
    else match s.takeSlot tundish r.flask early with
      | some i => next (takeBatch queue entry r en tundish i s)
      | none =>
        if (s.flask r.flask).mode = .paced then
          let out : OutState := { attrs := {}, epoch := s.now, missing := true }
          let s := s.setTundish tundish { x with missing := satInc x.missing, out := out }
          let s := vwrite r.ctx (en.tensors.getD 1 0) (List.replicate 4 0 ++ [1] ++ List.replicate 59 0) s
          next (noteOwn 3 queue entry out (lowWater tundish 1 s))
        else if x.waiting then next s
        else next (lowWater tundish 1 (s.setTundish tundish { x with waiting := true }))

/-! ### Stream and tundish commands (R427, R428) -/

/-- Average frames of a trigger line in a second, as (frames, seconds) (R402). [log 79 DEDUCED] -/
def State.lineRate (s : State) (n : Nat) : Nat × Nat :=
  let x := (s.trig n).set
  if n = 0xFF ∨ x.mode ≠ 1 then (0, 1) else (x.num, max 1 x.den)

/-- `px` of each frame of a record's trigger line, per second. [log 79 DEDUCED] -/
def State.perSecond (s : State) (n px : Nat) : Nat := px * (s.lineRate n).1 / (s.lineRate n).2

/-- Bits of a pixel on the wire. -/
def CamRec.wireBits (r : CamRec) : Nat := if r.dtype = 0x1E then 16 else if r.dtype = 0x24 then 24 else r.bits

/-- The enabled cameras with their records, one put in or taken out. -/
def State.enabledCams (s : State) (but : Nat) : List (Nat × CamRec) :=
  s.ing.streams.filterMap fun (x : Nat × InStream) =>
    if x.1 = but ∨ !x.2.enabled then none
    else match x.2.nextRec, x.2.rec_ with
      | some (.cam r), _ => some (x.1, r)
      | none, some (.cam r) => some (x.1, r)
      | _, _ => none

/-- R402: a record breaks R401 or the sums. [log 79 DEDUCED] -/
def State.rateBroken (s : State) (k : Nat) (r : CamRec) (enable : Bool) : Bool :=
  let all := (k, r) :: s.enabledCams k
  !within 16 4096 r.width || !within 1 4096 r.height
    || decide (66000 < s.perSecond r.trig r.height) || decide (250000000 < s.perSecond r.trig (r.width * r.height))
    || (enable && decide (12000000000 < all.foldl (fun n (x : Nat × CamRec) => n + s.perSecond x.2.trig (x.2.width * x.2.height)) 0))
    || (enable && decide (k < 48) && decide (41140000000 < (all.filter fun x => decide (x.1 < 48 ∧ x.1 / 4 = k / 4)).foldl
          (fun n (x : Nat × CamRec) => n + s.perSecond x.2.trig (x.2.width * x.2.height * x.2.wireBits)) 0))

/-- The region of a record. -/
def StreamRec.region : StreamRec → Nat × Nat
  | .cam r => (r.regionOff, r.regionBytes)
  | .point r => (r.regionOff, r.regionBytes)

/-- A camera record from its 160 bytes (Table 12.17), or `none` where a field breaks the table or R400. -/
def camRecord (k : Nat) (bs : List Byte) : Option CamRec :=
  let n := fun (a w : Nat) => fieldOf bs a w
  let words := fun (a c : Nat) => (List.range c).map fun i => n (a + 4 * i) 4
  let decoded := decide (64 ≤ k)
  let r : CamRec := { decoded := decoded, dtype := n 1 1, cfa := n 2 1, trig := n 3 1, width := n 4 2, height := n 6 2,
                      lagMin := n 8 4, lagMax := n 12 4, offsetNs := twosVal 32 (n 16 4)
                      black := (List.range 4).map fun i => n (20 + 2 * i) 2, gain := words 28 4, m := words 44 9,
                      off := words 80 3, mean := words 92 3, scale := words 104 3, fill := words 116 3, outFmt := n 128 1
                      cvt := n 129 1, scaleMode := n 130 1, fixedExp := twosVal 8 (n 131 1), b := n 132 1, outC := n 133 1
                      concealMax := n 134 1, regionOff := n 136 4, regionBytes := n 140 4 }
  let types := if decoded then [0] else [0x2A, 0x2B, 0x2C, 0x2D, 0x2E, 0x1E, 0x24]
  if n 0 1 = (if decoded then 3 else 1) ∧ types.contains r.dtype ∧ r.cfa ≤ 5 ∧ (r.trig ≤ 23 ∨ r.trig = 0xFF) ∧ r.outFmt ≤ 4
      ∧ r.cvt % 4 ≤ 1 ∧ r.cvt < 8 ∧ r.scaleMode ≤ 1 ∧ [1, 2, 4, 8].contains r.b ∧ (r.outC = 1 ∨ r.outC = 3)
      ∧ n 135 1 = 0 ∧ r.regionOff % 65536 = 0 ∧ (bs.drop 144).all (· = 0) then some r
  else none

/-- A point record keeps to Table 12.5 and R412. -/
def pointOk (r : PointRec) : Bool :=
  let loc := fun (l : Locator) => [1, 2, 4, 8].contains l.bytes
  decide (r.head ≤ 1024) && within 4 64 r.pointBytes && within 1 4194304 r.maxPoints && decide (r.channels.length ≤ 256)
    && (match r.count with | .inl l => loc l | .inr n => within 1 1024 n) && decide (r.trig ≤ 23 ∨ r.trig = 0xFF)
    && decide (r.regionOff % 65536 = 0) && loc r.range.loc && loc r.azimuth.loc && (r.elevation.isSome || r.channel.isSome)

/-- CONFIGURE_STREAM; `point` is the point record at the VA, whose byte layout is the tools' own. [log 71 DEDUCED] -/
def execConfigureStream (p : Packet) (point : PointRec) (s : State) : Host.Outcome State Fault Refusal :=
  command 0x0403 12 false p s fun s t =>
    let k := p.u8 12
    let u := p.u8 13
    let m := p.u8 14
    let enable := bitAt (p.u8 15) 1
    let x := s.instream k
    let y := s.tundish u
    if 79 < k ∨ 15 < u ∨ 31 < m ∨ 3 < p.u8 15 then reserved
    else if s.engineGone 3 then engineMissing 4
    else if !y.used then .reject 4 5
    else if !s.isTenant t y.flask then notPermitted
    else if x.joined ∧ x.tundish ≠ u then .reject 4 0x0A
    else if (s.accessFault t.ctx (p.u64 16) 160 false).isSome then .reject 3 6
    else
      let bs := s.vread t.ctx (p.u64 16) 160
      let rec? : Option StreamRec :=
        if within 48 63 k then (if fieldOf bs 0 1 = 2 ∧ pointOk point then some (.point point) else none)
        else (camRecord k bs).map .cam
      match rec? with
      | none => .reject 4 1
      | some rr =>
        let (a, n) := rr.region
        let others := (s.membersOf u).filter fun z => decide (z.1 ≠ k)
        let hits := fun (z : Nat × InStream) => match (match z.2.nextRec with | some w => some w | none => z.2.rec_) with
          | some w => decide (w.region.1 < a + n ∧ a < w.region.1 + w.region.2)
          | none => false
        let bad := match rr with | .cam r => s.rateBroken k r enable | .point _ => false
        if others.any fun z => decide (z.2.member = m) then .reject 4 1
        else if y.slotBytes < a + n ∨ others.any hits then .reject 4 6
        else if bad then .reject 4 0x0B
        else
          let live := x.enabled && x.rec_.isSome
          let s := s.setInstream k { x with
            enabled := enable, required := bitAt (p.u8 15) 0, tundish := u, member := m, joined := true
            rec_ := if live then x.rec_ else some rr, nextRec := if live then some rr else none
            sample := if enable then x.sample else none }
          ok (sweepTundishes s)

def execQueryIngest (p : Packet) (s : State) : Host.Outcome State Fault Refusal :=
  command 0x0405 1 false p s fun s t =>
    let k := p.u8 12
    if 79 < k then reserved
    else if !(s.instream k).joined then .reject 4 5
    else if !s.isTenant t (s.tundish (s.instream k).tundish).flask then notPermitted
    else ok s ((List.range 6).flatMap fun w => leBytes 4 (s.streamWord k w))

/-- [log 77 DEDUCED] -/
def execQueryTundish (p : Packet) (s : State) : Host.Outcome State Fault Refusal :=
  command 0x0406 1 false p s fun s t =>
    let u := p.u8 12
    if 15 < u then reserved
    else if !(s.tundish u).used then .reject 4 5
    else if !s.isTenant t (s.tundish u).flask then notPermitted
    else ok s ((List.range 6).flatMap fun w => leBytes 4 (s.tundishWord u w))

/-- [log 6 DEDUCED, 73 DEDUCED] -/
def execCreateTundish (p : Packet) (s : State) : Host.Outcome State Fault Refusal :=
  commandMoves 0x0401 36 false p s fun s t =>
    let u := p.u8 12
    let f := p.u8 13
    let depth := p.u8 14
    let tier := p.u8 15
    let w := p.u48 16
    let n := p.u32 24
    let prog := p.u16 40
    let ring := p.u48 42
    let per := n / 0x200000
    if s.engineGone 3 then engineMissing 4
    else if 15 < u ∨ 15 < f then reserved
    else if !s.isTenant t f then notPermitted
    else if (s.tundish u).used then .reject 4 4
    else if !within 2 16 depth ∨ !within 1 2 tier ∨ n = 0 ∨ n % 0x200000 ≠ 0 ∨ 23 < p.u8 36 ∨ 1 < p.u8 38 ∨ depth < p.u8 37
        ∨ !rangeValid w n true ∨ s.rangeUsed t.ctx w n ∨ (s.accessFault t.ctx ring 4096 true).isSome
        ∨ (prog ≠ 0xFFFF ∧ !(decide ((s.sync prog).kind = .counter ∧ (s.sync prog).holder = f))) then .reject 4 3
    else if !s.roomFor f t.ctx tier (depth * per * unitsOf true) then .reject 3 1
    else match s.allocFrames f tier 4 false true (depth * per) with
      | none => .reject 3 3
      | some frames =>
        let (s, nums) := makePages f t.ctx tier true false frames s
        let slots := (List.range depth).map fun i => ({ pages := (nums.drop (i * per)).take per } : Slot)
        let m : Mapping := { ctx := t.ctx, flask := f, va := w, pages := nums.take per, big := true, write := true, own := true }
        let s := { s with mem := { s.mem with maps := s.mem.maps ++ [m] } }
        let s := s.setTundish u { used := true, owner := t.ctx, flask := f, tier := tier, windowVa := w, slotBytes := n
                                  closeUs := p.u32 28, warnUs := p.u32 32, refLine := p.u8 36, lowWater := p.u8 37
                                  dropNewest := decide (p.u8 38 = 1), progress := prog, ringVa := ring, slots := slots }
        if xlatSize < s.xlatUsed then .reject 3 0x0A else whenClear t (leBytes 4 0) frames true s

/-- A loaded job names the tundish in a TAKE_BATCH (R428). -/
def State.tundishNamed (s : State) (u : Nat) : Bool :=
  s.ex.jobs.any fun (x : Nat × Job) => x.2.used && x.2.image.takes.any fun y => decide (y.1 = u)

/-- What follows on a tundish that may end. -/
def settleTundishes (s : State) : State := settleMoves (sweepTundishes s)

def execDestroyTundish (p : Packet) (s : State) : Host.Outcome State Fault Refusal :=
  commandThen settleTundishes 0x0402 1 false p s (fun s t =>
    let u := p.u8 12
    let x := s.tundish u
    if 15 < u then reserved
    else if !x.used then .reject 4 5
    else if !s.isTenant t x.flask then notPermitted
    else if s.tundishNamed u ∨ x.destroyer.isSome then .reject 4 4
    else
      let s := freeSlots u s
      .later (s.setTundish u { s.tundish u with destroyer := some t }))

/-- A remap table from its bytes (Table 12.4), or `none` where R410 refuses it. -/
def remapTable (bs : List Byte) : Option Remap :=
  let n := fun (a w : Nat) => fieldOf bs a w
  let t : Remap := { outW := n 0 2, outH := n 2 2, srcW := n 4 2, srcH := n 6 2, g := n 8 1, clamp := decide (n 9 1 = 1), points := [] }
  if !within 16 4096 t.outW ∨ !within 1 4096 t.outH ∨ !(List.contains [8, 16, 32] t.g) ∨ 1 < n 9 1
      ∨ !((bs.drop 10).take 18).all (· = 0) ∨ bs.length ≠ 32 + 8 * (t.cols * t.rows)
      ∨ n 28 4 ≠ crc32c (bs.take 28 ++ bs.drop 32) then none
  else some { t with points := (List.range (t.cols * t.rows)).map fun i => (n (32 + 8 * i) 4, n (36 + 8 * i) 4) }

def execLoadRemap (p : Packet) (s : State) : Host.Outcome State Fault Refusal :=
  command 0x0404 16 false p s fun s t =>
    let k := p.u8 12
    let inModule := decide (p.u8 13 = 1)
    let x := s.instream k
    let f := (s.tundish x.tundish).flask
    let n := p.u32 24
    if 79 < k ∨ 1 < p.u8 13 then reserved
    else if s.engineGone 3 then engineMissing 4
    else if !x.joined then .reject 4 5
    else if !s.isTenant t f then notPermitted
    else if inModule ∧ (s.accessFault t.ctx (p.u64 16) n false).isSome then .reject 3 6
    else match remapTable (s.getBytes t.ctx inModule (p.u64 16) n), (match x.nextRec with | some r => some r | none => x.rec_) with
      | some m, some (.cam r) =>
        if m.srcW ≠ r.width ∨ m.srcH ≠ r.height ∨ r.regionBytes < r.outBytes (some m) then .reject 4 2
        else
          let s1 := s.setInstream k { x with stagedRemap := some m }
          if s1.quotaOf f 2 < s1.charge f 2 ∧ s.charge f 2 < s1.charge f 2 then .reject 3 1 else ok s1
      | _, _ => .reject 4 2

/-! ### Codec sessions (R422 to R425) -/

/-- [log 78 DESIGN CHOICE] -/
def execOpenDecode (p : Packet) (s : State) : Host.Outcome State Fault Refusal :=
  command 0x0410 10 false p s fun s t =>
    let n := p.u16 12
    let w := p.u16 16
    let h := p.u16 18
    let fps := p.u8 20
    let k := p.u8 21
    let rate := w * h * fps
    let f? := if k = 0xFF then s.senderFlask t
              else if (s.instream k).joined ∧ s.isTenant t (s.tundish (s.instream k).tundish).flask then
                some (s.tundish (s.instream k).tundish).flask else none
    if 63 < n ∨ 1 < p.u8 14 ∨ 1 < p.u8 15 ∨ (k ≠ 0xFF ∧ !within 64 79 k) then reserved
    else if s.engineGone 4 then engineMissing 4
    else match f? with
      | none => notPermitted
      | some f =>
        if (s.session 0 n).used ∨ 3840 * 2160 * 60 < rate ∨ 3981312000 < sessionLoad s.ing.decodes + rate then .reject 4 7
        else if w = 0 ∨ h = 0 ∨ w % 2 ≠ 0 ∨ h % 2 ≠ 0 then .reject 4 8
        else ok (s.setSession 0 n { used := true, owner := t.ctx, flask := f, codec := p.u8 14, grainOff := decide (p.u8 15 = 1)
                                    width := w, height := h, fps := fps, stream := k, lumaRate := rate })

def execOpenEncode (p : Packet) (s : State) : Host.Outcome State Fault Refusal :=
  command 0x0411 34 false p s fun s t =>
    let n := p.u16 12
    let k := p.u8 14
    let d := p.u8 15
    let obj := p.u16 36
    if 47 < n ∨ !(List.contains [1, 2, 4] d) ∨ 2 < p.u8 16 ∨ !within 1 600 (p.u16 18) ∨ 79 < k ∨ within 48 63 k then reserved
    else if s.engineGone 4 then engineMissing 4
    else match s.senderFlask t, (s.instream k).rec_ with
      | none, _ => notPermitted
      | _, some (.point _) => .reject 4 1
      | _, none => .reject 4 1
      | some f, some (.cam r) =>
        let w := r.width / d
        let h := r.height / d
        let rate := s.perSecond r.trig (w * h)
        if (s.session 1 n).used ∨ 3840 * 2160 * 30 < rate ∨ 2985984000 < sessionLoad s.ing.encodes + rate then .reject 4 7
        else if (s.accessFault t.ctx (p.u48 24) (p.u32 32) true).isSome ∨ (s.accessFault t.ctx (p.u48 40) 48 false).isSome then
          .reject 3 6
        else if obj ≠ 0xFFFF ∧ !(decide ((s.sync obj).kind = .counter ∧ (s.sync obj).holder = f)) then reserved
        else
          let tap := (List.range 12).map fun i => s.vnum t.ctx (p.u48 40 + 4 * i) 4
          ok (s.setSession 1 n { used := true, owner := t.ctx, flask := f, width := w, height := h, stream := k, downscale := d
                                 rateControl := p.u8 16, lumaRate := rate, qp := p.u8 17, irap := p.u16 18, kbps := p.u32 20
                                 ringVa := p.u48 24, ringBytes := p.u32 32, counter := obj, tap := tap })

def execCloseSession (p : Packet) (s : State) : Host.Outcome State Fault Refusal :=
  commandThen (sweepSession (p.u8 12 % 2) (p.u16 14)) 0x0412 4 false p s (fun s t =>
    let kind := p.u8 12
    let n := p.u16 14
    let x := s.session kind n
    if 1 < kind ∨ 63 < n then reserved
    else if !x.used ∨ x.closer.isSome then .reject 4 9
    else if !s.isTenant t x.flask then notPermitted
    else .later (s.setSession kind n { x with closer := some t }))

def execQuerySession (p : Packet) (s : State) : Host.Outcome State Fault Refusal :=
  command 0x0413 4 false p s fun s t =>
    let kind := p.u8 12
    let n := p.u16 14
    let x := s.session kind n
    if 1 < kind ∨ 63 < n then reserved
    else if !x.used then .reject 4 9
    else if !s.isTenant t x.flask then notPermitted
    else ok s (leBytes 4 x.pictures ++ leBytes 4 x.concealed ++ leBytes 4 x.damage ++ leBytes 4 x.drops)

/-- The rows of a picture that a bitstream error damages come from the most recent output picture (R424). -/
def concealRows (w : Nat) (rows : Nat) (bad : List (Nat × Nat)) (last cur : List Nat) : List Nat :=
  (List.range cur.length).map fun i =>
    let row := i / max 1 w / max 1 rows
    if bad.any fun b => decide (b.1 ≤ row ∧ row < b.1 + b.2) then last.getD i (cur.getD i 0) else cur.getD i 0

/-- A picture as the lines of a frame: Y, Cb, Cr of each pixel, chroma of its 2 × 2 block. -/
def Picture.lines (x : Picture) (w h : Nat) : PixelLines :=
  (List.range h).map fun y => some ((List.range w).map fun i =>
    let c := y / 2 * w + i / 2 * 2
    [x.luma.getD (y * w + i) 0, x.chroma.getD c 0, x.chroma.getD (c + 1) 0])

/-- A decoded picture is delivered to its stream as a frame (R423). -/
def deliverPicture (k w h : Nat) (x : Picture) (s : State) : State :=
  if !(s.instream k).enabled then s
  else
    let s := takeRecord k s
    match s.camera k with
    | none => s
    | some r =>
      let s := beginSample k (some x.time) r.offsetNs s
      match (s.instream k).sample with
      | none => s
      | some z =>
        if z.dropped then s.setInstream k { s.instream k with sample := none }
        else endFrame k r (s.setInstream k { s.instream k with
          sample := some { z with lines := x.lines w (min h r.height), concealed := x.concealed } })

/-- Puts out the first `n` of the pictures held: to the stream, or to TB. -/
def outputPictures (n sess : Nat) (r : PourRun) (en : Entry) (s : State) : State :=
  let x := s.session 0 sess
  let out := x.held.take n
  let s := s.setSession 0 sess { x with held := x.held.drop n, pictures := satAdd x.pictures out.length
                                        last := match out.getLast? with | some y => some y | none => x.last }
  out.foldl (fun s y =>
    if x.stream = 0xFF then vwrite r.ctx (en.tensors.getD 1 0) ((y.luma ++ y.chroma).flatMap (leBytes 2)) s
    else deliverPicture x.stream x.width x.height y s) s

/-- The decode status of an operation: COMPLETE, CONCEALED and MISSING, pictures and damage records. -/
def decodeStatus (n : Nat) (concealed missing : Bool) (damaged : Nat) : List Byte :=
  (List.range 32).map fun k => Config.decodeStatus k n (flagAt 0 (!missing) + flagAt 1 concealed + flagAt 2 missing) damaged

/-- Some of the picture is not from the bitstream (R424). -/
def AuResult.concealed (au : AuResult) : Bool := !au.badRows.isEmpty || au.noReference

/-- The damage of an access unit: cause, first, count (Table 12.11). -/
def AuResult.records (au : AuResult) : List (Nat × Nat × Nat) :=
  (au.badRows.map fun b => (0x0C, b.1, b.2)) ++ (if au.noReference then [(0x0D, 0, 1)] else [])
    ++ (if au.noEntry then [(0x0E, 0, 1)] else [])

/-- The picture that an access unit decodes to: damaged rows from the most recent output picture (R424). -/
def Session.pictureOf (x : Session) (time : Nat) (au : AuResult) : Picture :=
  { time := time, concealed := au.concealed
    luma := concealRows x.width au.rowLines au.badRows ((x.last.map (·.luma)).getD []) au.luma
    chroma := concealRows x.width (au.rowLines / 2) au.badRows ((x.last.map (·.chroma)).getD []) au.chroma }

/-- The pictures held once an access unit has been decoded. -/
def Session.heldAfter (x : Session) (time : Nat) (au : AuResult) : List Picture :=
  if au.noEntry then x.held else x.held.take au.place ++ [x.pictureOf time au] ++ x.held.drop au.place

/-- DECODE_AU of a session with the trigger time of its picture. [log 78 DESIGN CHOICE] -/
def execDecodeAu (queue entry session time : Nat) (au : AuResult) (s : State) : Host.Outcome State Fault Refusal :=
  match s.entryOf 4 queue entry 1 with
  | none => next s
  | some (r, en) =>
    let x := s.session 0 session
    if (r.own.any fun y => decide (y.1 = entry)) ∨ !x.used ∨ x.flask ≠ r.flask then next s
    else
      let feeds := decide (x.stream ≠ 0xFF)
      let recs := au.records
      let concealed := au.concealed
      let held := x.heldAfter time au
      let s := s.setSession 0 session { x with held := held, damage := satAdd x.damage recs.length
                                               concealed := if concealed then satInc x.concealed else x.concealed }
      let s := if feeds then recs.foldl (fun s (d : Nat × Nat × Nat) =>
          let ref := (s.trigLatest (s.tundish (s.instream x.stream).tundish).refLine
            ((time : Int) + (match (s.instream x.stream).rec_ with | some (.cam c) => c.offsetNs | _ => (0 : Int))).toNat)
          damage x.stream ref time d.1 d.2.1 d.2.2 (if d.1 = 0x0E then 1 else 0) s) s else s
      let n := min au.out held.length
      let s := outputPictures n session r en s
      let s := vwrite r.ctx (en.tensors.getD 2 0) (decodeStatus n concealed au.noEntry recs.length) s
      let out : OutState := { attrs := { concealed := concealed }, epoch := min s.now time, missing := au.noEntry && !feeds }
      next (sweepSession 0 session (noteOwn 4 queue entry out s))

/-- FLUSH puts out every picture held for reordering. -/
def execFlush (queue entry session : Nat) (s : State) : Host.Outcome State Fault Refusal :=
  match s.entryOf 4 queue entry 2 with
  | none => next s
  | some (r, en) =>
    let x := s.session 0 session
    if (r.own.any fun y => decide (y.1 = entry)) ∨ !x.used ∨ x.flask ≠ r.flask then next s
    else
      let n := x.held.length
      let bad := x.held.any (·.concealed)
      let s := outputPictures n session r en s
      let s := vwrite r.ctx (en.tensors.getD 2 0) (decodeStatus n bad false 0) s
      next (sweepSession 0 session (noteOwn 4 queue entry { attrs := { concealed := bad }, epoch := s.now } s))

/-- Writes bytes into a session's ring, round its end. -/
def ringWrite (c va size at_ : Nat) (bs : List Byte) (s : State) : State :=
  ((List.range bs.length).zip bs).foldl (fun s (x : Nat × Byte) => vwriteByte c (va + (at_ + x.1) % max 1 size) x.2 s) s

/-- ENCODE_AU_COMPLETE: the encoder has made the bytes of an access unit of the picture that waits; `room` says that the ring
is not full (R425). [log 78 DESIGN CHOICE] -/
def execEncodeAuComplete (session : Nat) (irap room : Bool) (data : List Byte) (s : State) : Host.Outcome State Fault Refusal :=
  let x := s.session 1 session
  match x.input with
  | none => next s
  | some y =>
    if !x.used then next s
    else if !room ∨ ((x.skipping ∨ x.gap) ∧ !irap) then
      let s := s.setSession 1 session { x with input := none, gap := true, skipping := true, drops := satInc x.drops }
      next (sweepSession 1 session { s with ing := { s.ing with encDrops := satInc s.ing.encDrops } })
    else
      let head := leBytes 8 y.time ++ leBytes 4 x.pictures ++ leBytes 1 (flagAt 0 irap + flagAt 1 y.concealed + flagAt 2 x.gap)
        ++ [0, 0, 0] ++ leBytes 4 data.length ++ List.replicate 12 0
      let s := ringWrite x.owner x.ringVa x.ringBytes x.ringAt (head ++ data) s
      let s := s.setSession 1 session { x with
        input := none, gap := false, skipping := false, pictures := satInc x.pictures
        concealed := if y.concealed then satInc x.concealed else x.concealed
        ringAt := (x.ringAt + 32 + data.length) % max 1 x.ringBytes }
      next (sweepSession 1 session (if x.counter = 0xFFFF then s else signalSync x.counter 0 1 s))

/-- W1C write of TUNDISH_STATUS word 0 (R426). -/
def clearTundishStatus (u value : Nat) (s : State) : State :=
  let x := s.tundish u
  if !x.used then s
  else s.setTundish u { x with
    overflow := x.overflow && !bitAt value 15
    lowCause := x.lowCause &&& ~~~(BitVec.ofNat 3 (value / 65536)) }

def execTundishStatusClear (tundish value : Nat) (s : State) : Host.Outcome State Fault Refusal :=
  if s.pfServed then next (clearTundishStatus tundish value s) else next s

end Sys2Proof.Machine
end

