-- ==== Sys2Proof/Machine/Tracking.lean ====
section
/-!
DEFINITION. TRACK_UPDATE as a function of a track set, its detections and poses (R440 to R442, Tables 13.4 to 13.7).
-/

namespace Sys2Proof.Machine

/-- A detection record (Table 13.4). -/
structure Detection where
  pos : List Nat
  yaw : Nat
  box : List Nat
  score : Nat
  cls : Nat
  sigmaP : Nat
  sigmaYaw : Nat
deriving DecidableEq, Repr

def detectionOf (bs : List Byte) : Detection :=
  let n := fun (a w : Nat) => leNat ((bs.drop a).take w)
  { pos := [n 0 4, n 4 4, n 8 4], yaw := n 12 4, box := [n 16 4, n 20 4, n 24 4], score := n 28 4, cls := n 32 1
    sigmaP := n 36 4, sigmaYaw := n 40 4 }

/-- Every field is finite and in its range. -/
def Detection.ok (d : Detection) : Bool :=
  (d.pos ++ d.box ++ [d.yaw, d.score, d.sigmaP, d.sigmaYaw]).all (fun a => (f32 a).isFin)
    && !flt d.score 0 && !flt fOne d.score && decide (d.cls ≤ 15) && flt 0 d.sigmaP && flt 0 d.sigmaYaw

/-- ORIGIN in metres, FP32. -/
def TrackSet.originF (x : TrackSet) : List Nat := [fOfInt (1024 * x.origin.1), fOfInt (1024 * x.origin.2), 0]

/-- A detection in the track frame, by the pose at REF_TIME. -/
def Detection.moved (d : Detection) (p : Pose) (origin : List Nat) : Detection :=
  let r := Mat.mulVec p.rot d.pos
  { d with pos := ((r.zipWith fadd [fOfD p.x, fOfD p.y, fOfD p.z]).zipWith fsub origin), yaw := fadd d.yaw p.yaw }

/-- The multiple of 1,024 m nearest a coordinate. -/
def nearestKm (a : Nat) : Int :=
  match f64 a with
  | .fin neg m e =>
    let k := roundInt .nearest m (e - 10)
    if neg then -(k : Int) else k
  | _ => 0

/-- A coordinate lies outside the square centred on ORIGIN. -/
def beyondSquare (a : Nat) (o : Int) : Bool := !((f64 a).add (Num.ofInt (-(1024 * o)))).inside 9

/-- ORIGIN follows the ego pose; every position is shifted (R440's frame). -/
def TrackSet.follow (x : TrackSet) (ego : Option Pose) : TrackSet :=
  match ego with
  | none => x
  | some p =>
    if !beyondSquare p.x x.origin.1 && !beyondSquare p.y x.origin.2 then x
    else
      let o := (nearestKm p.x, nearestKm p.y)
      let sx := fOfInt (1024 * (x.origin.1 - o.1))
      let sy := fOfInt (1024 * (x.origin.2 - o.2))
      { x with origin := o, tracks := x.tracks.map fun (t : Nat × Track) =>
        (t.1, { t.2 with state := [fadd (t.2.state.getD 0 0) sx, fadd (t.2.state.getD 1 0) sy] ++ t.2.state.drop 2 }) }

/-! ### Predict -/

def identity (n : Nat) : Mat := (List.range n).map fun i => (List.range n).map fun j => if i = j then fOne else 0

/-- The transition matrix of a step Δt. -/
def transition (dt : Nat) : Mat :=
  let half := fmul fHalf (fmul dt dt)
  (List.range 8).map fun i => (List.range 8).map fun j =>
    if i = j then fOne
    else if i < 4 ∧ j = i + 2 then dt
    else if i < 2 ∧ j = i + 4 then half
    else if i = 6 ∧ j = 7 then dt
    else 0

/-- The process noise of a class. -/
def noise (dt qp qy : Nat) : Mat :=
  let d2 := fmul dt dt
  let d3 := fmul d2 dt
  let d4 := fmul d3 dt
  let d5 := fmul d4 dt
  let by_ := fun (a n : Nat) => fdiv a (fOfNat n)
  let q := fun (i j : Nat) => [[by_ d5 20, by_ d4 8, by_ d3 6], [by_ d4 8, by_ d3 3, by_ d2 2], [by_ d3 6, by_ d2 2, dt]].getD i [] |>.getD j 0
  let y := fun (i j : Nat) => [[by_ d3 3, by_ d2 2], [by_ d2 2, dt]].getD i [] |>.getD j 0
  (List.range 8).map fun i => (List.range 8).map fun j =>
    if i < 6 ∧ j < 6 ∧ i % 2 = j % 2 then fmul qp (q (i / 2) (j / 2))
    else if 6 ≤ i ∧ 6 ≤ j then fmul qy (y (i - 6) (j - 6))
    else 0

def Track.predict (t : Track) (p : TrackParams) (dt : Nat) : Track :=
  let f := transition dt
  { t with state := Mat.mulVec f t.state
           p := Mat.zip fadd (Mat.mul (Mat.mul f t.p 8) (Mat.tr f 8) 8) (noise dt (p.qPos.getD t.cls 0) (p.qYaw.getD t.cls 0)) }

/-! ### Gate, assign, update -/

/-- Indices of the measurement [x, y, yaw]. -/
def measured : List Nat := [0, 1, 6]

/-- The inverse of a 3 × 3 matrix through its adjugate, where it has one. -/
def inverse3 (m : Mat) : Option Mat :=
  let cof := fun (i j : Nat) =>
    let a := m.at_ ((i + 1) % 3) ((j + 1) % 3)
    let b := m.at_ ((i + 1) % 3) ((j + 2) % 3)
    let c := m.at_ ((i + 2) % 3) ((j + 1) % 3)
    let d := m.at_ ((i + 2) % 3) ((j + 2) % 3)
    fsub (fmul a d) (fmul b c)
  let det := fdot (m.getD 0 []) ((List.range 3).map (cof 0))
  if !(f32 det).isFin || (f32 det).isZero then none
  else some ((List.range 3).map fun i => (List.range 3).map fun j => fdiv (cof j i) det)

structure Innovation where
  y : List Nat
  sInv : Mat
  r : Mat
  d2 : Nat
deriving DecidableEq, Repr

/-- The innovation of a pair with its d²; none where S has no inverse. -/
def innovation (t : Track) (d : Detection) : Option Innovation :=
  let sp := fmul d.sigmaP d.sigmaP
  let sy := fmul d.sigmaYaw d.sigmaYaw
  let r : Mat := [[sp, 0, 0], [0, sp, 0], [0, 0, sy]]
  let z := [d.pos.getD 0 0, d.pos.getD 1 0, d.yaw]
  let hx := measured.map fun i => t.state.getD i 0
  let y0 := z.zipWith fsub hx
  let y := [y0.getD 0 0, y0.getD 1 0, wrapAngle 64 (y0.getD 2 0)]
  let hp : Mat := measured.map fun i => measured.map fun j => Mat.at_ t.p i j
  (inverse3 (Mat.zip fadd hp r)).map fun si => ⟨y, si, r, fdot y (Mat.mulVec si y)⟩

/-- Candidates: (slot, detection index, d²). -/
def candidates (x : TrackSet) (ds : List Detection) : List (Nat × Nat × Nat) :=
  x.tracks.flatMap fun (t : Nat × Track) => ((List.range ds.length).zip ds).filterMap fun (d : Nat × Detection) =>
    if d.2.cls ≠ t.2.cls then none
    else match innovation t.2 d.2 with
      | some v => if (f32 v.d2).isNan || flt x.params.gate v.d2 then none else some (t.1, d.1, v.d2)
      | none => none

/-- Accepts candidates in ascending d². [log 83 DEDUCED] -/
def assign : List (Nat × Nat × Nat) → List (Nat × Nat) → List (Nat × Nat)
  | [], acc => acc
  | c :: cs, acc =>
    if acc.any fun a => decide (a.1 = c.1 ∨ a.2 = c.2.1) then assign cs acc else assign cs ((c.1, c.2.1) :: acc)

/-- [log 83 DEDUCED] -/
def sortCandidates (cs : List (Nat × Nat × Nat)) : List (Nat × Nat × Nat) :=
  sortBy cs fun a b => flt a.2.2 b.2.2 || (!flt b.2.2 a.2.2 && decide (a.1 < b.1 ∨ (a.1 = b.1 ∧ a.2.1 ≤ b.2.1)))

/-- A hit: the Kalman update, P in Joseph form; box, score and z move by ALPHA. -/
def Track.hit (t : Track) (d : Detection) (alpha time : Nat) : Track :=
  match innovation t d with
  | none => t
  | some v =>
    let ph : Mat := t.p.map fun r => measured.map fun j => r.getD j 0
    let k := Mat.mul ph v.sInv 3
    let state := t.state.zipWith fadd (Mat.mulVec k v.y)
    let kh : Mat := k.map fun r => (List.range 8).map fun j =>
      if j = 0 then r.getD 0 0 else if j = 1 then r.getD 1 0 else if j = 6 then r.getD 2 0 else 0
    let a := Mat.zip fsub (identity 8) kh
    let p := Mat.zip fadd (Mat.mul (Mat.mul a t.p 8) (Mat.tr a 8) 8) (Mat.mul (Mat.mul k v.r 3) (Mat.tr k 3) 8)
    let near := fun (old new : Nat) => ffma alpha (fsub new old) old
    { t with state := state, p := p, z := near t.z (d.pos.getD 2 0), l := near t.l (d.box.getD 0 0), w := near t.w (d.box.getD 1 0)
             h := near t.h (d.box.getD 2 0), score := near t.score d.score, history := (true :: t.history).take 8
             updates := t.updates + 1, misses := 0, coasting := false, lastHit := time }

def Track.miss (t : Track) (alpha : Nat) : Track :=
  { t with score := fmul t.score (fsub fOne alpha), history := (false :: t.history).take 8, updates := t.updates + 1
           misses := t.misses + 1, coasting := t.confirmed }

/-! ### Birth and lifecycle (R441, Table 13.6) -/

def Track.newborn (d : Detection) (p : TrackParams) (id time : Nat) : Track :=
  { id := id, state := [d.pos.getD 0 0, d.pos.getD 1 0, 0, 0, 0, 0, d.yaw, 0]
    p := (List.range 8).map fun i => (List.range 8).map fun j => if i = j then p.p0.getD i 0 else 0
    z := d.pos.getD 2 0, l := d.box.getD 0 0, w := d.box.getD 1 0, h := d.box.getD 2 0, cls := d.cls, score := d.score
    history := [true], lastHit := time }

def nextTrackId (n : Nat) : Nat := if n = 0xFFFFFFFF then 1 else n + 1

/-- The TENTATIVE track of the lowest score, a tie to the highest slot. -/
def weakest (x : TrackSet) : Option (Nat × Track) :=
  (x.tracks.filter fun (t : Nat × Track) => !t.2.confirmed).foldl (fun (b : Option (Nat × Track)) t =>
    match b with
    | none => some t
    | some c => if flt c.2.score t.2.score then b else some t) none

/-- One detection that no track took. [log 83 DEDUCED] -/
def TrackSet.birth (x : TrackSet) (d : Detection) (time : Nat) : TrackSet :=
  if flt d.score x.params.birthScore then x
  else
    let put := fun (slot : Nat) => { x with
      tracks := Tab.put x.tracks slot (Track.newborn d x.params x.nextId time), nextId := nextTrackId x.nextId
      births := satInc x.births }
    match lowest (fun k => !x.tracks.any fun (t : Nat × Track) => t.1 = k) x.capacity 0 with
    | some k => put k
    | none => match weakest x with
      | some w => if flt w.2.score d.score then put w.1 else { x with birthDrops := satInc x.birthDrops }
      | none => { x with birthDrops := satInc x.birthDrops }

/-- A track is due for deletion. -/
def Track.ends (t : Track) (p : TrackParams) (origin : List Nat) (ego : Option Pose) : Bool :=
  if !t.confirmed then decide (p.missTentative ≤ t.misses)
  else
    let far := match ego with
      | none => false
      | some e =>
        let dx := fsub (fadd (t.state.getD 0 0) (origin.getD 0 0)) (fOfD e.x)
        let dy := fsub (fadd (t.state.getD 1 0) (origin.getD 1 0)) (fOfD e.y)
        flt (fmul p.regionM p.regionM) (fadd (fmul dx dx) (fmul dy dy))
    decide (p.missConfirmed ≤ t.misses) || flt p.covMax (fadd (Mat.at_ t.p 0 0) (Mat.at_ t.p 1 1)) || far

/-- A TENTATIVE track with enough hits is CONFIRMED. -/
def Track.promote (t : Track) (p : TrackParams) : Track :=
  if !t.confirmed ∧ p.mConfirm ≤ (t.history.take p.nConfirm).count true then { t with confirmed := true } else t

/-! ### The update -/

structure TrackOut where
  set : TrackSet
  deleted : List Nat := []
  missing : Bool := false
  unaligned : Bool := false
deriving DecidableEq, Repr

/-- Every track predicted to REF_TIME. -/
def TrackSet.predict (x : TrackSet) (time : Nat) : TrackSet :=
  let dt := match x.lastTime with | some t => fmul (fOfNat (time - t)) fNano | none => 0
  { x with tracks := x.tracks.map fun (t : Nat × Track) => (t.1, t.2.predict x.params dt), lastTime := some time }

/-- TRACK_UPDATE of a set: detections in order, the batch MISSING, the ego pose and the pose at REF_TIME. [log 83 DEDUCED] -/
def TrackSet.update (x : TrackSet) (all : List Detection) (time : Nat) (missing : Bool) (ego pose : Option Pose) : TrackOut :=
  let late := match x.lastTime with | some t => decide (time ≤ t) | none => false
  if late then { set := { x with oos := satInc x.oos }, missing := true }
  else
    let x := x.follow ego
    match pose, missing with
    | some p, false =>
      let moved := all.map fun d => if d.ok then some (d.moved p x.originF) else none
      let ds := moved.filterMap id
      let x := { x with badDetections := satAdd x.badDetections (all.length - ds.length) }
      let y := x.predict time
      let pairs := assign (sortCandidates (candidates y ds)) []
      let y := { y with tracks := y.tracks.map fun (t : Nat × Track) =>
        match pairs.find? fun a => decide (a.1 = t.1) with
        | some a => match ds[a.2]? with
          | some d => (t.1, t.2.hit d y.params.alpha time)
          | none => t
        | none => (t.1, t.2.miss y.params.alpha) }
      let old := y.tracks.map fun (t : Nat × Track) => t.2.id
      let y := ((List.range ds.length).zip ds).foldl (fun (y : TrackSet) (d : Nat × Detection) =>
        if pairs.any fun a => decide (a.2 = d.1) then y else y.birth d.2 time) y
      let gone := (y.tracks.filter fun (t : Nat × Track) => old.contains t.2.id && t.2.ends y.params y.originF ego).map (·.1)
      let y := { y with tracks := y.tracks.map fun (t : Nat × Track) =>
        (t.1, if old.contains t.2.id then t.2.promote y.params else t.2), deletions := satAdd y.deletions gone.length }
      { set := y, deleted := gone }
    | none, false => { set := x.predict time, missing := true, unaligned := true }
    | _, true => { set := x.predict time, missing := true }

/-- One track of the output (Table 13.7). -/
def Track.bytes (t : Track) (slot : Nat) (deleted : Bool) : List Byte :=
  let s := fun (i : Nat) => t.state.getD i 0
  leBytes 4 t.id ++ leBytes 2 slot ++ leBytes 1 (if deleted then 3 else if t.confirmed then 2 else 1) ++ leBytes 1 t.cls
    ++ ([s 0, s 1, t.z, s 2, s 3, s 4, s 5, s 6, s 7, t.l, t.w, t.h].flatMap (leBytes 4))
    ++ leBytes 4 t.score ++ leBytes 4 t.updates ++ leBytes 1 (min 255 t.misses) ++ leBytes 1 (flagAt 0 t.coasting) ++ [0, 0]
    ++ ([0, 1, 2, 3, 6].flatMap fun i => leBytes 4 (Mat.at_ t.p i i)) ++ leBytes 8 t.lastHit

/-- The track output. -/
def TrackOut.bytes (o : TrackOut) (time : Nat) : List Byte :=
  let x := o.set
  leBytes 4 x.tracks.length
    ++ leBytes 4 (x.tracks.filter fun (t : Nat × Track) => t.2.confirmed && !o.deleted.contains t.1).length
    ++ leBytes 8 time ++ leBytes 8 (dOfInt (1024 * x.origin.1)) ++ leBytes 8 (dOfInt (1024 * x.origin.2)) ++ List.replicate 32 0
    ++ x.tracks.flatMap fun (t : Nat × Track) => t.2.bytes t.1 (o.deleted.contains t.1)

/-- The set after its output is written: slots of deleted tracks are free. -/
def TrackOut.after (o : TrackOut) : TrackSet :=
  { o.set with tracks := o.set.tracks.filter fun (t : Nat × Track) => !o.deleted.contains t.1 }

end Sys2Proof.Machine
end

