-- ==== Sys2Proof/Machine/SpatialCmds.lean ====
section
/-!
DEFINITION. The commands of area 0x05, BEV_LIFT and the operations of the Spatial Engine
(spec 13_fusion_tracking_planning.md).
-/

namespace Sys2Proof.Machine

/-! ### Calibration (R434, R435) -/

/-- A record that R434 lets in. [log 81 DEDUCED] -/
def calOk (r : CalRec) : Bool :=
  let zeros := fun (a n : Nat) => ((r.drop a).take n).all (· = 0)
  let floats := ((List.range 20).map fun i => r.num (8 + 4 * i) 4) ++ [r.num 92 4]
  decide (r.kind ≤ 4) && zeros 2 2 && zeros 96 28 && decide (r.num 124 4 = crc32c (r.take 124))
    && floats.all (fun a => (f32 a).isFin) && (decide (r.kind = 0) || rotOk r.rot)
    && (!r.camera || (flt 0 (r.num 56 4) && flt 0 (r.num 60 4) && flt 0 (r.num 92 4)))

/-- The records of the sets after `recs` are loaded into a set from a slot on; CLONE first copies the other set. -/
def State.recordsWith (s : State) (set first : Nat) (clone : Bool) (recs : List (List Byte)) : Tab (List Byte) :=
  let base := if clone then
      (List.range 64).foldl (fun (r : Tab (List Byte)) k => Tab.put r (64 * set + k) (s.cal (1 - set) k)) s.sp.records
    else s.sp.records
  ((List.range recs.length).zip recs).foldl (fun (r : Tab (List Byte)) (x : Nat × List Byte) =>
    Tab.put r (64 * set + first + x.1) x.2) base

/-- The projection tables whose copy for the set must be built anew: all where CLONE copied it, else those without a copy and
those that name one of the `n` slots loaded. -/
def State.tablesToBuild (s : State) (set first n : Nat) (clone : Bool) : List Nat :=
  (s.sp.projections.filter fun (x : Nat × Projection) => clone || (x.2.copyOf set).isNone
    || x.2.desc.sensors.any fun k => decide (first ≤ k ∧ k < first + n)).map (·.1)

/-- [log 81 DEDUCED] -/
def execLoadCalibration (p : Packet) (s : State) : Host.Outcome State Fault Refusal :=
  command 0x0501 12 true p s fun s t =>
    let set := p.u8 12
    let inModule := bitAt (p.u8 13) 0
    let clone := bitAt (p.u8 13) 1
    let first := p.u8 14
    let n := p.u8 15
    let at_ := p.u64 16
    if 1 < set ∨ 3 < p.u8 13 ∨ !within 1 64 n ∨ 64 < first + n then reserved
    else if s.engineGone 5 then engineMissing 5
    else if inModule ∧ (s.accessFault t.ctx at_ (128 * n) false).isSome then .reject 3 6
    else if s.calInUse set ∨ s.sp.building.isSome then .reject 5 2
    else
      let bytes := s.getBytes t.ctx inModule at_ (128 * n)
      let recs := (List.range n).map fun i => (bytes.drop (128 * i)).take 128
      if !recs.all calOk then .reject 5 1
      else
        let sp := { s.sp with records := s.recordsWith set first clone recs
                              building := some (t, set, s.tablesToBuild set first n clone)
                              builtA := s.sp.builtA && decide (set ≠ 0), builtB := s.sp.builtB && decide (set ≠ 1) }
        .later { s with sp := sp }

/-- The tables that LOAD_CALIBRATION rebuilds are built. -/
def execProjectionBuildComplete (s : State) : Host.Outcome State Fault Refusal := next (finishBuild s)

def execSwitchCalibration (p : Packet) (s : State) : Host.Outcome State Fault Refusal :=
  command 0x0502 24 true p s fun s t =>
    let n := p.u8 12
    let members := (List.range n).map fun k => p.u8 (14 + k)
    let timeout := timeoutOf (p.u32 32)
    if n = 0 ∨ 16 < n ∨ 10000 < timeout ∨ members.any (15 < ·) ∨ ¬ members.Nodup then reserved
    else if s.engineGone 5 then engineMissing 5
    else if members.any fun f => !s.calBuilt (1 - s.calOf f) then .reject 5 3
    else if members.any fun f => !(s.flask f).commits then .reject 2 4
    else if members.any s.anySeries then .reject 2 0x0A
    else if !s.orderOk members then .reject 2 0x0D
    else
      let staged := members.map fun f => (f, decide (s.calOf f = 0))
      let others := s.sp.stagedSelect.filter fun x => !members.contains x.1
      .later (issueSeries .config members timeout t { s with sp := { s.sp with stagedSelect := others ++ staged } })

/-! ### Objects (R454) -/

/-- A loaded job names an object. -/
def State.objectNamed (s : State) (kind k : Nat) : Bool :=
  s.ex.jobs.any fun (x : Nat × Job) => x.2.used && x.2.image.uses.contains (kind, k)

/-- Frames in T1 for an object of a flask, in 64 KiB pages. [log 82 DESIGN CHOICE] -/
def objectPages (f n : Nat) (s : State) : Except Nat (State × List Nat) :=
  if !s.roomFor f 0xFFFF 1 n then .error 1
  else match s.allocFrames f 1 4 false false n with
    | none => .error 3
    | some frames => .ok (makePages f 0xFFFF 1 false false frames s)

/-- CREATE_PROJECTION; `desc` is the description at the VA, for which Table 13.3 gives no byte layout. -/
def execCreateProjection (p : Packet) (desc : ProjDesc) (s : State) : Host.Outcome State Fault Refusal :=
  command 0x0503 12 false p s fun s t =>
    let k := p.u8 12
    let f := p.u8 13
    let bytes := 8 * desc.entries
    if 15 < k ∨ 15 < f then reserved
    else if s.engineGone 5 then engineMissing 5
    else if !s.isTenant t f then notPermitted
    else if (s.projection k).used then .reject 5 0x0A
    else if (s.accessFault t.ctx (p.u64 16) 1 false).isSome then .reject 3 6
    else if !desc.ok ∨ !(desc.sensors.all fun n => (s.cal 0 n).camera && (s.cal 1 n).camera) then .reject 5 4
    else match objectPages f (2 * ((bytes + 65535) / 65536)) s with
      | .error d => .reject 3 d
      | .ok (s, pages) =>
        let s := s.setProjection k { used := true, flask := f, owner := t.ctx, desc := desc, pages := pages }
        let s := if s.sp.builtA then buildCopy 0 k s else s
        let s := if s.sp.builtB then buildCopy 1 k s else s
        let building := s.sp.building.map fun (b : Ticket × Nat × List Nat) => (b.1, b.2.1, b.2.2 ++ [k])
        ok { s with sp := { s.sp with building := building } } (leBytes 8 bytes)

def execDestroyProjection (p : Packet) (s : State) : Host.Outcome State Fault Refusal :=
  command 0x0504 1 false p s fun s t =>
    let k := p.u8 12
    if 15 < k then reserved
    else if !(s.projection k).used then .reject 5 9
    else if !s.isTenant t (s.projection k).flask then notPermitted
    else if s.objectNamed 1 k then .reject 5 0x0A
    else ok (endProjection k s)

/-- Parameters within Table 13.5. -/
def TrackParams.ok (x : TrackParams) : Bool :=
  let pos := fun (a : Nat) => (f32 a).isFin && flt 0 a
  let unit := fun (a : Nat) => (f32 a).isFin && !flt a 0 && !flt fOne a
  pos x.gate && unit x.birthScore && unit x.alpha && within 1 8 x.mConfirm && within x.mConfirm 8 x.nConfirm
    && within 1 15 x.missTentative && within 1 255 x.missConfirmed && pos x.covMax
    && (f32 x.regionM).isFin && !flt x.regionM 0x41200000 && !flt 0x44FA0000 x.regionM
    && decide (x.p0.length = 8 ∧ x.qPos.length = 16 ∧ x.qYaw.length = 16) && x.p0.all pos
    && (x.qPos ++ x.qYaw).all fun a => (f32 a).isFin && !flt a 0

/-- CREATE_TRACK_SET; `params` is the table at the VA, for which Table 13.5 gives no byte layout. -/
def execCreateTrackSet (p : Packet) (params : TrackParams) (s : State) : Host.Outcome State Fault Refusal :=
  command 0x0505 12 false p s fun s t =>
    let k := p.u8 12
    let f := p.u8 13
    let n := p.u16 14
    if 7 < k ∨ 15 < f ∨ !within 1 2048 n then reserved
    else if s.engineGone 5 then engineMissing 5
    else if !s.isTenant t f then notPermitted
    else if 0 < (s.trackSet k).capacity then .reject 5 0x0A
    else if 2048 < s.tracksReserved + n then .reject 5 5
    else if (s.accessFault t.ctx (p.u64 16) 1 false).isSome then .reject 3 6
    else if !params.ok then .reject 5 6
    else ok (s.setTrackSet k { capacity := n, flask := f, owner := t.ctx, params := params })

def execDestroyTrackSet (p : Packet) (s : State) : Host.Outcome State Fault Refusal :=
  command 0x0506 1 false p s fun s t =>
    let k := p.u8 12
    if 7 < k then reserved
    else if (s.trackSet k).capacity = 0 then .reject 5 9
    else if !s.isTenant t (s.trackSet k).flask then notPermitted
    else if s.objectNamed 2 k then .reject 5 0x0A
    else ok (endTrackSet k s)

def execSetTrackParams (p : Packet) (params : TrackParams) (s : State) : Host.Outcome State Fault Refusal :=
  command 0x0507 12 false p s fun s t =>
    let k := p.u8 12
    let x := s.trackSet k
    if 7 < k then reserved
    else if s.engineGone 5 then engineMissing 5
    else if x.capacity = 0 then .reject 5 9
    else if !s.isTenant t x.flask then notPermitted
    else if (s.accessFault t.ctx (p.u64 16) 1 false).isSome then .reject 3 6
    else if !params.ok then .reject 5 6
    else .later (s.setTrackSet k { x with staged := x.staged ++ [(params, t)] })

def execLoadLattice (p : Packet) (s : State) : Host.Outcome State Fault Refusal :=
  command 0x0508 16 false p s fun s t =>
    let k := p.u8 12
    let x := s.lattice k
    let f := if x.used then x.flask else p.u8 13
    let inModule := decide (p.u8 14 = 1)
    let n := p.u32 24
    if 3 < k ∨ 15 < p.u8 13 ∨ 1 < p.u8 14 then reserved
    else if s.engineGone 5 then engineMissing 5
    else if !s.isTenant t f then notPermitted
    else if inModule ∧ (s.accessFault t.ctx (p.u64 16) n false).isSome then .reject 3 6
    else if x.pending.isSome then .reject 5 8
    else
      let bytes := s.getBytes t.ctx inModule (p.u64 16) n
      match latticeOf bytes with
      | none => .reject 5 7
      | some _ =>
        let want := 2 * ((max n x.active.length + 65535) / 65536)
        match objectPages f (want - x.pages.length) s with
        | .error d => .reject 3 d
        | .ok (s, more) =>
          ok (s.setLattice k { x with used := true, flask := f, owner := t.ctx, inactive := bytes, pages := x.pages ++ more })

def execSwitchLattice (p : Packet) (s : State) : Host.Outcome State Fault Refusal :=
  command 0x0509 1 false p s fun s t =>
    let k := p.u8 12
    let x := s.lattice k
    if 3 < k then reserved
    else if s.engineGone 5 then engineMissing 5
    else if !x.used then .reject 5 9
    else if !s.isTenant t x.flask then notPermitted
    else if x.pending.isSome then .reject 5 8
    else .later (s.setLattice k { x with pending := some t })

def execQuerySpatial (p : Packet) (s : State) : Host.Outcome State Fault Refusal :=
  command 0x050A 2 false p s fun s t =>
    let kind := p.u8 12
    let i := p.u8 13
    let words := fun (f : Nat → Nat) => ok s ((List.range 6).flatMap fun w => leBytes 4 (f w))
    if 2 < kind ∨ (kind = 1 ∧ 7 < i) ∨ (kind = 2 ∧ 15 < i) then reserved
    else if (s.senderFlask t).isNone then notPermitted
    else if kind = 0 then words s.spatialWord
    else if kind = 1 then (if (s.trackSet i).capacity = 0 then .reject 5 9 else words (s.trackSetWord i))
    else words (s.planWord i)

/-! ### Operations (Table 13.12) -/

/-- An entry in flight whose operation has not yet acted. -/
def State.entryOnce (s : State) (e q k op : Nat) : Option (PourRun × Entry) :=
  match s.entryOf e q k op with
  | some (r, en) => if r.own.any fun x => decide (x.1 = k) then none else some (r, en)
  | none => none

/-- `n` bytes that the spec leaves open, drawn afresh. [log 16 DESIGN CHOICE] -/
def freeBytes (drawn : Nat) : Nat → List Byte
  | 0 => []
  | n + 1 => (Config.free drawn).truncate 8 :: freeBytes (drawn + 1) n

/-- Outputs that are written and marked missing hold open values. [log 16 DESIGN CHOICE] -/
def writeFree (c va n : Nat) (s : State) : State :=
  vwrite c va (freeBytes s.drawn n) { s with drawn := s.drawn + n }

/-- An operation lacked a pose (R432). [log 80 DEDUCED] -/
def noPose (s : State) : State := { s with sp := { s.sp with alignFail := satInc s.sp.alignFail } }

/-- POSE_PUSH, its record giving EXTRAP_MAX in µs (R431 to R433). -/
def execPosePush (queue entry extrapUs : Nat) (s : State) : Host.Outcome State Fault Refusal :=
  match s.entryOnce 5 queue entry 1 with
  | none => next s
  | some (r, en) =>
    if 100000 < extrapUs then next s
    else
      let p := poseOf (s.vread r.ctx (en.tensors.getD 0 0) 64)
      let newer := match s.ego with | some e => decide (e.time < p.time) | none => true
      let sp := { s.sp with extrapMaxUs := extrapUs }
      let sp := if newer then { sp with poses := (p :: sp.poses).take 1024 } else { sp with poseOos := satInc sp.poseOos }
      next (noteOwn 5 queue entry { epoch := s.now } { s with sp := sp })

/-- The fields of a batch descriptor in memory (Table 12.8). -/
def State.descFlags (s : State) (c va : Nat) : Nat := s.vnum c (va + 4) 1

/-- Aligns the points of a region; `tm i` is the time of point i. -/
def alignRegion (rot : Mat) (trans : List Nat) (a b : Mat × List Nat) (t0 t1 : Int) (pts : List (List Byte × Int)) : List Byte :=
  pts.flatMap fun (x : List Byte × Int) =>
    let bs := x.1
    let n := fun (o : Nat) => leNat ((bs.drop o).take 4)
    let p := (Mat.mulVec rot [n 0, n 4, n 8]).zipWith fadd trans
    let w := if t1 = t0 then 0 else fdiv (fOfInt (x.2 - t0)) (fOfInt (t1 - t0))
    let m : Mat × List Nat :=
      if x.2 = t0 then a else if x.2 = t1 then b else (Mat.zip (fmix w) a.1 b.1, a.2.zipWith (fmix w) b.2)
    (alignPoint m p).flatMap (leBytes 4) ++ bs.drop 12

/-- The points of a region with their times: `base` and the point's own offset in units of 2 µs. -/
def State.timedPoints (s : State) (c va n : Nat) (base : Int) : List (List Byte × Int) :=
  (List.range n).map fun i =>
    let bs := s.vread c (va + 16 + 16 * i) 16
    (bs, base + 2000 * (leNat (bs.drop 14) : Int))

/-- The trigger time of a member in the batch of instant `ref` that the tundish holds; else `epoch`. [log 84 DEDUCED] -/
def State.memberTime (s : State) (u ref member epoch : Nat) : Nat :=
  let held := (s.tundish u).slots.find? fun y => decide (y.state = .held ∧ y.t = ref)
  match held.bind fun y => y.times.find? fun z => decide (z.1 = member) with
  | some z => z.2
  | none => epoch

/-- ALIGN_POINTS of a sensor slot (R439). -/
def execAlignPoints (queue entry slot : Nat) (s : State) : Host.Outcome State Fault Refusal :=
  match s.entryOnce 5 queue entry 2 with
  | none => next s
  | some (r, en) =>
    let c := r.ctx
    let a := en.tensors.getD 0 0
    let d := en.tensors.getD 1 0
    let o := en.tensors.getD 2 0
    let rec_ := s.cal (s.calOf r.flask) slot
    if rec_.kind ≠ 3 ∨ 63 < slot then nextSweep (entryFault 5 queue r 1 s)
    else
      let x := s.instream (rec_.num 1 1)
      let ref := s.vnum c (d + 8) 8
      let flags := s.descFlags c d
      let attrs : Attrs := { concealed := bitAt flags 1 }
      let gone := bitAt flags 0 || !bitAt (s.vnum c (d + 24) 4) x.member
      let n := s.vnum c a 8
      if gone then
        next (noteOwn 5 queue entry { attrs := attrs, epoch := s.vnum c (d + 16) 8, missing := true } (vwrite c o (leBytes 8 0) s))
      else
        let base : Int := s.memberTime x.tundish ref x.member (s.vnum c (d + 16) 8) + twosVal 32 (rec_.num 4 4)
        let pts := s.timedPoints c a n base
        let times := pts.map (·.2)
        let t0 := times.foldl min (times.headD base)
        let t1 := times.foldl max (times.headD base)
        match s.poseAt t0.toNat, s.poseAt t1.toNat, s.poseAt ref with
        | some p0, some p1, some pt =>
          let out := alignRegion rec_.rot rec_.trans (alignment p0 pt) (alignment p1 pt) t0 t1 pts
          next (noteOwn 5 queue entry { attrs := attrs, epoch := s.vnum c (d + 16) 8 }
            (vwrite c o (s.vread c a 16 ++ out) s))
        | _, _, _ =>
          next (noteOwn 5 queue entry { attrs := attrs, epoch := s.vnum c (d + 16) 8, missing := true }
            (noPose (writeFree c o (16 + 16 * n) s)))

/-- TRACK_UPDATE of a set with its maximum of detections (R440 to R442). [log 83 DEDUCED] -/
def execTrackUpdate (queue entry set most : Nat) (s : State) : Host.Outcome State Fault Refusal :=
  match s.entryOnce 5 queue entry 3 with
  | none => next s
  | some (r, en) =>
    let x := s.trackSet set
    let c := r.ctx
    let a := en.tensors.getD 0 0
    let d := en.tensors.getD 1 0
    if x.capacity = 0 ∨ x.flask ≠ r.flask ∨ !within 1 4096 most then next s
    else
      let n := min most (s.vnum c a 4)
      let ds := (List.range n).map fun i => detectionOf (s.vread c (a + 16 + 48 * i) 48)
      let ref := s.vnum c (d + 8) 8
      let flags := s.descFlags c d
      let o := x.update ds ref (bitAt flags 0) s.ego (s.poseAt ref)
      let oos := decide (o.set.oos ≠ x.oos) || match x.lastTime with | some t => decide (ref ≤ t) | none => false
      let s1 := s.setTrackSet set o.after
      let s1 := if oos then s1 else vwrite c (en.tensors.getD 2 0) (o.bytes ref) s1
      let s1 := if o.unaligned then noPose s1 else s1
      next (noteOwn 5 queue entry { attrs := { concealed := bitAt flags 1 }, epoch := s.vnum c (d + 16) 8, missing := o.missing } s1)

/-- The cube of a COSTMAP_BUILD: static layer 0 in TA, the others in the extensions, occupancy in TB. -/
def State.costCube (s : State) (r : PourRun) (en : Entry) (rec_ : CostRec) : List Nat :=
  let byte := fun (va : Nat) => (s.vbyte r.ctx va).toNat
  let layer := fun (l : Nat) => en.tensors.getD (if l = 0 then 0 else l + 2) 0
  rec_.cube (fun l i => byte (layer l + i)) (fun t i => byte (en.tensors.getD 1 0 + t * (rec_.w * rec_.h) + i))

/-- COSTMAP_BUILD (R444): static layers in TA and the extensions, occupancy in TB. -/
def execCostmapBuild (queue entry : Nat) (rec_ : CostRec) (s : State) : Host.Outcome State Fault Refusal :=
  match s.entryOnce 5 queue entry 4 with
  | none => next s
  | some (r, en) =>
    if !rec_.ok then next s
    else
      next (noteOwn 5 queue entry { epoch := s.now }
        (vwrite r.ctx (en.tensors.getD 2 0) ((s.costCube r en rec_).map (BitVec.ofNat 8)) s))

/-- The points of a region, in order: x, y, z. -/
def State.regionPoints (s : State) (c va : Nat) : List (List Nat) :=
  (List.range (s.vnum c va 8)).map fun i => [0, 4, 8].map fun o => s.vnum c (va + 16 + 16 * i + o) 4

/-- OCTREE_BUILD (R446): regions in TA and up to 8 further tensors. -/
def execOctreeBuild (queue entry : Nat) (rec_ : OctRec) (s : State) : Host.Outcome State Fault Refusal :=
  match s.entryOnce 5 queue entry 5 with
  | none => next s
  | some (r, en) =>
    let regions := en.tensors.headD 0 :: (en.tensors.drop 3).take 8
    let b := (regions.flatMap (s.regionPoints r.ctx)).foldl (fun (b : OctBuild) p => b.point rec_ p) {}
    let s := vwrite r.ctx (en.tensors.getD 2 0) b.bytes s
    let sp := { s.sp with octCoarse := satAdd s.sp.octCoarse b.coarse, outOfExtent := satAdd s.sp.outOfExtent b.outside }
    next (noteOwn 5 queue entry { epoch := s.now } { s with sp := sp })

/-- The search of a PLAN on the active copy of its lattice (R447, R448). -/
def State.planSearch (s : State) (r : PourRun) (en : Entry) (rec_ : PlanRec) (m : LatticeImg) (speed : Nat) : PlanOut :=
  let cube := en.tensors.getD 0 0
  let oct := en.tensors.getD 1 0
  let cell := fun (o : Nat) => ffloor (fdiv (fneg o) m.cellM)
  let field : Field :=
    { img := m, r := rec_, start := (cell rec_.x0, cell rec_.y0)
      cost := fun t x y => (s.vbyte r.ctx (cube + t * (rec_.w * rec_.h) + y.toNat * rec_.w + x.toNat)).toNat
      voxel := fun x y z => octOccupied (fun i => (s.vnum r.ctx (oct + 8 * i) 4, s.vnum r.ctx (oct + 8 * i + 4) 4)) x y z }
  let start : PNode := { ix := field.start.1, iy := field.start.2, h := 0, v := m.speedClass speed, g := 0 }
  let budget := match rec_.stopAt with | some n => min n rec_.budget | none => rec_.budget
  field.search start budget ((List.range rec_.passes).zip rec_.eps) 0 {}

/-- PLAN (R447 to R449). -/
def execPlan (queue entry : Nat) (rec_ : PlanRec) (s : State) : Host.Outcome State Fault Refusal :=
  match s.entryOnce 5 queue entry 6 with
  | none => next s
  | some (r, en) =>
    let x := s.lattice rec_.lattice
    match latticeOf x.active with
    | none => next s
    | some m =>
      if x.flask ≠ r.flask ∨ !within 1 4 rec_.passes ∨ rec_.eps.length < rec_.passes then next s
      else
        let k := s.planCount r.flask
        match s.poseAt rec_.t with
        | none =>
          let s := s.setPlanCount r.flask { k with plans := satInc k.plans }
          next (noteOwn 5 queue entry { epoch := rec_.t, missing := true } (noPose (writeFree r.ctx (en.tensors.getD 2 0) 32 s)))
        | some p =>
          let o := s.planSearch r en rec_ m (fsqrt (fadd (fmul p.vx p.vx) (fmul p.vy p.vy)))
          let none_ := o.path.isEmpty
          let s := s.setPlanCount r.flask { plans := satInc k.plans, anytime := if o.anytime then satInc k.anytime else k.anytime
                                            noPath := if none_ then satInc k.noPath else k.noPath
                                            expansions := k.expansions + o.made }
          next (noteOwn 5 queue entry { attrs := { valid := !none_, anytime := o.anytime }, epoch := s.now }
            (vwrite r.ctx (en.tensors.getD 2 0) (o.bytes m rec_) s))

/-- One channel of one cell of BEV_LIFT (R437): `f k v u` reads the feature maps. -/
def liftCell (copy : List (Nat × Nat × Nat)) (d : ProjDesc) (cell : Nat) (f : Nat → Nat → Nat → Nat) : Nat :=
  let nz := d.zs.length
  let per := d.sensors.length * nz
  let (acc, n) := (List.range per).foldl (fun (a : Nat × Nat) i =>
    let e := copy.getD (cell * per + i) (0xFFFFFFFF, 0, 0)
    if e.1 = 0xFFFFFFFF then a
    else
      let k := i / nz
      let v := e.1 / d.fw
      let u := e.1 % d.fw
      let fx := toF32 (.fin false e.2.1 (-15))
      let fy := toF32 (.fin false e.2.2 (-15))
      let top := flerp (f k v u) (f k v (u + 1)) fx
      let low := flerp (f k (v + 1) u) (f k (v + 1) (u + 1)) fx
      (fadd a.1 (flerp top low fy), a.2 + 1)) (0, 0)
  fmul acc (if n = 0 then 0 else fdiv fOne (fOfNat n))

/-- The rows that BEV_LIFT makes: a row per cell, a value per channel. -/
def State.liftRows (s : State) (c : Nat) (a : TDesc) (copy : List (Nat × Nat × Nat)) (d : ProjDesc) (chans pitch : Nat) :
    List (List Num) :=
  let feature := fun (ch k v u : Nat) =>
    s.elem32 c { a with va := a.va + k * pitch, scaleVa := a.scaleVa + k * (d.fw * d.fh) } chans (v * d.fw + u) ch
  (List.range (d.w * d.h)).map fun cell => (List.range chans).map fun ch => f32 (liftCell copy d cell (feature ch))

/-- BEV_LIFT of a projection index table with C channels and the byte pitch between feature maps. -/
def execBevLift (queue entry : Nat) (core : Nat × Nat) (table chans pitch : Nat) (ts : List TDesc) (s : State) :
    Host.Outcome State Fault Refusal :=
  match s.arrayOnce queue entry 0x040 with
  | none => next s
  | some (r, en) =>
    let x := s.projection table
    match x.copyOf (s.calOf r.flask) with
    | none => next s
    | some copy =>
      if !x.used ∨ x.flask ≠ r.flask ∨ !within 1 4096 chans then next s
      else
        next (noteActed queue entry (putRows core r (en.tensor ts 2) chans 0
          (s.liftRows r.ctx (en.tensor ts 0) copy x.desc chans pitch) s))

end Sys2Proof.Machine
end

