-- ==== Sys2Proof/Machine/ControlCmds.lean ====
section
/-!
DEFINITION. The commands of area 0x06, the events of loops, frames and gates, and the operations of the Loop Processor and
the Solver (spec 14_control_and_solver.md).
-/

namespace Sys2Proof.Machine

/-- NO_CONTROL_OBJECT (Table 14.13). [log 86 DEDUCED] -/
def noControlObject : Answer := .reject 6 0xF

/-- The sender may act on an object of a flask: NOT_PERMITTED where it is no tenant, NO_CONTROL_OBJECT where the object is
absent or another flask's (R480). [log 86 DEDUCED] -/
def State.controlCheck (s : State) (t : Ticket) (exists_ : Bool) (f : Nat) : Option Answer :=
  if (s.senderFlask t).isNone then some notPermitted
  else if !exists_ || !s.isTenant t f then some noControlObject
  else none

/-- Bytes `a` up of a record as a number. -/
def numAt (b : List Byte) (a n : Nat) : Nat := leNat ((b.drop a).take n)
def zerosAt (b : List Byte) (a n : Nat) : Bool := ((b.drop a).take n).all (· = 0)

/-! ### Loop records (Tables 14.2 and 14.3, R460) -/

def sectionOf (b : List Byte) : Section :=
  { kind := numAt b 0 1, clamp := bitAt (numAt b 1 1) 0, c := (List.range 5).map fun i => numAt b (8 + 8 * i) 8
    yMin := numAt b 48 8, yMax := numAt b 56 8 }

def sectionBytesOk (b : List Byte) : Bool :=
  let k := sectionOf b
  decide (k.kind ≤ 2 ∧ numAt b 1 1 ≤ 1) && zerosAt b 2 6 && k.c.all dFinite
    && (k.c.drop (if k.kind = 0 then 5 else if k.kind = 1 then 2 else 1)).all (· = 0)
    && !(f64 k.yMin).isNan && !(f64 k.yMax).isNan && !dlt k.yMax k.yMin

/-- A cascade that R460 lets in. -/
def sectionsOk (l : List (List Byte)) : Bool :=
  l.all sectionBytesOk && l.dropLast.all fun b => decide (numAt b 0 1 ≠ 1)

def loopRecOf (b : List Byte) : LoopRec :=
  let fl := numAt b 3 1
  { flask := numAt b 0 1, sections := numAt b 1 1, spKind := numAt b 2 1
    errNeg := bitAt fl 0, manualTrack := bitAt fl 1, bumpless := bitAt fl 2, tripOutUsed := bitAt fl 3
    periodNs := numAt b 4 4, delayNs := numAt b 8 4, spIndex := numAt b 12 2, fbSlot := numAt b 14 2
    fbMaxAge := numAt b 16 4, staleTrip := numAt b 20 1, cls := numAt b 21 1, outSlot := numAt b 22 2
    ffA := numAt b 24 2, ffB := numAt b 26 2, posSlot := numAt b 28 2, velSlot := numAt b 30 2
    deadband := numAt b 32 8, uMin := numAt b 40 8, uMax := numAt b 48 8, slew := numAt b 56 8
    tripOut := numAt b 64 8, manualInit := numAt b 72 8 }

/-- A loop record within Table 14.2, for channel `k`. -/
def State.loopRecOk (s : State) (k : Nat) (b : List Byte) : Bool :=
  let r := loopRecOf b
  let up := s.loop r.spIndex
  let table := fun v => decide (v < 256 ∨ v = 0xFFFF)
  decide (numAt b 3 1 < 16) && zerosAt b 80 48
    && within 1 8 r.sections && decide (r.spKind ≤ 2) && within 31250 100000000 r.periodNs && within 5000 r.periodNs r.delayNs
    && (match r.spKind with
      | 0 => decide (r.spIndex < 1024)
      | 1 => decide (r.spIndex / 256 ≤ 15 ∧ r.spIndex % 256 ≤ 63)
      | _ => decide (r.spIndex < k ∧ up.cascade ≠ [] ∧ up.record.periodNs = r.periodNs))
    && decide (r.fbSlot < 1024) && within 1000 1000000000 r.fbMaxAge && decide (1 ≤ r.staleTrip)
    && decide (r.outSlot < 1024 ∨ r.outSlot = 0xFFFF) && table r.ffA && table r.ffB
    && decide (r.posSlot < 1024 ∧ r.velSlot < 1024)
    && !(f64 r.deadband).isNan && !dlt r.deadband 0 && dlt r.uMin r.uMax && dlt 0 r.slew

/-- A table a loop of flask `f` may read (R468). -/
def State.tableFor (s : State) (f k : Nat) : Bool :=
  decide (k = 0xFFFF) || ((s.ffTable k).used && decide ((s.ffTable k).flask = f))

/-! ### Loop commands -/

/-- [log 86 DEDUCED] -/
def execConfigureLoop (p : Packet) (s : State) : Host.Outcome State Fault Refusal :=
  command 0x0601 20 false p s fun s t =>
    let k := p.u8 12
    let c := s.loop k
    let known := decide (c.cascade ≠ [])
    if 127 < k ∨ 1 < p.u8 13 then reserved
    else if s.engineGone 6 then engineMissing 6
    else if (s.senderFlask t).isNone then notPermitted
    else if known ∧ !s.isTenant t c.record.flask then noControlObject
    else if p.u8 13 = 0 then
      if !known then noControlObject
      else if c.state = .auto then .reject 6 4
      else
        let s := dropPending k 4 s
        ok (s.setLoop k { s.loop k with state := .off, outValid := false, due := none })
    else if c.state ≠ .off then .reject 6 4
    else if (s.accessFault t.ctx (p.u64 16) 128 false).isSome then .reject 3 6
    else
      let b := s.vread t.ctx (p.u64 16) 128
      let r := loopRecOf b
      if !s.loopRecOk k b then .reject 6 5
      else if !s.isTenant t r.flask then notPermitted
      else if (s.accessFault t.ctx (p.u64 24) (64 * r.sections) false).isSome then .reject 3 6
      else
        let secs := (List.range r.sections).map fun i => s.vread t.ctx (p.u64 24 + 64 * i) 64
        if !sectionsOk secs then .reject 6 7
        else if !s.tableFor r.flask r.ffA ∨ !s.tableFor r.flask r.ffB then .reject 6 8
        else if !s.rateFits k r.sections r.periodNs then .reject 6 6
        else
          -- R58: a trip input asserted when the loops are first configured
          let s := if s.lines.tripA then tripBy 0 s else s
          let s := if s.lines.tripB then tripBy 1 s else s
          ok (s.setLoop k { c with
            state := if s.ctl.latched then .tripped else .manual
            record := r, cascade := secs.map sectionOf, u := r.manualInit, manual := r.manualInit
            sp := {}, outValid := false, staleRun := 0, lastSample := s.now, due := none, values := [] })

/-- [log 88 DEDUCED] -/
def execSetLoopCoeff (p : Packet) (s : State) : Host.Outcome State Fault Refusal :=
  command 0x0602 12 false p s fun s t =>
    let k := p.u8 12
    let n := p.u8 13
    let c := s.loop k
    if 127 < k ∨ !within 1 8 n then reserved
    else if s.engineGone 6 then engineMissing 6
    else match s.controlCheck t (c.cascade ≠ []) c.record.flask with
      | some a => a
      | none =>
        if c.state = .auto then .reject 6 3
        else if (s.accessFault t.ctx (p.u64 16) (64 * n) false).isSome then .reject 3 6
        else
          let secs := (List.range n).map fun i => s.vread t.ctx (p.u64 16 + 64 * i) 64
          if !sectionsOk secs then .reject 6 7
          else if c.state ≠ .off ∧ !s.rateFits k n c.record.periodNs then .reject 6 6
          else
            let s := match c.staged with
              | some x => finishOk x.2.2 s
              | none => s
            .later (s.setLoop k { c with staged := some (secs.map sectionOf, s.now, t) })

def execOpenLoop (p : Packet) (s : State) : Host.Outcome State Fault Refusal :=
  command 0x0603 1 false p s fun s t =>
    let k := p.u8 12
    let c := s.loop k
    if 127 < k then reserved
    else if s.engineGone 6 then engineMissing 6
    else match s.controlCheck t (c.cascade ≠ []) c.record.flask with
      | some a => a
      | none =>
        if c.state = .faulted then ok (s.setLoop k { c with state := .opened })
        else if c.state ≠ .auto ∨ c.pending.isSome then .reject 6 4
        else .later (s.setLoop k { c with pending := some (.opening t) })

def execCloseLoop (p : Packet) (s : State) : Host.Outcome State Fault Refusal :=
  command 0x0604 2 false p s fun s t =>
    let k := p.u8 12
    let mode := p.u8 13
    let c := s.loop k
    if 127 < k ∨ 1 < mode then reserved
    else if s.engineGone 6 then engineMissing 6
    else match s.controlCheck t (c.cascade ≠ []) c.record.flask with
      | some a => a
      | none =>
        let may := if mode = 1 then decide (c.state = .manual ∨ c.state = .opened) else decide (c.state = .auto ∨ c.state = .opened)
        if !may ∨ c.pending.isSome then .reject 6 4
        else .later (s.setLoop k { c with pending := some (if mode = 1 then .auto t s.now else .manual t) })

def execSetSignal (p : Packet) (s : State) : Host.Outcome State Fault Refusal :=
  command 0x0605 12 true p s fun s _ =>
    let k := p.u16 12
    if 1023 < k ∨ 1 < p.u8 14 then reserved
    else if s.engineGone 6 then engineMissing 6
    else ok (s.setSignal k { value := p.u64 16, time := s.now, valid := decide (p.u8 14 = 1) })

def execSetManual (p : Packet) (s : State) : Host.Outcome State Fault Refusal :=
  command 0x0606 12 false p s fun s t =>
    let k := p.u8 12
    let c := s.loop k
    if 127 < k then reserved
    else if s.engineGone 6 then engineMissing 6
    else match s.controlCheck t (c.cascade ≠ []) c.record.flask with
      | some a => a
      | none => ok (s.setLoop k { c with manual := p.u64 16 })

def execTripLoops (p : Packet) (s : State) : Host.Outcome State Fault Refusal :=
  command 0x0607 0 true p s fun s _ =>
    if s.engineGone 6 then engineMissing 6 else ok (tripBy 2 s)

/-- CLEAR_TRIP (R471). -/
def execClearTrip (p : Packet) (s : State) : Host.Outcome State Fault Refusal :=
  command 0x0608 0 true p s fun s _ =>
    if s.engineGone 6 then engineMissing 6
    else if s.lines.tripA ∨ s.lines.tripB ∨ s.safe.safeState then .reject 6 1
    else
      let loops := s.ctl.loops.map fun (x : Nat × LoopCh) =>
        (x.1, if x.2.state = .tripped then { x.2 with state := .opened } else x.2)
      ok { s with ctl := { s.ctl with latched := false, tripSources := 0, loops := loops } }

def execQueryLoop (p : Packet) (s : State) : Host.Outcome State Fault Refusal :=
  command 0x060E 1 false p s fun s t =>
    let k := p.u8 12
    let c := s.loop k
    if 127 < k then reserved
    else match s.controlCheck t (c.cascade ≠ []) c.record.flask with
      | some a => a
      | none => ok s ((List.range 6).flatMap fun w => leBytes 4 (s.loopWord k w))

/-! ### Maps and gates (R457 to R459) -/

/-- A map entry and its scale bytes, as the map it stands for. -/
def frameMapOf (transmit : Bool) (b scale : List Byte) : FrameMap :=
  let n := if transmit then numAt b 14 1 else 1
  { medium := numAt b 0 1, port := numAt b 1 1, vlan := numAt b 2 2, id := numAt b 4 4, mac := numAt b 8 6
    statusAt := numAt b 15 1, loop := numAt b 16 2, length := numAt b 18 2
    fields := (List.range n).map fun k =>
      { at_ := numAt b (20 + 5 * k) 2, kind := numAt b (22 + 5 * k) 1, slot := numAt b (23 + 5 * k) 2
        scale := if transmit then numAt scale (8 * k) 4 else numAt b 28 4
        offset := if transmit then numAt scale (8 * k + 4) 4 else numAt b 32 4 } }

/-- A map entry within Table 14.1; a transmit map's loop is configured. -/
def State.mapOk (s : State) (transmit : Bool) (b scale : List Byte) : Bool :=
  let m := frameMapOf transmit b scale
  let n := numAt b 14 1
  decide (m.medium ≤ 2 ∧ m.port ≤ (if m.medium = 2 then 1 else 3)) && within 1 8 n && zerosAt b 60 4
    && (decide (m.medium = 0) || (!bitAt m.vlan 12 && decide (m.id < 65536)))
    && m.fields.all (fun f => decide (f.kind ≤ 4 ∧ f.slot < 1024) && (f32 f.scale).isFin && !(f32 f.scale).isZero
        && (f32 f.offset).isFin)
    && (if transmit then
          decide (m.loop < 128) && decide ((s.loop m.loop).cascade ≠ []) && within 1 (if m.medium = 0 then 2048 else 1500) m.length
            && decide (m.statusAt = 0xFF ∨ m.statusAt < m.length)
            && m.fields.all (fun f => decide (f.at_ + fieldBytes f.kind ≤ m.length)) && zerosAt b (20 + 5 * n) (40 - 5 * n)
        else zerosAt b 25 3 && zerosAt b 36 24)

/-- Map entries put into a table of maps from an index on; `raw` is each entry's bytes and scale bytes. -/
def mapsFrom (transmit : Bool) (first : Nat) (raw : List (List Byte × List Byte)) (m : Tab FrameMap) : Tab FrameMap :=
  ((List.range raw.length).zip raw).foldl
    (fun (m : Tab FrameMap) (x : Nat × List Byte × List Byte) => Tab.put m (first + x.1) (frameMapOf transmit x.2.1 x.2.2)) m

def execLoadMaps (p : Packet) (s : State) : Host.Outcome State Fault Refusal :=
  command 0x0609 20 true p s fun s t =>
    let transmit := decide (p.u8 12 = 1)
    let first := p.u16 14
    let n := p.u16 16
    let va := p.u64 24
    let bytes := if transmit then 128 * n else 64 * n
    if 1 < p.u8 12 then reserved
    else if s.engineGone 6 then engineMissing 6
    else if (if transmit then 128 else 256) < first + n then .reject 6 0xB
    else if (s.accessFault t.ctx va bytes false).isSome then .reject 3 6
    else
      let raw := (List.range n).map fun i =>
        (s.vread t.ctx (va + 64 * i) 64, if transmit then s.vread t.ctx (va + 64 * (n + i)) 64 else [])
      if !raw.all (fun (x : List Byte × List Byte) => s.mapOk transmit x.1 x.2) then .reject 6 0xB
      else
        let ctl := if transmit then
            { s.ctl with txMaps := mapsFrom true first raw s.ctl.txMaps
                         queued := s.ctl.queued.filter fun q => !(decide (first ≤ q.map ∧ q.map < first + n)) }
          else { s.ctl with rxMaps := mapsFrom false first raw s.ctl.rxMaps }
        ok { s with ctl := ctl }

/-- A gate control list within R459. -/
def gatesOk (g : List (Nat × Nat)) : Bool :=
  let cycle := g.foldl (fun n (x : Nat × Nat) => n + x.2) 0
  within 1 64 g.length && g.all (fun (x : Nat × Nat) => decide (x.1 < 256 ∧ 100 ≤ x.2)) && within 10000 1000000000 cycle

/-- SET_GATE_LIST; `gates` is the list at the VA (mask, interval in ns), for which no byte layout is given.
[log 88 DEDUCED] -/
def execSetGateList (p : Packet) (gates : List (Nat × Nat)) (s : State) : Host.Outcome State Fault Refusal :=
  command 0x060A 12 true p s fun s t =>
    let k := p.u8 12
    if 5 < k then reserved
    else if s.engineGone 6 then engineMissing 6
    else if (s.accessFault t.ctx (p.u64 16) 1 false).isSome then .reject 3 6
    else if gates.length ≠ p.u8 13 ∨ !gatesOk gates then .reject 6 0xC
    else
      let x := s.port k
      let s := match x.stagedGates with
        | some g => finishOk g.2.2 s
        | none => s
      .later (s.setPort k { x with stagedGates := some (gates, s.now, t) })

/-- The first cycle start at least 1 ms after take-up: the staged list takes effect (R459). -/
def execGateCycleStart (port : Nat) (s : State) : Host.Outcome State Fault Refusal :=
  let x := s.port port
  match x.stagedGates with
  | none => next s
  | some (gates, since, t) =>
    let cycle := gates.foldl (fun n (g : Nat × Nat) => n + g.2) 0
    let at_ := (since + 1000000 + cycle - 1) / max 1 cycle * cycle
    next (finishOk t (advance at_ (s.setPort port { x with gates := gates, stagedGates := none })))

/-- An arriving frame: every receive map it matches takes its field (R457). `port` is the CAN XL channel or the Ethernet
port of its kind. [log 89 DEDUCED] -/
def execReceiveFrame (medium port vlan id mac time : Nat) (payload : List Byte) (s : State) :
    Host.Outcome State Fault Refusal :=
  let live := (medium = 0 ∨ (s.port (ethPort medium port)).up) ∧ s.lines.run = .running ∧ !s.engineGone 6
  if !live then next s
  else
    let hit := fun (m : FrameMap) => decide (m.medium = medium ∧ m.port = port ∧ m.id = id)
      && (decide (medium = 0) || decide (m.vlan % 4096 = vlan % 4096 ∧ m.mac = mac))
    next <| s.ctl.rxMaps.foldl (fun s (x : Nat × FrameMap) =>
      match x.2.fields with
      | f :: _ =>
        if hit x.2 ∧ f.at_ + fieldBytes f.kind ≤ payload.length then
          s.setSignal f.slot { value := f.valueOf (numAt payload f.at_ (fieldBytes f.kind)), time := time, valid := true }
        else s
      | [] => s) s

/-- The medium lets the frame of a map go: no frame of a lower identifier waits on its CAN XL channel, or its port's link is
up and the gate of its class is open (R458, R459, R624). [log 89 DEDUCED] -/
def State.txLets (s : State) (m : FrameMap) : Bool :=
  if m.medium = 0 then
    s.ctl.queued.all fun q =>
      let o := Tab.get m s.ctl.txMaps q.map
      !(decide (o.medium = 0 ∧ o.port = m.port ∧ o.id < m.id))
  else
    let x := s.port (ethPort m.medium m.port)
    x.up && x.gateOpen (m.vlan / 8192) s.now

def execTransmitFrameSent (map : Nat) (s : State) : Host.Outcome State Fault Refusal :=
  match s.ctl.queued.find? fun q => decide (q.map = map), s.ctl.txMaps.find? fun x => decide (x.1 = map) with
  | some q, some (_, m) =>
    if !s.txLets m then next s
    else
      let rest := s.ctl.queued.filter fun q => decide (q.map ≠ map)
      next { s with ctl := { s.ctl with queued := rest, sent := s.ctl.sent ++ [(map, q.payload)] } }
  | _, _ => next s

/-! ### Tables (R468, R469) -/

def ffCopyOf (b : List Byte) : FfCopy :=
  { friction := decide (numAt b 0 1 = 1), wrap := decide (numAt b 1 1 = 1), pos0 := numAt b 8 8, pitch := numAt b 16 8
    points := (chunks 4 1024 (b.drop 32)).map leNat }

def ffOk (b : List Byte) : Bool :=
  let c := ffCopyOf b
  decide (numAt b 0 1 ≤ 1 ∧ numAt b 1 1 ≤ 1) && zerosAt b 2 6 && zerosAt b 24 8 && dFinite c.pos0 && dFinite c.pitch
    && dlt 0 c.pitch && c.points.all fun a => (f32 a).isFin

def execLoadFfTable (p : Packet) (s : State) : Host.Outcome State Fault Refusal :=
  command 0x060B 12 false p s fun s t =>
    let k := p.u16 12
    let f := p.u8 14
    let x := s.ffTable k
    if 255 < k ∨ 15 < f ∨ 1 < p.u8 15 then reserved
    else if s.engineGone 6 then engineMissing 6
    else if !s.isTenant t f then notPermitted
    else if x.used ∧ x.flask ≠ f then noControlObject
    else if s.objectNamed 6 k then .reject 6 0x10
    else if x.switchAt.isSome then .reject 6 8
    else if (s.accessFault t.ctx (p.u64 16) 4128 false).isSome then .reject 3 6
    else
      let b := s.vread t.ctx (p.u64 16) 4128
      if !ffOk b then .reject 6 8
      else
        let at_ := (s.now + 1000000 + 999999) / 1000000 * 1000000
        let sw := if p.u8 15 = 1 then some at_ else none
        ok (s.setFfTable k { x with used := true, flask := f, inactive := ffCopyOf b, switchAt := sw }) (leBytes 8 (sw.getD 0))

/-- The switch instant of a table. -/
def execFfTableSwitch (table : Nat) (s : State) : Host.Outcome State Fault Refusal :=
  let x := s.ffTable table
  match x.switchAt with
  | none => next s
  | some at_ => next (advance at_ (s.setFfTable table { x with active := x.inactive, inactive := x.active, switchAt := none }))

/-! ### Traces (R472) -/

/-- A trace record within its ranges. -/
def traceOk (b : List Byte) : Bool :=
  decide (numAt b 0 1 < 128 ∧ numAt b 1 1 ≤ 13 ∧ numAt b 2 2 < 1024 ∧ 1 ≤ numAt b 4 1 ∧ numAt b 5 1 ≤ 4 ∧ numAt b 8 4 ≤ 65535)
    && zerosAt b 6 2

def execArmTrace (p : Packet) (s : State) : Host.Outcome State Fault Refusal :=
  command 0x060C 12 false p s fun s t =>
    let k := p.u8 12
    let action := p.u8 13
    let x := s.traceCh k
    let used := decide (x.state ≠ 0)
    if 15 < k ∨ 2 < action then reserved
    else if s.engineGone 6 then engineMissing 6
    else if (s.senderFlask t).isNone then notPermitted
    else if used ∧ !s.isTenant t x.flask then noControlObject
    else if action = 0 then
      if (s.accessFault t.ctx (p.u64 16) 16 false).isSome then .reject 3 6
      else
        let b := s.vread t.ctx (p.u64 16) 16
        let c := s.loop (numAt b 0 1)
        if !traceOk b then .reject 6 9
        else if c.cascade = [] ∨ !s.isTenant t c.record.flask then noControlObject
        else ok (s.setTraceCh k {
          state := 1, loop := numAt b 0 1, what := numAt b 1 1, slot := numAt b 2 2, decim := numAt b 4 1, trigger := numAt b 5 1
          pre := numAt b 8 4, level := numAt b 12 4, owner := t.ctx, flask := c.record.flask })
    else if !used then noControlObject
    else if action = 1 then ok (if x.state = 1 ∧ x.trigger = 4 then s.setTraceCh k (x.fire s.now) else s)
    else ok (if x.state = 1 ∨ x.state = 2 then s.setTraceCh k { x with state := 3 } else s)

/-- What READ_TRACE returns of a frozen trace: the header of 32 bytes, then the samples (R472). -/
def State.traceRead (s : State) (x : TraceCh) : List Byte :=
  let n := x.ring.length
  let gap := (s.loop x.loop).record.periodNs * x.decim
  leBytes 8 x.trigTime ++ leBytes 8 (x.lastTime - (n - 1) * gap) ++ leBytes 4 gap ++ leBytes 4 n
    ++ leBytes 4 x.trigIndex ++ [0, 0, 0, 0] ++ x.ring.flatMap (leBytes 4)

def execReadTrace (p : Packet) (s : State) : Host.Outcome State Fault Refusal :=
  command 0x060D 16 false p s fun s t =>
    let k := p.u8 12
    let x := s.traceCh k
    if 15 < k then reserved
    else if s.engineGone 6 then engineMissing 6
    else match s.controlCheck t (x.state ≠ 0) x.flask with
      | some a => a
      | none =>
        if x.state ≠ 3 then .reject 6 0xA
        else
          let bytes := (s.traceRead x).take (p.u32 24)
          ok (s.hostWrite (p.u64 16) bytes) (leBytes 4 bytes.length)

/-! ### Samples and outputs (R461 to R467, R469) -/

/-- What a channel's sample at an instant reads. -/
def State.loopIn (s : State) (c : LoopCh) (at_ : Nat) : LoopIn :=
  let r := c.record
  let keep : SetPoint × Bool := (c.sp, false)
  let sp : SetPoint × Bool := match r.spKind with
    | 0 =>
      let g := s.signal r.spIndex
      if g.valid then ({ value := g.value, epoch := g.time }, true) else keep
    | 1 =>
      let t := s.traj (r.spIndex / 256)
      let col := r.spIndex % 256
      if t.valid ∧ col < t.columns then ({ value := t.pointAt col at_, epoch := t.epoch, attrs := t.attrs }, true) else keep
    | _ =>
      let o := s.loop r.spIndex
      if o.state ≠ .off ∧ o.outValid then ({ value := o.u, epoch := o.sp.epoch, attrs := o.sp.attrs }, true) else keep
  let g := s.signal r.fbSlot
  let ff := fun k => if k = 0xFFFF then (0, true)
    else ((s.ffTable k).copyAt at_).value (s.signal r.posSlot).value (s.signal r.velSlot).value r.deadband
  let a := ff r.ffA
  let b := ff r.ffB
  { sp := sp.1, spValid := sp.2, y := g.value, fresh := g.valid && decide (at_ - g.time ≤ r.fbMaxAge)
    ff := dadd a.1 b.1, ffOk := a.2 && b.2 }

/-- A staged coefficient set takes effect at an instant at least 10 µs after its take-up (R466). [log 88 DEDUCED] -/
def takeStaged (k at_ : Nat) (s : State) : State :=
  let c := s.loop k
  match c.staged with
  | none => s
  | some (secs, since, t) =>
    if at_ < since + 10000 then s
    else if c.state ≠ .off ∧ !s.rateFits k secs.length c.record.periodNs then
      finish t 3 6 6 [] (s.setLoop k { c with staged := none })
    else finishOk t (s.setLoop k { c with
      staged := none, cascade := zeroCascade secs, record := { c.record with sections := secs.length } })

/-- The change that waits for this instant is made before the sample (Table 14.4); answers the held output of a transfer.
[log 88 DEDUCED] -/
def takePending (c : LoopCh) (at_ : Nat) : LoopCh × Option Nat × Option Ticket :=
  match c.pending with
  | some (.auto t since) =>
    if at_ < since + 10000 then (c, none, none)
    else
      let held := if c.state = .manual then c.manual else c.u
      ({ c with state := .auto, pending := none }, some held, some t)
  | some (.manual t) =>
    ({ c with state := .manual, pending := none, manual := if c.record.manualTrack then c.u else c.manual }, none, some t)
  | some (.opening t) => ({ c with state := .opened, pending := none }, none, some t)
  | none => (c, none, none)

/-- The value a trace records. -/
def State.traceValue (s : State) (c : LoopCh) (t : TraceCh) : Nat :=
  fOfD (match t.what with
    | 0 => c.values.getD 0 0
    | 1 => c.values.getD 1 0
    | 2 => c.values.getD 2 0
    | 3 => c.u
    | 4 => c.values.getD 4 0
    | 13 => (s.signal t.slot).value
    | w => c.values.getD w 0)

/-- The traces of a channel see its sample. -/
def seeTraces (k at_ : Nat) (s : State) : State :=
  let c := s.loop k
  let traces := s.ctl.traces.map fun (x : Nat × TraceCh) => (x.1, if x.2.loop = k then x.2.see (s.traceValue c x.2) at_ else x.2)
  { s with ctl := { s.ctl with traces := traces } }

/-- A sample instant of a channel. The output of the sample before has left; the channel that gives the set-point has
computed this instant (R461, R463). -/
def execLoopSample (channel : Nat) (s : State) : Host.Outcome State Fault Refusal :=
  let c0 := s.loop channel
  let at_ := instantOf c0.record.periodNs c0.lastSample s.now
  let up := s.loop c0.record.spIndex
  if c0.cascade = [] ∨ c0.due.isSome then next s
  else if c0.state ≠ .off ∧ c0.record.spKind = 2 ∧ up.state ≠ .off ∧ up.lastSample < at_ then next s
  else
    let s := takeStaged channel at_ (advance at_ s)
    let c : LoopCh := { s.loop channel with lastSample := at_ }
    if c.state = .off then next (s.setLoop channel c)
    else
      let p := takePending c at_
      let c1 := p.1.sample (s.loopIn c at_) p.2.1
      let c1 := { c1 with due := some (at_, (s.flask c.record.flask).generation) }
      let s := seeTraces channel at_ (s.setLoop channel c1)
      let s := match p.2.2 with
        | none => s
        | some t => finish t 0 6 0 (if c1.state = .opened then [] else leBytes 8 c1.u) s
      next (if c1.state = .faulted then dropPending channel 4 s else s)

/-- The output instant: slot, result and frames (R458, R465). -/
def execLoopOutputInstant (channel : Nat) (s : State) : Host.Outcome State Fault Refusal :=
  let c := s.loop channel
  match c.due with
  | none => next s
  | some (at_, gen) =>
    let out := at_ + c.record.delayNs
    let s := advance out (s.setLoop channel { c with due := none })
    if c.state = .off then next s
    else
      let s := writeOutSlot channel out s
      let a := c.sp.attrs
      let h : Header := {
        outputTime := out, sourceEpoch := c.sp.epoch, generation := gen, cls := c.record.cls, flask := c.record.flask
        digest := s.digestFor (some c.record.flask) % 65536
        attrs := { valid := c.outValid, concealed := a.concealed, mixedGen := a.mixedGen, remapped := a.remapped
                   voted := a.voted, anytime := a.anytime, shifted := a.shifted } }
      next (queueFrames channel out (deliver h s))

/-! ### PUBLISH_TRAJ (R464, R465) -/

/-- PUBLISH_TRAJ into a trajectory slot; a header outside its ranges faults the job. [log 94 DEDUCED] -/
def execPublishTraj (queue entry slot : Nat) (s : State) : Host.Outcome State Fault Refusal :=
  match s.entryOnce 6 queue entry 1 with
  | none => next s
  | some (r, en) =>
    let a := en.tensors.getD 0 0
    let h := s.vread r.ctx a 32
    let n := numAt h 12 2
    let cols := numAt h 14 2
    if 15 < slot then next s
    else if !within 1000 1000000000 (numAt h 8 4) ∨ !within 2 4096 n ∨ !within 1 64 cols ∨ !zerosAt h 16 16 then
      nextSweep (entryFault 6 queue r 1 s)
    else
      let o := s.entryOut r entry en
      let t : Traj := {
        flask := r.flask, valid := o.attrs.valid && !o.missing, t0 := numAt h 0 8, dt := numAt h 8 4, columns := cols
        points := (List.range (n * cols)).map fun i => s.vnum r.ctx (a + 32 + 4 * i) 4
        epoch := o.epoch, attrs := o.attrs.carried }
      let s := noteOwn 6 queue entry { epoch := s.now } s
      if (s.flask r.flask).mode = .paced then
        next { s with ctl := { s.ctl with trajWaits := s.ctl.trajWaits ++ [(r.flask, slot, t)] } }
      else next (s.setTraj slot t)

/-! ### Resident problems (R473 to R477) -/

/-- CREATE_QP; `desc` is the description at the VA, for which Table 14.6 gives no byte layout. -/
def execCreateQp (p : Packet) (desc : QpDesc) (s : State) : Host.Outcome State Fault Refusal :=
  command 0x0620 12 false p s fun s t =>
    let k := p.u8 12
    let f := p.u8 13
    let x := s.qp k
    if 7 < k ∨ 15 < f then reserved
    else if s.engineGone 7 then engineMissing 6
    else if !s.isTenant t f then notPermitted
    else if x.created ∨ x.ticket.isSome then .reject 6 0x10
    else if (s.accessFault t.ctx (p.u64 16) 1 false).isSome then .reject 3 6
    else if !desc.ok then .reject 6 0xD
    else
      let cols := desc.columnsOf desc.n
      let nnz := nnzOf cols
      if 67108864 < s.solverUsed + desc.storeBytes nnz then .reject 6 0xE
      else .later (s.setQp k {
        flask := f, owner := t.ctx, desc := desc, nnzL := nnz, iterMacs := desc.iterMacs nnz
        factorMacs := Config.factorMacs (cols.map (·.length)), input := { epoch := s.now }, ticket := some t })

/-- The symbolic factor is built: the problem exists. -/
def execQpSymbolicFactorComplete (problem : Nat) (s : State) : Host.Outcome State Fault Refusal :=
  let x := s.qp problem
  match x.ticket with
  | none => next s
  | some t =>
    next (finish t 0 6 0 (leBytes 4 x.nnzL ++ leBytes 4 x.iterMacs ++ leBytes 4 ((x.factorMacs + 1023) / 1024)
      ++ leBytes 4 ((x.desc.storeBytes x.nnzL + 1023) / 1024)) (s.setQp problem { x with created := true, ticket := none }))

def execDestroyQp (p : Packet) (s : State) : Host.Outcome State Fault Refusal :=
  command 0x0621 1 false p s fun s t =>
    let k := p.u8 12
    let x := s.qp k
    if 7 < k then reserved
    else if s.engineGone 7 then engineMissing 6
    else match s.controlCheck t x.created x.flask with
      | some a => a
      | none => if s.objectNamed 4 k then .reject 6 0x10 else ok (endQp k s)

def execQueryQp (p : Packet) (s : State) : Host.Outcome State Fault Refusal :=
  command 0x0622 1 false p s fun s t =>
    let k := p.u8 12
    let x := s.qp k
    if 7 < k then reserved
    else match s.controlCheck t x.created x.flask with
      | some a => a
      | none => ok s ((List.range 6).flatMap fun w => leBytes 4 (s.qpWord k w))

/-- QP_UPDATE of a problem (R474). [log 94 DEDUCED] -/
def execQpUpdate (queue entry problem : Nat) (s : State) : Host.Outcome State Fault Refusal :=
  match s.entryOnce 7 queue entry 1 with
  | none => next s
  | some (r, en) =>
    let x := s.qp problem
    let a := en.tensors.getD 0 0
    let o := s.entryOut r entry en
    let gone := o.missing || (en.sources.map (s.sourceOut r.flask r)).any (·.missing)
    if !x.created ∨ x.flask ≠ r.flask then next s
    else if gone then next (noteOwn 7 queue entry { epoch := s.now } (s.setQp problem { x with inputMissing := true, input := o }))
    else
      let n := s.vnum r.ctx a 4
      let body := if within 1 65536 n then (List.range n).map fun i => s.vread r.ctx (a + 16 + 16 * i) 16 else []
      match if within 1 65536 n then x.changes (s.vread r.ctx a 16) body else none with
      | none => nextSweep (entryFault 7 queue r 1 s)
      | some l =>
        let x := { l.foldl Qp.change x with inputMissing := false, input := { o with attrs := o.attrs.carried } }
        next (noteOwn 7 queue entry { epoch := s.now } (s.setQp problem x))

/-- QP_SOLVE of a problem (R475 to R477). `stopAfter` is given where DEADLINE stops a free-running solve: the iterations that
end before it. [log 94 DEDUCED] -/
def execQpSolve (queue entry problem : Nat) (stopAfter : Option Nat) (s : State) : Host.Outcome State Fault Refusal :=
  match s.entryOnce 7 queue entry 2 with
  | none => next s
  | some (r, en) =>
    let x := s.qp problem
    if !x.created ∨ x.flask ≠ r.flask then next s
    else
      let o := x.solve (if (s.flask r.flask).mode = .paced then none else stopAfter)
      next (noteOwn 7 queue entry o.out (vwrite r.ctx (en.tensors.getD 2 0) o.bytes (s.setQp problem o.qp)))

end Sys2Proof.Machine
end

