-- ==== Sys2Proof/Machine/ConvCmds.lean ====
section
/-!
DEFINITION. The meanings of the convolution and sequence operations of the Tensor Array
(spec 07_convolution_and_sequence.md).
-/

namespace Sys2Proof.Machine

/-! ### Windows and padding (R239 to R246) -/

/-- The coordinate that a padding mode reads on an axis of length `n`; `none` stands for PAD_VALUE (Table 7.3). -/
def padCoord (mode n : Nat) (c : Int) : Option Nat :=
  if 0 ≤ c ∧ c < n then some c.toNat
  else match mode with
    | 0 => none
    | 1 => some (if c < 0 then 0 else n - 1)
    | 2 => some (if c < 0 then (-c).toNat else (2 * ((n : Int) - 1) - c).toNat)
    | _ => some (c % (n : Int)).toNat

/-- Global input row and column of a tap (R240). -/
def ConvRec.iy (x : ConvRec) (oy ky : Nat) : Int := ((x.outY0 + oy) * x.sy : Nat) - (x.padTop : Int) + (ky * x.dy : Nat)
def ConvRec.ix (x : ConvRec) (ox kx : Nat) : Int := (ox * x.sx : Nat) - (x.padLeft : Int) + (kx * x.dx : Nat)

/-- What a tap reads: a row and column of the map, or PAD_VALUE (R243). -/
def ConvRec.tap (x : ConvRec) (oy ox ky kx : Nat) : Option (Nat × Nat) :=
  match padCoord x.yMode x.inH (x.iy oy ky), padCoord x.xMode x.inW (x.ix ox kx) with
  | some my, some mx => some (my, mx)
  | _, _ => none

/-- Overshoot behind an axis of length `n`. -/
def overshoot (outN stride pad dil k n : Nat) : Int :=
  ((outN - 1) * stride : Nat) - (pad : Int) + (dil * (k - 1) : Nat) - ((n : Int) - 1)

/-- One axis keeps the limits of R246. -/
def axisOk (mode outN stride pad dil k n : Nat) : Bool :=
  decide (overshoot outN stride pad dil k n ≤ 255)
    && (mode ≠ 2 || (decide (pad ≤ n - 1) && decide (overshoot outN stride pad dil k n ≤ (n : Int) - 1)))

/-- The load-time checks of a convolution entry (R246). -/
def ConvRec.valid (x : ConvRec) (fmt : Fmt) (depthwise : Bool) : Bool :=
  within 1 65535 x.inW && within 1 65535 x.inH && within 1 65535 x.cIn && within 1 65535 x.cOut
    && within 1 16 x.kw && within 1 16 x.kh && within 1 16 x.sx && within 1 16 x.sy && within 1 16 x.dx && within 1 16 x.dy
    && within 0 255 x.padLeft && within 0 255 x.padTop && within 1 65535 x.groups && within 1 65535 x.bandRows
    && within 0 3 x.xMode && within 0 3 x.yMode
    && decide (x.cIn % x.groups = 0 ∧ x.cOut % x.groups = 0)
    && (!depthwise || decide (x.cOut = x.cIn ∧ x.groups = 1))
    && axisOk x.xMode x.outW x.sx x.padLeft x.dx x.kw x.inW && axisOk x.yMode x.outH x.sy x.padTop x.dy x.kh x.inH
    && (x.yMode ≠ 3 || decide (x.bandY0 = 0 ∧ x.bandRows = x.inH))
    && (List.range x.outRows).all (fun oy => (List.range x.kh).all fun ky =>
        match padCoord x.yMode x.inH (x.iy oy ky) with
        | some my => decide (x.bandY0 ≤ my ∧ my < x.bandY0 + x.bandRows)
        | none => true)
    && (fmt.decode x.padValue).isFin

/-- The stored code that a tap reads in channel `ch` (R240). -/
def State.tapCode (s : State) (c : Nat) (t : TDesc) (x : ConvRec) (oy ox ky kx ch : Nat) : Nat :=
  match x.tap oy ox ky kx with
  | none => x.padValue
  | some (my, mx) => s.vnum c (t.va + (my - x.bandY0) * x.rowPitch + mx * x.pixelPitch + ch * t.fmt.bytes) t.fmt.bytes

/-- Channel blocks of a tap (R239). -/
def ConvRec.blocks (x : ConvRec) : Nat := (x.cIn / x.groups + 31) / 32

/-- Reduction positions of a window in row order: ky, kx, channel block, channel within the block; the weight row beside each
(R241). Positions at or above C_IN / GROUPS are not read. -/
def ConvRec.positions (x : ConvRec) : List (Nat × Nat × Nat × Nat) :=
  (List.range x.kh).flatMap fun ky => (List.range x.kw).flatMap fun kx => (List.range x.blocks).flatMap fun b =>
    ((List.range 32).filter fun i => decide (32 * b + i < x.cIn / x.groups)).map fun i =>
      (ky, kx, 32 * b + i, ((ky * x.kw + kx) * x.blocks + b) * 32 + i)

/-- One output of CONV before its epilogue: column `n` of group `g` at output (oy, ox). A BF16 convolution rounds once for
each activation row of a tap (R214, R241). -/
def State.convOut (s : State) (c : Nat) (ta tb : TDesc) (x : ConvRec) (oy ox g n : Nat) : Num :=
  let cols := x.cOut / x.groups
  let rows := x.kh * x.kw * 32 * x.blocks
  let pair := fun (p : Nat × Nat × Nat × Nat) =>
    (s.tapCode c ta x oy ox p.1 p.2.1 (g * (x.cIn / x.groups) + p.2.2.1), s.weight c tb rows cols g p.2.2.2 n)
  if tb.bf16 then
    let rowsOf := (List.range (x.kh * x.kw * x.blocks)).map fun k => x.positions.filter fun p => decide (p.2.2.2 / 32 = k)
    f32 (rowsOf.foldl (fun a ps => bf16Beat a (ps.map pair)) 0)
  else product ta.fmt tb.fmt false (s.scaleOf c ta 0 0) (s.scaleOf c tb 0 (g * cols + n)) (x.positions.map pair)

/-- Output pixels of a band, by local row and column. -/
def ConvRec.pixels (x : ConvRec) : List (Nat × Nat) :=
  (List.range x.outRows).flatMap fun oy => (List.range x.outW).map fun ox => (oy, ox)

/-- The output rows of a band of CONV: one row of C_OUT values for each output pixel (R239 to R244). -/
def State.convRows (s : State) (c : Nat) (en : Entry) (ep : List EpOp) (ts : List TDesc) (x : ConvRec) : List (List Num) :=
  let ep := ep.map fun e => { e with b := e.b.bind en, c := e.c.bind en }
  let cols := x.cOut / x.groups
  ((List.range x.pixels.length).zip x.pixels).map fun (k, oy, ox) =>
    (List.range x.cOut).map fun n =>
      s.epilogue c ep x.cOut k n (s.convOut c (en.tensor ts 0) (en.tensor ts 1) x oy ox (n / cols) (n % cols))

/-- CONV: the output rows of one core's band (R239 to R244). An entry whose record breaks R246 has not been loaded. -/
def execConv (queue entry : Nat) (core : Nat × Nat) (rec_ : ConvRec) (ep : List EpOp) (ts : List TDesc) (s : State) :
    Host.Outcome State Fault Refusal :=
  match s.arrayEntry queue entry 0x010 with
  | none => next s
  | some (r, en) =>
    let ta := en.tensor ts 0
    if !rec_.valid ta.fmt false ∨ ¬ (ta.scale = 0 ∨ ta.scale = 1 ∨ ta.scale = 5) then next s
    else next (putRows core r (en.tensor ts 2) rec_.cOut 0 (s.convRows r.ctx en ep ts rec_) s)

/-- One output of DWCONV before its epilogue: FMA over the taps in order, then the bias (R245). [log 50 DEDUCED] -/
def State.dwOut (s : State) (c : Nat) (ta tb : TDesc) (bias : Option TDesc) (x : ConvRec) (oy ox ch : Nat) : Nat :=
  let taps := (List.range x.kh).flatMap fun ky => (List.range x.kw).map fun kx => (ky, kx)
  let acc := taps.foldl (fun acc (p : Nat × Nat) =>
    let code := s.tapCode c ta x oy ox p.1 p.2 ch
    let sc : Int := match x.tap oy ox p.1 p.2 with
      | some (my, mx) => s.scaleOf c ta ((my - x.bandY0) * x.inW + mx) ch
      | none => if ta.scale = 1 ∨ ta.scale = 5 then s.scaleOf c ta 0 0 else 0
    ffma (toF32 ((ta.fmt.decode code).shift sc)) (s.elem32 c tb x.cOut (p.1 * x.kw + p.2) ch) acc) 0
  match bias with
  | some t => fadd acc (s.elem32 c t x.cOut 0 ch)
  | none => acc

/-- The output rows of a band of DWCONV (R245). -/
def State.dwRows (s : State) (c : Nat) (en : Entry) (ep : List EpOp) (ts : List TDesc) (x : ConvRec) : List (List Num) :=
  let bias := if en.has 3 then some (en.tensor ts 3) else none
  ((List.range x.pixels.length).zip x.pixels).map fun (k, oy, ox) =>
    (List.range x.cOut).map fun n =>
      s.epilogue c ep x.cOut k n (f32 (s.dwOut c (en.tensor ts 0) (en.tensor ts 1) bias x oy ox n))

/-- DWCONV: the output rows of one core's band (R245). [log 50 DEDUCED] -/
def execDwconv (queue entry : Nat) (core : Nat × Nat) (rec_ : ConvRec) (ep : List EpOp) (ts : List TDesc) (s : State) :
    Host.Outcome State Fault Refusal :=
  match s.arrayEntry queue entry 0x013 with
  | none => next s
  | some (r, en) =>
    if !rec_.valid (en.tensor ts 0).fmt true then next s
    else next (putRows core r (en.tensor ts 2) rec_.cOut 0 (s.dwRows r.ctx en ep ts rec_) s)

/-! ### Regrouping (R247, R249) -/

def RegroupRec.valid (x : RegroupRec) : Bool :=
  decide (x.b = 2 ∨ x.b = 4 ∨ x.b = 8) && decide (x.b * x.b * x.c ≤ 65535) && within 1 65535 x.inW && within 1 65535 x.inH
    && within 1 65535 x.c

/-- Width and height of the regrouped map. -/
def RegroupRec.w (x : RegroupRec) : Nat := (x.inW + x.b - 1) / x.b
def RegroupRec.h (x : RegroupRec) : Nat := (x.inH + x.b - 1) / x.b

/-- The row scales of a tensor move unchanged (R247). -/
def moveScales (c : Nat) (a b : TDesc) (n : Nat) (s : State) : State :=
  if a.scale = 0 ∨ a.scale = 1 then s
  else vwrite c b.scaleVa (s.vread c a.scaleVa (if a.scale = 5 then 1 else n)) s

/-- The stored codes of the map that S2C makes: by rows, then within a pixel its B × B inputs (R247). -/
def State.s2cCodes (s : State) (c : Nat) (a : TDesc) (x : RegroupRec) : List Nat :=
  (List.range x.h).flatMap fun y => (List.range x.w).flatMap fun xx =>
    (List.range x.b).flatMap fun by_ => (List.range x.b).flatMap fun bx => (List.range x.c).map fun ch =>
      let iy := x.b * y + by_
      let ix := x.b * xx + bx
      if iy < x.inH ∧ ix < x.inW then s.code c a ((iy * x.inW + ix) * x.c + ch) else x.padValue

/-- The stored codes of the map that C2S makes. -/
def State.c2sCodes (s : State) (c : Nat) (a : TDesc) (x : RegroupRec) : List Nat :=
  let w := (x.outW + x.b - 1) / x.b
  (List.range x.outH).flatMap fun y => (List.range x.outW).flatMap fun xx => (List.range x.c).map fun ch =>
    s.code c a ((y / x.b * w + xx / x.b) * (x.b * x.b * x.c) + (y % x.b * x.b + xx % x.b) * x.c + ch)

/-- S2C: stored bits move; positions beyond the input take PAD_VALUE (R247). [log 50 DEDUCED] -/
def execS2c (queue entry : Nat) (rec_ : RegroupRec) (ts : List TDesc) (s : State) : Host.Outcome State Fault Refusal :=
  match s.arrayEntry queue entry 0x014 with
  | none => next s
  | some (r, en) =>
    let a := en.tensor ts 0
    let o := en.tensor ts 2
    if !rec_.valid then next s
    else next (vwrite r.ctx o.va ((s.s2cCodes r.ctx a rec_).flatMap (leBytes a.fmt.bytes))
      (moveScales r.ctx a o (rec_.inW * rec_.inH) s))

/-- C2S, the inverse of S2C: the OUT_W × OUT_H elements that the record names (R247). [log 50 DEDUCED] -/
def execC2s (queue entry : Nat) (rec_ : RegroupRec) (ts : List TDesc) (s : State) : Host.Outcome State Fault Refusal :=
  match s.arrayEntry queue entry 0x015 with
  | none => next s
  | some (r, en) =>
    let a := en.tensor ts 0
    let o := en.tensor ts 2
    if !rec_.valid then next s
    else next (vwrite r.ctx o.va ((s.c2sCodes r.ctx a rec_).flatMap (leBytes a.fmt.bytes))
      (moveScales r.ctx a o (rec_.outW * rec_.outH) s))

/-! ### Streams (R257 to R261) -/

/-- The state of a stream as FP32 codes: the home copy, or the initial state where the row's reset bit is set (R258, R259).
[log 51 DEDUCED] -/
def State.streamState (s : State) (k : Nat) (fresh : Bool) : List Nat :=
  let x := s.stream k
  (elements x.fmt (if fresh then x.initial else x.state)).map fun v => toF32 (x.fmt.decode v)

/-- Stages a new state, written back when the entry completes (R258). -/
def stageState (queue entry k : Nat) (vals : List Nat) (fresh : Bool) (s : State) : State :=
  let x := s.stream k
  let bytes := vals.flatMap fun v => leBytes x.fmt.bytes (x.fmt.store .nearest false (f32 v)).1
  { s with ta := { s.ta with writeBacks := s.ta.writeBacks ++ [⟨queue, entry, k, bytes, fresh⟩] } }

/-- The stream an operation carries, where its entry has not yet staged a new state for it. -/
def State.streamFor (s : State) (r : PourRun) (queue entry index : Nat) : Option Nat :=
  match r.job with
  | none => none
  | some j => match s.streamOf j index with
    | none => none
    | some k => if s.ta.writeBacks.any fun w => decide (w.queue = queue ∧ w.entry = entry ∧ w.stream = k) then none else some k

/-! ### Recurrent blocks (R253, R254) -/

/-- One gate instruction on the 16 slots (Table 7.6). -/
def GateOp.run (g : GateOp) (m : List Nat) : List Nat :=
  let a := m.getD g.a 0
  let b := m.getD g.b 0
  match g.op with
  | 1 => m.set g.dst (fadd a b)
  | 2 => m.set g.dst (fsub a b)
  | 3 => m.set g.dst (fmul a b)
  | 4 => m.set g.dst (ffma a b (m.getD g.dst 0))
  | 5 => m.set g.dst (fsigmoid a)
  | 6 => m.set g.dst (ftanh a)
  | 7 => m.set g.dst (fexp2 a)
  | 8 => m.set g.dst (frecip a)
  | 9 => m.set g.dst (fmin a b)
  | 10 => m.set g.dst (fmax a b)
  | 11 => m.set g.dst a
  | _ => m

/-- A gate program runs up to its first END. -/
def runGates : List GateOp → List Nat → List Nat
  | [], m => m
  | g :: gs, m => if g.op = 0 then m else runGates gs (g.run m)

/-- The load-time checks of a recurrence record (Table 7.5, R253). -/
def RecurRec.valid (x : RecurRec) : Bool :=
  within 1 65535 x.h && within 1 6 x.gates && within 6 13 x.outSlot && within 1 2 x.states
    && decide (x.program.length ≤ 16) && x.program.any (fun g => g.op = 0)
    && x.program.all (fun g => decide (g.op ≤ 11 ∧ g.a < 16 ∧ g.b < 16)
        && (g.op = 0 || decide (6 ≤ g.dst ∧ g.dst ≤ 14)))

/-- The 16 slots of every hidden unit after the gate program of one step: pre-activations in slots 0 to 5, the states in 6 and 7
(R253, R254). [log 51 DEDUCED] -/
def State.recurUnits (s : State) (c : Nat) (en : Entry) (ts : List TDesc) (y : RecurRec) (st : List Nat) : List (List Nat) :=
  let x := en.tensor ts 0
  let wx := en.tensor ts 1
  let wh := en.tensor ts 3
  let bias := en.tensor ts 4
  let slot := fun (i u : Nat) => st.getD (i * y.h + u) 0
  let hPrev := (List.range y.h).map fun u => f32 (slot (if y.outSlot = 7 then 1 else 0) u)
  let (hCodes, hs) := convertRow x.fmt hPrev
  let xCodes := (List.range y.inputs).map fun i => s.code c x i
  let sa := s.scaleOf c x 0 0
  let cols := y.gates * y.h
  let total := y.inputs + y.h
  let ew := fun (w : TDesc) (rows k n : Nat) => s.weight c w rows cols 0 k n
  let part := fun (w : TDesc) (rows base : Nat) (cs : List Nat) (sc : Int) (n : Nat) =>
    product x.fmt w.fmt w.bf16 sc (s.scaleOf c w 0 n)
      (((List.range cs.length).zip cs).map fun (p : Nat × Nat) => (p.2, ew w rows (base + p.1) n))
  let pre := fun (g u : Nat) =>
    let n := g % y.gates * y.h + u
    let v := if y.split then
        if g < y.gates then part wx y.inputs 0 xCodes sa n else part wh y.h 0 hCodes hs n
      else if wx.bf16 then part wx total 0 (xCodes ++ hCodes) 0 n
      else (part wx total 0 xCodes sa n).add (part wx total y.inputs hCodes hs n)
    fadd (toF32 v) (s.elem32 c bias y.h g u)
  let sets := if y.split then 2 * y.gates else y.gates
  (List.range y.h).map fun u =>
    runGates y.program
      (((List.range 6).map fun g => if g < sets then pre g u else 0)
        ++ [slot 0 u, if y.states = 2 then slot 1 u else 0] ++ List.replicate 7 0 ++ [y.konst])

/-- RECUR: one step of a recurrent cell over all its hidden units, weight columns by gate. `row` is the LEN and RESET of the
sequence's row where the operation has a length table (R253, R254, R259). [log 51 DEDUCED] -/
def execRecur (queue entry : Nat) (core : Nat × Nat) (rec_ : RecurRec) (ts : List TDesc) (row : Option (Nat × Bool)) (s : State) :
    Host.Outcome State Fault Refusal :=
  match s.arrayEntry queue entry 0x020 with
  | none => next s
  | some (r, en) =>
    let fresh := match row with | some x => x.2 | none => false
    match s.streamFor r queue entry rec_.stream with
    | none => next s
    | some k =>
      if !rec_.valid ∨ row.any (fun x => x.1 = 0) then next s
      else
        let ms := s.recurUnits r.ctx en ts rec_ (s.streamState k fresh)
        let s1 := stageState queue entry k ((List.range rec_.states).flatMap fun i => ms.map fun m => m.getD (6 + i) 0) fresh s
        next (putRow core r (en.tensor ts 2) rec_.h 0 (ms.map fun m => f32 (m.getD rec_.outSlot 0)) s1)

/-! ### State-space steps and scans (R255, R256) -/

/-- One token through a diagonal state-space block: for each channel the new states and the output (R255). -/
def State.ssmChannels (s : State) (c : Nat) (en : Entry) (ts : List TDesc) (y : SsmRec) (st : List Nat) : List (List Nat × Nat) :=
  let at_ := fun (i cols a b : Nat) => s.elem32 c (en.tensor ts i) cols a b
  (List.range y.channels).map fun d =>
    let delta := at_ 1 y.channels 0 d
    let x := at_ 0 y.channels 0 d
    let hs := (List.range y.n).map fun n =>
      let a := fexp2 (fmul (fmul delta (at_ 5 y.n d n)) fLog2e)
      ffma a (st.getD (d * y.n + n) 0) (fmul (fmul delta (at_ 3 y.n 0 n)) x)
    let q := ((List.range y.n).zip hs).map fun (p : Nat × Nat) => fmul (at_ 4 y.n 0 p.1) p.2
    (hs, ffma (at_ 6 y.channels 0 d) x (segReduce fadd 0 q))

/-- SSM_STEP: one token through a diagonal state-space block (R255). -/
def execSsmStep (queue entry : Nat) (core : Nat × Nat) (rec_ : SsmRec) (ts : List TDesc) (row : Option (Nat × Bool)) (s : State) :
    Host.Outcome State Fault Refusal :=
  match s.arrayEntry queue entry 0x021 with
  | none => next s
  | some (r, en) =>
    let fresh := match row with | some x => x.2 | none => false
    match s.streamFor r queue entry rec_.stream with
    | none => next s
    | some k =>
      if !within 1 64 rec_.n ∨ row.any (fun x => x.1 = 0) then next s
      else
        let all := s.ssmChannels r.ctx en ts rec_ (s.streamState k fresh)
        let s1 := stageState queue entry k (all.flatMap (·.1)) fresh s
        next (putRow core r (en.tensor ts 2) rec_.channels 0 (all.map fun y => f32 y.2) s1)

/-- Lengths of the chunks of T steps on P cores. -/
def chunkLengths (t p : Nat) : List Nat := (List.range p).map fun k => t / max 1 p + if k < t % max 1 p then 1 else 0

/-- Cuts a list into pieces of given lengths. -/
def cut {α : Type} : List Nat → List α → List (List α)
  | [], _ => []
  | n :: ns, l => l.take n :: cut ns (l.drop n)

/-- The plain recurrence over (a, b) from h: every h, and the last. -/
def recurrence (h : Nat) (ab : List (Nat × Nat)) : List Nat × Nat :=
  ab.foldl (fun (x : List Nat × Nat) p => let h := ffma p.1 x.2 p.2; (x.1 ++ [h], h)) ([], h)

/-- Running products of the coefficients. -/
def products (ab : List (Nat × Nat)) : List Nat × Nat :=
  ab.foldl (fun (x : List Nat × Nat) p => let q := fmul x.2 p.1; (x.1 ++ [q], q)) ([], fOne)

/-- SCAN of one channel in chunks: chunk 0 from the state, the others locally, the carry chain, the fix-up (R256). -/
def scanChunks (h : Nat) : List (List (Nat × Nat)) → List Nat × Nat
  | [] => ([], h)
  | first :: rest =>
    let a := recurrence h first
    rest.foldl (fun (x : List Nat × Nat) ab =>
      let l := recurrence 0 ab
      let p := products ab
      let out := (l.1.zip p.1).map fun (y : Nat × Nat) => ffma y.2 x.2 y.1
      (x.1 ++ out, if ab.isEmpty then x.2 else ffma p.2 x.2 l.2)) a

/-- SCAN of every channel: the outputs of all steps, and the last state (R256). -/
def State.scanChannels (s : State) (c : Nat) (en : Entry) (ts : List TDesc) (y : ScanRec) (st : List Nat) : List (List Nat × Nat) :=
  (List.range y.channels).map fun d =>
    scanChunks (st.getD d 0) (cut (chunkLengths y.steps y.cores) ((List.range y.steps).map fun t =>
      (s.elem32 c (en.tensor ts 0) y.channels t d, s.elem32 c (en.tensor ts 1) y.channels t d)))

/-- SCAN: the linear recurrence over a whole sequence, for every channel (R256). -/
def execScan (queue entry : Nat) (core : Nat × Nat) (rec_ : ScanRec) (ts : List TDesc) (row : Option (Nat × Bool)) (s : State) :
    Host.Outcome State Fault Refusal :=
  match s.arrayEntry queue entry 0x022 with
  | none => next s
  | some (r, en) =>
    let fresh := match row with | some x => x.2 | none => false
    match s.streamFor r queue entry rec_.stream with
    | none => next s
    | some k =>
      if row.any (fun x => x.1 = 0) then next s
      else
        let all := s.scanChannels r.ctx en ts rec_ (s.streamState k fresh)
        let rows := (List.range rec_.steps).map fun t => all.map fun y => f32 (y.1.getD t 0)
        let s1 := stageState queue entry k (all.map (·.2)) fresh s
        next (putRows core r (en.tensor ts 2) rec_.channels 0 rows s1)

end Sys2Proof.Machine
end

