-- ==== Sys2Proof/Machine/KvArray.lean ====
section
/-!
DEFINITION. The meanings of the attention operations of the Tensor Array: KV_APPEND, ATTEND, ATTEND_PACKED
(spec 08_attention_kv.md).
-/

namespace Sys2Proof.Machine

/-! ### Length tables (Table 8.6, R277) -/

/-- One row of a length table. -/
structure LenRow where
  seq : Nat
  offset : Nat
  len : Nat
  reset : Bool
  noAppend : Bool
  held : Bool
  clean : Bool
deriving DecidableEq, Repr

/-- Row `i` of the length table at an address. -/
def State.lenRow (s : State) (c va i : Nat) : LenRow :=
  let b := s.vread c (va + 16 + 16 * i) 16
  let fl := fieldOf b 10 1
  { seq := fieldOf b 0 2, offset := fieldOf b 4 4, len := fieldOf b 8 2, reset := bitAt fl 0, noAppend := bitAt fl 1
    held := bitAt (fieldOf b 11 1) 0
    clean := decide (fieldOf b 2 2 = 0 ∧ fl / 4 = 0 ∧ fieldOf b 12 4 = 0) }

/-- The rows of a length table. -/
def State.lenRows (s : State) (c va : Nat) : List LenRow := (List.range (s.vnum c va 2)).map (s.lenRow c va)

/-- Two rows' ranges of the batch tensors overlap. -/
def LenRow.meets (a b : LenRow) : Bool := decide (a.offset < b.offset + b.len ∧ b.offset < a.offset + a.len)

/-- Some pair of a list satisfies a test. -/
def anyPair {α : Type} (f : α → α → Bool) : List α → Bool
  | [] => false
  | a :: l => l.any (f a) || anyPair f l

/-- A length table faults the entry's job (R277). [log 56 DEDUCED] -/
def State.lenTableBad (s : State) (c va f layout batch : Nat) : Bool :=
  let rows := s.lenRows c va
  let count := s.vnum c va 2
  let total := s.vnum c (va + 4) 4
  decide (s.vnum c (va + 2) 2 ≠ 0 ∨ s.vnum c (va + 8) 8 ≠ 0 ∨ count = 0 ∨ 4096 < count ∨ 1048576 < total
      ∨ total ≠ rows.foldl (fun k r => k + r.len) 0)
    || rows.any (fun r => !r.clean || decide (batch < r.offset + r.len)
        || decide ((s.seq r.seq).state = .free ∨ (s.seq r.seq).state = .closing ∨ (s.seq r.seq).flask ≠ f
            ∨ (s.seq r.seq).hash ≠ layout))
    || anyPair (fun a b => decide (a.seq = b.seq) || a.meets b) rows

/-! ### Opening a step (R278, R287 to R290) -/

/-- A FIRST append may open the step of a row: none in flight under another table, no fork that waits (R278, R305). -/
def State.rowMayOpen (s : State) (table : Nat) (r : LenRow) : Bool :=
  r.len = 0 || decide ((s.seq r.seq).step = some table) || ((s.seq r.seq).step.isNone && !s.forkNames r.seq)

/-- Opens the step of one row: its groups allocated, or the row held. Answers the pages spilled. -/
def openStep (c table i : Nat) (r : LenRow) (s : State) : State × List Nat :=
  let status := fun (b : Nat) (s : State) => vwriteByte c (table + 16 + 16 * i + 11) (BitVec.ofNat 8 b) s
  let q := r.seq
  if (s.seq q).step = some table then (s, [])
  else if r.len = 0 then (status 0 s, [])
  else if r.noAppend then
    (status 0 (s.setSeq q { s.seq q with step := some table, stepLen := 0, stepHeld := false }), [])
  else match openRow q r.len s with
    | .open s1 st spilled =>
      let x := s1.seq q
      let s2 := s1.setSeq q { x with state := .live, cause := 0, step := some table, stepLen := r.len, stepHeld := false }
      let s2 := if bitAt st 1 then ctxEvent x.owner 22 3 0 s2 else s2
      (status st s2, spilled)
    | .hold s1 cause =>
      let x := s1.seq q
      let n := s1.kvCount x.flask
      let s2 := (s1.setSeq q { x with state := .held, cause := if cause = 2 then 2 else 1, step := some table, stepLen := 0
                                      stepHeld := true }).setKvCount x.flask { n with holds := satInc n.holds }
      (status 1 (ctxEvent x.owner 21 3 0x20 s2), [])

/-- Opens the steps of a table's rows in order. [log 56 DEDUCED] -/
def openSteps (c table : Nat) : Nat → List LenRow → State → State × List Nat
  | _, [], s => (s, [])
  | i, r :: rs, s =>
    let a := openStep c table i r s
    let b := openSteps c table (i + 1) rs a.1
    (b.1, a.2 ++ b.2)

/-! ### Records (R271, R281) -/

/-- The address of a sequence's page of a layer that holds a position. -/
def Seq.pageOf (x : Seq) (layer pos : Nat) : Nat := x.pageVa layer (pos / max 1 x.pTok)

/-- Rotates the positional row of position `p` (R281 step 1). -/
def rotate (p : Nat) (theta : List Nat) (pos : List Nat) : List Nat :=
  (List.range theta.length).flatMap fun i =>
    let a := fmul (toF32 (.fin false p 0)) (theta.getD i 0)
    let x0 := pos.getD (2 * i) 0
    let x1 := pos.getD (2 * i + 1) 0
    [ffma x0 (fcos a) (fneg (fmul x1 (fsin a))), ffma x0 (fsin a) (fmul x1 (fcos a))]

/-- The frequency table of an entry. -/
def State.theta (s : State) (c va n : Nat) : List Nat := (List.range n).map fun i => s.vnum c (va + 4 * i) 4

/-- Writes one record of a layer at a position (R281). -/
def writeRecord (q layer pos : Nat) (vals : List Nat) (s : State) : State × Counts :=
  let x := s.seq q
  let pg := x.pageOf layer pos
  let i := pos % max 1 x.pTok
  let nums := vals.map f32
  let sc : Int := if x.fmt = .bf16 then 0 else rowScale x.fmt 0 nums
  let out := nums.map fun v => x.fmt.store .nearest false (v.shift (-sc))
  let count := max (i + 1) (s.vnum x.owner (pg + 8) 2)
  let head := leBytes 2 q ++ leBytes 1 layer ++ [0] ++ leBytes 4 (pos - i) ++ leBytes 2 (if i = 0 then 1 else count)
    ++ leBytes 2 x.pTok
  let s := vwrite x.owner pg head s
  let s := vwriteByte x.owner (pg + 64 + i) (BitVec.ofInt 8 sc) s
  (vwrite x.owner (pg + recordsAt x.pTok + i * x.recSize) (out.flatMap fun o => leBytes x.fmt.bytes o.1) s,
    out.foldl (fun a o => a.add o.2) {})

/-- Appends the records of one row of a table: nothing for a row held, NO_APPEND or of LEN 0 (R279, R281, R289).
[log 55 DEDUCED] -/
def appendRow (core : Nat × Nat) (r : PourRun) (ta : TDesc) (theta : List Nat) (a : AttRec) (table : Nat) (row : LenRow)
    (s : State) : State :=
  let x := s.seq row.seq
  if row.noAppend ∨ x.stepHeld ∨ x.step ≠ some table then s
  else
    let d := x.lLat + x.rPos
    (List.range row.len).foldl (fun s i =>
      let vals := (List.range d).map fun k => s.elem32 r.ctx ta d (row.offset + i) k
      let pos := vals.drop x.lLat
      let pos := if a.rope then rotate (x.fill + i) theta pos else pos
      let (s1, n) := writeRecord row.seq a.layer (x.fill + i) (vals.take x.lLat ++ pos) s
      countSite core.1 core.2 n s1) s

/-- A row of the table is held in the step that runs. [log 55 DEDUCED] -/
def State.rowHeld (s : State) (table : Nat) (r : LenRow) : Bool :=
  decide ((s.seq r.seq).step = some table) && (s.seq r.seq).stepHeld

/-- What an entry over a length table adds to its results: DEFERRED with VALID clear where a row is held (R289).
[log 56 DEDUCED] -/
def heldOut (held : Bool) (s : State) : OutState :=
  { attrs := { valid := !held, deferred := held }, epoch := s.now }

/-- KV_APPEND (R278, R281). The FIRST append opens the steps of its rows; until every step may open, it waits. -/
def execKvAppend (queue entry : Nat) (core : Nat × Nat) (rec_ : AttRec) (ts : List TDesc) (s : State) :
    Host.Outcome State Fault Refusal :=
  match s.arrayEntry queue entry 0x030 with
  | none => next s
  | some (r, en) =>
    let table := (en.tensor ts 1).va
    if s.lenTableBad r.ctx table r.flask rec_.layout rec_.batch then nextSweep (entryFault 1 queue r 1 s)
    else
      let rows := s.lenRows r.ctx table
      if rec_.first ∧ !(rows.all (s.rowMayOpen table)) then next s
      else
        let (s, spilled) := if rec_.first then openSteps r.ctx table 0 rows s else (s, [])
        let s := if spilled.isEmpty then s else entryWaits 1 queue entry spilled (.homed 2) s
        let rPos := match rows with | x :: _ => (s.seq x.seq).rPos | [] => 0
        let theta := if rec_.rope then s.theta r.ctx (en.tensor ts 2).va (rPos / 2) else []
        let s := rows.foldl (fun s x => appendRow core r (en.tensor ts 0) theta rec_ table x s) s
        let s := if rec_.last ∧ !s.ta.closings.contains (queue, entry, table) then
            { s with ta := { s.ta with closings := s.ta.closings ++ [(queue, entry, table)] } } else s
        nextMoves (noteOwn 1 queue entry (heldOut (rows.any (s.rowHeld table)) s) s)

/-! ### ATTEND (R280, R282 to R285) -/

/-- What of a row's sequence is visible in this step: FILL with the positions that the step appends. -/
def State.topOf (s : State) (table : Nat) (row : LenRow) : Nat :=
  let x := s.seq row.seq
  if x.step = some table ∧ !row.noAppend ∧ !x.stepHeld then x.fill + row.len else x.fill

/-- Positions of the visible range below a top (R273). -/
def Seq.visible (x : Seq) (top : Nat) : List Nat :=
  (List.range (min top (x.pinHead * x.pTok))) ++ (List.range (top - x.liveFirst)).map (x.liveFirst + ·)

/-- Query position `q` attends to key position `t` (R280). [log 54 DEDUCED] -/
def AttRec.allows (a : AttRec) (q t : Nat) : Bool :=
  (!a.causal || decide (t ≤ q)) && (a.window = 0 || decide ((q : Int) - t < a.window))

/-- Cuts pages among cores: the first n mod P take one more (R284). -/
def pageShares (n p : Nat) : List Nat := (List.range p).map fun k => n / max 1 p + if k < n % max 1 p then 1 else 0

/-- The keys of a query, by core, whole pages in position order (R284). -/
def Seq.keysByCore (x : Seq) (a : AttRec) (top q : Nat) : List (List Nat) :=
  let vis := x.visible top
  let pages := (vis.map fun t => t / max 1 x.pTok).dedup
  (cutList (pageShares pages.length a.cores) pages).map fun ps =>
    vis.filter fun t => ps.contains (t / max 1 x.pTok) && a.allows q t
where
  cutList : List Nat → List Nat → List (List Nat)
    | [], _ => []
    | n :: ns, l => l.take n :: cutList ns (l.drop n)

/-- The stored codes and the scale exponent of a record. -/
def State.record (s : State) (x : Seq) (layer t : Nat) : List Nat × Int :=
  let pg := x.pageOf layer t
  let i := t % max 1 x.pTok
  (elements x.fmt (s.vread x.owner (pg + recordsAt x.pTok + i * x.recSize) x.recSize),
    twosVal 8 (s.vbyte x.owner (pg + 64 + i)).toNat)

/-- Softmax weights of scores by core: m, e and 1 / l (R282, R284). [log 54 DEDUCED] -/
def attWeights (scores : List (List Nat)) : List (List Nat) × Nat :=
  let m := (scores.flatMap id).foldl fmaxP fNegInf
  let e := scores.map fun x => x.map fun v => fexp2 (fmul (fsub v m) fLog2e)
  (e, frecip (sumRow e))

/-- The weighted sum over values given as codes with scales, one element `j` of each (R282): E4M3 weights at the largest
scale into the exact accumulator, or the BF16 path. [log 54 DEDUCED] -/
def attSum (f : Fmt) (e : List Nat) (vals : List (List Nat × Int)) (rl j : Nat) : Nat :=
  if f = .bf16 then
    fmul (bf16Dot ((e.zip vals).map fun (p : Nat × List Nat × Int) =>
      ((Fmt.bf16.store .nearest false (f32 p.1)).1, p.2.1.getD j 0))) rl
  else
    let sref := vals.foldl (fun m v => max m v.2) (-128)
    let acc := (e.zip vals).foldl (fun (a : Acc) (p : Nat × List Nat × Int) =>
      let w := (Fmt.e4m3.store .nearest false ((f32 p.1).shift (p.2.2 - sref + 8))).1
      a.add (Fmt.e4m3.decode w) (f.decode (p.2.1.getD j 0))) {}
    fmul (toF32 ((f32 (toF32 (acc.readout 0 0 0))).shift (sref - 8))) rl

/-- One head of one query: its output of D_H values (R282, R283). [log 54 DEDUCED] -/
def State.attHead (s : State) (c : Nat) (a : AttRec) (x : Seq) (ta td te : TDesc) (theta : List Nat)
    (row top q h : Nat) : List Num :=
  let w := a.dh + x.rPos
  let cols := a.hq * w
  let bf := decide (x.fmt = .bf16)
  let sa := s.scaleOf c ta row 0
  let content := (List.range a.dh).map fun j => s.code c ta (row * cols + h * w + j)
  let qpos := (List.range x.rPos).map fun j => s.elem32 c ta cols row (h * w + a.dh + j)
  let qp := if a.rope then rotate q theta qpos else qpos
  let keys := x.keysByCore a top q
  let recs := keys.map fun ks => ks.map fun t => s.record x a.layer t
  let wuk := fun (i j : Nat) => s.weight c td x.lLat a.dh h i j
  let wuv := fun (i j : Nat) => s.weight c te x.lLat a.dh h i j
  if (recs.flatMap id).isEmpty then zeroRow a.dh
  else if !a.expand then
    let qa := (List.range x.lLat).map fun i =>
      toF32 (product ta.fmt td.fmt td.bf16 sa (s.scaleOf c td 0 (h * x.lLat + i))
        (((List.range a.dh).zip content).map fun (p : Nat × Nat) => (p.2, wuk i p.1)))
    let (qrow, sq) := convertRow x.fmt ((qa ++ qp).map f32)
    let scores := recs.map fun rs => rs.map fun (k : List Nat × Int) =>
      fmul (toF32 (product x.fmt x.fmt bf sq k.2 (qrow.zip k.1))) a.scaleQk
    let (e, rl) := attWeights scores
    let o := (List.range x.lLat).map fun j => attSum x.fmt (e.flatMap id) (recs.flatMap id) rl j
    let (oc, so) := convertRow x.fmt (o.map f32)
    (List.range a.dh).map fun j =>
      product x.fmt te.fmt te.bf16 so (s.scaleOf c te 0 (h * a.dh + j))
        (((List.range x.lLat).zip oc).map fun (p : Nat × Nat) => (p.2, wuv p.1 j))
  else
    let expandBy := fun (t : TDesc) (wt : Nat → Nat → Nat) (k : List Nat × Int) => (List.range a.dh).map fun j =>
      product x.fmt t.fmt t.bf16 k.2 (s.scaleOf c t 0 (h * a.dh + j))
        (((List.range x.lLat).zip k.1).map fun (p : Nat × Nat) => (p.2, wt p.1 j))
    let kOf := fun (k : List Nat × Int) =>
      convertRow x.fmt (expandBy td wuk k ++ (k.1.drop x.lLat).map fun v => (x.fmt.decode v).shift k.2)
    let vOf := fun (k : List Nat × Int) => convertRow x.fmt (expandBy te wuv k)
    let (qrow, sq) := convertRow x.fmt ((content.map fun v => (ta.fmt.decode v).shift sa) ++ qp.map f32)
    let scores := recs.map fun rs => rs.map fun k =>
      let kk := kOf k
      fmul (toF32 (product x.fmt x.fmt bf sq kk.2 (qrow.zip kk.1))) a.scaleQk
    let (e, rl) := attWeights scores
    let vs := (recs.flatMap id).map vOf
    (List.range a.dh).map fun j => f32 (attSum x.fmt (e.flatMap id) vs rl j)

/-- Output rows of one row of the table; a held row writes +0, a row of LEN 0 nothing (R279, R289). -/
def attRow (core : Nat × Nat) (r : PourRun) (en : Entry) (ts : List TDesc) (a : AttRec) (table : Nat) (row : LenRow)
    (s : State) : State :=
  let x := s.seq row.seq
  let n := a.hq * a.dh
  let theta := if a.rope then s.theta r.ctx (en.tensor ts 6).va (x.rPos / 2) else []
  let top := s.topOf table row
  let out := (List.range row.len).map fun i =>
    if s.rowHeld table row then zeroRow n
    else (List.range a.hq).flatMap fun h =>
      s.attHead r.ctx a x (en.tensor ts 0) (en.tensor ts 3) (en.tensor ts 4) theta (row.offset + i) top (x.fill + i) h
  putRows core r (en.tensor ts 2) n row.offset out s

/-! ### Return prefetches (R293) -/

/-- Groups of the rows' sequences that are homed in T2. -/
def State.spilledGroups (s : State) (rows : List LenRow) : List Nat :=
  ((rows.filter fun r => r.len ≠ 0).flatMap fun r => (s.seq r.seq).groups.map (·.2)).dedup.filter fun g => s.groupTier g = 2

/-- The page of a group of a layer. -/
def State.layerPage (s : State) (layer g : Nat) : Nat := ((s.group g).pages).getD layer 0

/-- Pages that a job's return pool holds. -/
def State.poolUsed (s : State) (j : Nat) : Nat :=
  (s.mem.pages.filter fun (p : Nat × Page) => p.2.kv && p.2.claims.any fun c => decide (c.job = some j ∧ c.tier = 1)).length

/-- The return prefetches of layer `l + 2`, within the pool. [log 57 DEDUCED] -/
def returnPrefetch (j f c : Nat) (pages : List Nat) (s : State) : State :=
  pages.foldl (fun s k =>
    if (s.page k).claims.any (fun c => decide (c.job = some j ∧ c.tier = 1)) ∨ (s.job j).image.returnPool ≤ s.poolUsed j then s
    else pageEvent k (.raise f c 1 4 (some j) false none) s) s

/-- The ATTEND of a layer reads its spilled pages: from the pool, whose place is freed, or in place (R293).
[log 57 DEDUCED] -/
def returnRead (f : Nat) (pages : List Nat) (s : State) : State :=
  pages.foldl (fun s k =>
    let s := if (s.page k).tier = 2 then
        let n := s.kvCount f
        s.setKvCount f { n with late := satInc n.late }
      else s
    if (s.page k).claims.isEmpty then s else pageEvent k (.lower f 3) s) s

/-- The result header of one row of a length table, in ATTEND's header array (R279, R289). -/
def State.rowHeader (s : State) (r : PourRun) (entry : Nat) (en : Entry) (table : Nat) (row : LenRow) : Header :=
  let o := s.entryOut r entry en
  let h := s.rowHeld table row
  { outputTime := s.now, sourceEpoch := o.epoch, generation := (s.flask r.flask).generation, cls := en.cls
    flask := r.flask, digest := s.digestFor (some r.flask) % 65536
    attrs := if row.len = 0 then { valid := false } else { o.attrs with valid := o.attrs.valid && !h, deferred := h } }

/-- The prefetches that an ATTEND of a layer makes for layer `l + 2` (R293). [log 57 DEDUCED] -/
def attPrefetch (r : PourRun) (layer layers : Nat) (gs : List Nat) (s : State) : State :=
  match r.job with
  | some j => returnPrefetch j r.flask r.ctx (gs.map (s.layerPage ((layer + 2) % max 1 layers))) s
  | none => s

/-- ATTEND (R279 to R285, R293). -/
def execAttend (queue entry : Nat) (core : Nat × Nat) (rec_ : AttRec) (ts : List TDesc) (s : State) :
    Host.Outcome State Fault Refusal :=
  match s.arrayOnce queue entry 0x031 with
  | none => next s
  | some (r, en) =>
    let table := (en.tensor ts 1).va
    if s.lenTableBad r.ctx table r.flask rec_.layout rec_.batch then nextSweep (entryFault 1 queue r 1 s)
    else
      let rows := s.lenRows r.ctx table
      let layers := match rows with | x :: _ => (s.seq x.seq).layers | [] => 1
      let gs := s.spilledGroups rows
      let s := rows.foldl (fun s x => attRow core r en ts rec_ table x s) s
      let held := rows.any (s.rowHeld table)
      let s := returnRead r.flask (gs.map (s.layerPage rec_.layer)) s
      let s := noteOwn 1 queue entry (heldOut held (attPrefetch r rec_.layer layers gs s)) (attPrefetch r rec_.layer layers gs s)
      let heads := rows.flatMap fun row => (s.rowHeader r entry en table row).bytes
      nextMoves (if rec_.headers then vwrite r.ctx (en.tensor ts 5).va heads s else s)

/-! ### Packed batches (R286) -/

/-- Query `i` attends to key `j` of a packed batch row. -/
def packedAllows (a : AttRec) (seg : Nat → Nat) (i j : Nat) : Bool :=
  decide (seg i = seg j ∧ seg i ≠ 0xFFFF) && (!a.causal || decide (j ≤ i)) && (a.window = 0 || decide ((i : Int) - j < a.window))

/-- The keys of a packed query by core: the segments of `split`, or one segment where none is given (R226). -/
def AttRec.packedKeys (a : AttRec) (seg : Nat → Nat) (i : Nat) : List (List Nat) :=
  let lens := if a.split.isEmpty then [a.seqLen] else a.split
  (lens.foldl (fun (x : List (List Nat) × Nat) n =>
    (x.1 ++ [((List.range n).map (x.2 + ·)).filter fun j => decide (j < a.seqLen) && packedAllows a seg i j], x.2 + n)) ([], 0)).1

/-- The segment number of position `i` of batch row `b`. -/
def State.segment (s : State) (c : Nat) (t : TDesc) (a : AttRec) (b i : Nat) : Nat := s.vnum c (t.va + 2 * (b * a.seqLen + i)) 2

/-- The codes of one head of a row, with the row's scale. -/
def State.headCodes (s : State) (c : Nat) (t : TDesc) (a : AttRec) (row h : Nat) : List Nat × Int :=
  ((List.range a.dh).map fun j => s.code c t (row * (a.hq * a.dh) + h * a.dh + j), s.scaleOf c t row 0)

/-- One head of one packed query. -/
def State.packedHead (s : State) (c : Nat) (a : AttRec) (tq tk tv tg : TDesc) (b i h : Nat) : List Num :=
  let keys := a.packedKeys (s.segment c tg a b) i
  let q := s.headCodes c tq a (b * a.seqLen + i) h
  let scores := keys.map fun ks => ks.map fun j =>
    let k := s.headCodes c tk a (b * a.seqLen + j) h
    fmul (toF32 (product tq.fmt tk.fmt tk.bf16 q.2 k.2 (q.1.zip k.1))) a.scaleQk
  let (e, rl) := attWeights scores
  let vs := (keys.flatMap id).map fun j => s.headCodes c tv a (b * a.seqLen + j) h
  (List.range a.dh).map fun j => f32 (attSum tv.fmt (e.flatMap id) vs rl j)

/-- The output rows of a packed batch (R286). -/
def State.packedRows (s : State) (c : Nat) (en : Entry) (ts : List TDesc) (a : AttRec) : List (List Num) :=
  let tg := en.tensor ts 3
  (List.range a.batch).flatMap fun b => (List.range a.seqLen).map fun i =>
    if s.segment c tg a b i = 0xFFFF then zeroRow (a.hq * a.dh)
    else (List.range a.hq).flatMap fun h =>
      s.packedHead c a (en.tensor ts 0) (en.tensor ts 1) (en.tensor ts 2) tg b i h

/-- ATTEND_PACKED (R286). A padding position writes +0. -/
def execAttendPacked (queue entry : Nat) (core : Nat × Nat) (rec_ : AttRec) (ts : List TDesc) (s : State) :
    Host.Outcome State Fault Refusal :=
  match s.arrayEntry queue entry 0x032 with
  | none => next s
  | some (r, en) =>
    next (putRows core r (en.tensor ts 4) (rec_.hq * rec_.dh) 0 (s.packedRows r.ctx en ts rec_) s)

end Sys2Proof.Machine
end

