-- ==== Sys2Proof/Machine/KvCmds.lean ====
section
/-!
DEFINITION. The meanings of the commands on KV sequences and families (spec 08_attention_kv.md Table 8.11,
09_rollouts_and_tables.md Table 9.11).
-/

namespace Sys2Proof.Machine

def kvEnd : Nat := 0x1000000000000

/-- The 16-byte layout record (R270). -/
def Seq.layoutRecord (x : Seq) : List Byte :=
  let code := if x.fmt = .e4m3 then 0 else if x.fmt = .e5m2 then 1 else 3
  leBytes 2 x.layers ++ leBytes 2 x.lLat ++ leBytes 1 x.rPos ++ leBytes 1 code ++ leBytes 1 (if x.big then 1 else 0)
    ++ leBytes 1 x.pinHead ++ leBytes 4 x.maxTokens ++ leBytes 1 (if x.prealloc then 1 else 0) ++ [0, 0, 0]

/-- The layout hash (R270). [log 53 DEDUCED] -/
def Seq.layoutHash (x : Seq) : Nat := hashLow64 x.layoutRecord % 2 ^ 32

/-- A layout keeps Table 8.1 and the least window of R272. -/
def Seq.layoutOk (x : Seq) : Bool :=
  decide (1 ≤ x.layers ∧ x.layers ≤ 256) && decide (64 ≤ x.lLat ∧ x.lLat ≤ 1024 ∧ x.lLat % 32 = 0)
    && decide (x.rPos ≤ 128 ∧ x.rPos % 32 = 0) && (x.fmt = .bf16 || decide ((x.lLat + x.rPos) % 64 = 0))
    && decide (1 ≤ x.maxTokens ∧ x.maxTokens ≤ 1048576) && decide (x.pinHead + 2 ≤ x.gMax)

/-- The windows of a context, rising. -/
def State.windows (s : State) (c : Nat) : List (Nat × Nat) :=
  sortBy ((s.ta.seqs.filter fun (x : Nat × Seq) => decide (x.2.owner = c ∧ x.2.state ≠ .free)).map fun x =>
    (x.2.wbase, x.2.window)) fun a b => decide (a.1 ≤ b.1)

/-- The place of a new window, first-fit at a 2 MiB boundary (R272). -/
def State.placeWindow (s : State) (c n : Nat) : Option Nat :=
  let v := fitVa 0x200000 n (s.windows c) kvBase
  if v + n ≤ kvEnd then some v else none

/-- Allocates groups `k` to `k + n - 1` of a sequence in T1 (R291). -/
def preallocate (q : Nat) : Nat → Nat → State → Option State
  | 0, _, s => some s
  | n + 1, k, s =>
    let x := s.seq q
    match allocGroup x.flask x.owner 1 x.big x.layers (decide (k < x.pinHead)) s with
    | none => none
    | some (s1, g) => preallocate q n (k + 1) (mapGroup q k g s1)

/-- Makes one sequence at a number: its window, its groups with PREALLOC; or the detail code that refuses it. -/
def makeSeq (q : Nat) (x : Seq) (s : State) : Except Nat State :=
  match s.placeWindow x.owner x.window with
  | none => .error 0x22
  | some w =>
    let s1 := s.setSeq q { x with state := .live, wbase := w, fill := 0, liveFirst := x.pinHead * x.pTok }
    if !x.prealloc then .ok s1
    else match preallocate q x.gMax 0 s1 with
      | none => .error 0x20
      | some s2 => .ok s2

/-- The flask of a KV command: one of which the sender is a tenant. -/
def State.kvFlask (s : State) (t : Ticket) (f : Nat) : Bool := decide (f < 16) && s.isTenant t f

def execCreateSequence (p : Packet) (s : State) : Host.Outcome State Fault Refusal :=
  command 0x0320 16 false p s fun s t =>
    let f := p.u8 12
    let b := p.u8 13
    let fmtOk := decide (p.u8 19 = 0 ∨ p.u8 19 = 1 ∨ p.u8 19 = 3)
    let base : Seq := { owner := t.ctx, flask := f, layers := p.u16 14, lLat := p.u16 16, rPos := p.u8 18
                        fmt := Fmt.ofCode (p.u8 19), big := bitAt b 2, maxTokens := p.u32 24, pinHead := p.u8 20
                        slide := bitAt b 0, prealloc := bitAt b 1 }
    let x := { base with pTok := pTokOf (bytesOf base.big) base.recSize, hash := base.layoutHash }
    if 15 < f ∨ 8 ≤ b then reserved
    else if !s.isTenant t f then notPermitted
    else if !fmtOk ∨ !x.layoutOk then .reject 3 0x21
    else match lowest (fun q => (s.seq q).state = .free) 65536 0 with
      | none => .reject 1 0x0A
      | some q =>
        if ((s.flask f).mode = .paced ∨ 1 ≤ (s.flask f).cls) ∧ !x.prealloc then .reject 3 0x23
        else match makeSeq q { x with key := q } s with
          | .error d => .reject 3 d
          | .ok s1 => ok s1 (leBytes 2 q ++ leBytes 2 x.pTok ++ leBytes 4 x.hash ++ leBytes 6 (s1.seq q).wbase)

/-- The sequence that a command names: live, and of a flask of which the sender is a tenant (R296). -/
def State.namedSeq (s : State) (t : Ticket) (q : Nat) : Bool :=
  decide ((s.seq q).state ≠ .free) && s.isTenant t (s.seq q).flask

def execDestroySequence (p : Packet) (s : State) : Host.Outcome State Fault Refusal :=
  commandMoves 0x0321 2 false p s fun s t =>
    let q := p.u16 12
    let x := s.seq q
    if !s.namedSeq t q then .reject 3 0x24
    else if x.step.isSome then .later (s.setSeq q { x with state := .closing, closers := x.closers ++ [t] })
    else ok (runForks (freeSeq q s).ta.forkWaits [] (freeSeq q s))

/-- Groups of a sequence that a tier holds. -/
def State.groupsIn (s : State) (q tier : Nat) : Nat :=
  ((s.seq q).groups.filter fun (g : Nat × Nat) => s.groupTier g.2 = tier).length

/-- The lost range is not empty. -/
def Seq.lost (x : Seq) : Bool := decide (x.pinHead * x.pTok < x.liveFirst)

def execQuerySequence (p : Packet) (s : State) : Host.Outcome State Fault Refusal :=
  command 0x0322 2 false p s fun s t =>
    let q := p.u16 12
    let x := s.seq q
    if !s.namedSeq t q then .reject 3 0x24
    else ok s (leBytes 4 x.fill ++ leBytes 4 x.liveFirst ++ leBytes 2 (s.groupsIn q 1) ++ leBytes 2 (s.groupsIn q 2)
      ++ leBytes 1 x.state.code ++ leBytes 1 (flagAt 0 x.lost + fieldAt 1 2 x.cause) ++ [0, 0] ++ leBytes 6 x.wbase)

/-- TRIM_SEQUENCE outside its range (R297). -/
def Seq.trimBad (x : Seq) (n : Nat) : Bool := decide (x.fill < n) || (x.lost && decide (n ≤ x.liveFirst))

def execTrimSequence (p : Packet) (s : State) : Host.Outcome State Fault Refusal :=
  commandMoves 0x0323 8 false p s fun s t =>
    let q := p.u16 12
    let n := p.u32 16
    let x := s.seq q
    if !s.namedSeq t q then .reject 3 0x24
    else if x.trimBad n then .reject 3 0x25
    else if x.step.isSome then .later (s.setSeq q { x with trim := x.trim ++ [(n, t)] })
    else ok (trimSeq q n s) (leBytes 4 n)

/-! ### Families (R301, R303, R309, R329) -/

/-- The POLICY of target `i` of a fork (Table 9.11); `none` for a reserved code. -/
def forkPolicy (code : Nat) (src : Bool) (table : List Byte) (i : Nat) : Option Bool :=
  let k := if code = 3 then bitsOf (table.getD (i / 4) 0).toNat (2 * (i % 4) + 1) (2 * (i % 4)) else code
  match k with
  | 0 => some src
  | 1 => some false
  | 2 => some true
  | _ => none

/-- Makes the targets of a fork, in order (R329). -/
def makeTargets (x : Seq) : List (Nat × Bool) → State → Except Nat State
  | [], s => .ok s
  | (q, slide) :: r, s =>
    match makeSeq q { x with slide := slide } s with
    | .error d => .error d
    | .ok s1 => makeTargets x r s1

/-- The lowest run of `n` consecutive FREE sequence numbers. -/
def State.freeRun (s : State) (n : Nat) : Option Nat :=
  lowest (fun a => decide (a + n ≤ 65536) && s.seqNums.all fun q => decide (q < a ∨ a + n ≤ q)) 65536 0

def execForkSequence (p : Packet) (s : State) : Host.Outcome State Fault Refusal :=
  commandMoves 0x0324 18 false p s fun s t =>
    let a := p.u16 12
    let n := p.u16 14
    let pol := p.u8 16 % 4
    let x := s.seq a
    let table := s.vread t.ctx (p.u48 24) 64
    let pols := (List.range n).map (forkPolicy pol x.slide table)
    if n = 0 ∨ 256 < n ∨ 4 ≤ p.u8 16 ∨ (pol ≠ 3 ∧ p.u48 24 ≠ 0) then reserved
    else if !s.namedSeq t a then .reject 3 0x24
    else if pol = 3 ∧ (s.accessFault t.ctx (p.u48 24) 64 false).isSome then .reject 3 6
    else if pols.any Option.isNone then reserved
    else if x.state = .closing then .reject 3 0x27
    else match s.freeRun n with
      | none => .reject 1 0x0A
      | some b =>
        let fam := match x.family with
          | some k => if (s.members k).length + n ≤ 4096 then some k else none
          | none => if n + 1 ≤ 4096 then lowest (fun k => !s.families.contains k) 16384 0 else none
        match fam with
        | none => .reject 3 0x26
        | some k =>
          let y : Seq := { x with owner := t.ctx, family := some k, groups := [], step := none, stepLen := 0, stepHeld := false
                                  trim := [], closers := [], cause := 0 }
          let targets := ((List.range n).zip pols).map fun (z : Nat × Option Bool) => (b + z.1, z.2.getD false)
          match makeTargets y targets (s.setSeq a { x with family := some k }) with
          | .error d => .reject 3 d
          | .ok s1 =>
            let s1 := { s1 with ta := { s1.ta with familyPeak := max s1.ta.familyPeak s1.families.length } }
            let ret := leBytes 2 b ++ leBytes 2 k ++ leBytes 4 ((s1.seq b).wbase / 65536)
            let keys := (List.range n).map fun i => (b + i, (p.u32 20 + i) % 2 ^ 32)
            if x.step.isNone ∧ !s.forkNames a then
              ok (keys.foldl (fun s (z : Nat × Nat) => forkSeq a z.1 z.2 s) s1) ret
            else
              .later { s1 with ta := { s1.ta with forkWaits := s1.ta.forkWaits ++ keys.map fun z =>
                { source := a, target := z.1, key := z.2, ticket := some (t, ret) } } }

/-- A family in use of which the sender may speak: a tenant of its flask. -/
def State.namedFamily (s : State) (t : Ticket) (k : Nat) : Bool :=
  match s.members k with
  | [] => false
  | q :: _ => s.isTenant t (s.seq q).flask

def execDestroyFamily (p : Packet) (s : State) : Host.Outcome State Fault Refusal :=
  commandMoves 0x0325 2 false p s fun s t =>
    let k := p.u16 12
    if !s.namedFamily t k then .reject 3 0x24
    else
      let ms := s.members k
      let busy := ms.filter fun q => (s.seq q).step.isSome
      let s := busy.foldl (fun s q => s.setSeq q { s.seq q with state := .closing, closers := (s.seq q).closers ++ [t] }) s
      let s := (ms.filter fun q => !busy.contains q).foldl (fun s q => freeSeq q s) s
      let s := runForks s.ta.forkWaits [] s
      if busy.isEmpty then ok s else .later s

/-- The groups that members of a family map. -/
def State.familyGroups (s : State) (k : Nat) : List Nat := ((s.members k).flatMap fun q => (s.seq q).groups.map (·.2)).dedup

def execQueryFamily (p : Packet) (s : State) : Host.Outcome State Fault Refusal :=
  command 0x0326 2 false p s fun s t =>
    let k := p.u16 12
    if !s.namedFamily t k then .reject 3 0x24
    else
      let gs := s.familyGroups k
      ok s (leBytes 2 (s.members k).length ++ [0, 0] ++ leBytes 4 (gs.filter fun g => 1 < s.refs g).length ++ leBytes 4 gs.length)

end Sys2Proof.Machine
end

