-- ==== Sys2Proof/Machine/RollArray.lean ====
section
/-!
DEFINITION. The meanings of the operations of world-model rollouts, tables and training: KV_FORK, SAMPLE, VQ_ENCODE,
CODE_GATHER, TABLE_GATHER, GRAD_W, ATTEND_GRAD, OPT_STEP, QUANTIZE (spec 09_rollouts_and_tables.md).
-/

namespace Sys2Proof.Machine

/-! ### KV_FORK (R303 to R305) -/

/-- One row of a fork table (Table 9.2). -/
structure ForkRow where
  source : Nat
  first : Nat
  targets : Nat
  release : Bool
  clean : Bool
  key : Nat
deriving DecidableEq, Repr

def State.forkRow (s : State) (c va i : Nat) : ForkRow :=
  let b := s.vread c (va + 16 + 16 * i) 16
  { source := fieldOf b 0 2, first := fieldOf b 2 2, targets := fieldOf b 4 2, release := bitAt (fieldOf b 6 1) 0
    clean := decide (fieldOf b 6 1 / 2 = 0 ∧ fieldOf b 12 4 = 0), key := fieldOf b 8 4 }

/-- The target sequences of a row. -/
def ForkRow.names (x : ForkRow) : List Nat := (List.range x.targets).map (x.first + ·)

/-- A row faults the job (R304); `seen` are the targets of earlier rows. -/
def State.forkRowBad (s : State) (f : Nat) (seen : List Nat) (x : ForkRow) : Bool :=
  let gone := fun (q : Nat) => decide ((s.seq q).state = .free ∨ (s.seq q).state = .closing ∨ (s.seq q).flask ≠ f)
  !x.clean || decide (x.targets = 0 ∨ 256 < x.targets) || x.names.any gone || x.names.any seen.contains
    || decide (x.release ≠ decide (x.source = 0xFFFF))
    || (!x.release && (gone x.source || x.names.contains x.source || (s.seq x.source).family.isNone
          || x.names.any fun q => decide ((s.seq q).family ≠ (s.seq x.source).family)))

/-- The waits that a row makes, one for each target. -/
def ForkRow.waits (x : ForkRow) (queue entry c status : Nat) : List ForkWait :=
  ((List.range x.targets).zip x.names).map fun (z : Nat × Nat) =>
    { source := x.source, target := z.2, key := (x.key + z.1) % 2 ^ 32, release := x.release, entry := some (queue, entry)
      status := some (c, status) }

/-- Acts on rows in order until one faults; answers whether one did. -/
def forkRows (queue entry c va f : Nat) : Nat → List ForkRow → List Nat → State → State × Bool
  | _, [], _, s => (s, false)
  | i, x :: xs, seen, s =>
    if s.forkRowBad f seen x then (s, true)
    else
      let ws := x.waits queue entry c (va + 16 + 16 * i + 7)
      let s := { s with ta := { s.ta with forkWaits := s.ta.forkWaits ++ ws } }
      forkRows queue entry c va f (i + 1) xs (seen ++ x.names) (runForks s.ta.forkWaits [] s)

/-- KV_FORK: the rows act in order, each when no step of its sequences is in flight (R304, R305). -/
def execKvFork (queue entry : Nat) (s : State) : Host.Outcome State Fault Refusal :=
  match s.arrayOnce queue entry 0x033 with
  | none => next s
  | some (r, en) =>
    let va := en.tensors.getD 0 0
    let count := s.vnum r.ctx va 2
    let clean := s.vread r.ctx (va + 2) 14 = List.replicate 14 0
    if count = 0 ∨ 256 < count ∨ !clean then nextSweep (entryFault 1 queue r 1 s)
    else
      let rows := (List.range count).map (s.forkRow r.ctx va)
      let (s, bad) := forkRows queue entry r.ctx va r.flask 0 rows [] (noteActed queue entry s)
      if bad then nextSweep (entryFault 1 queue r 1 (afterMoves s)) else nextMoves s

/-! ### SAMPLE (R313) -/

/-- The five lines of R205 that follow its first. -/
def mix64 (x : Nat) : Nat :=
  let w := 2 ^ 64
  let x := x ^^^ (x / 2 ^ 33)
  let x := x * 0xFF51AFD7ED558CCD % w
  let x := x ^^^ (x / 2 ^ 33)
  let x := x * 0xC4CEB9FE1A85EC53 % w
  x ^^^ (x / 2 ^ 33)

def fLn2 : Nat := 0x3F317218

/-- The Gumbel draw of logit `j` of a key at a position. -/
def gumbel (seed key p j : Nat) : Nat :=
  let x := mix64 ((mix64 ((seed * 2 ^ 32 % 2 ^ 64) ^^^ key) ^^^ (p * 2 ^ 20 % 2 ^ 64)) ^^^ j)
  let u := toF32 (.fin false (2 * (x / 2 ^ 41) + 1) (-24))
  let a := fneg (flog2 u)
  fneg (fmul (flog2 (fmul a fLn2)) fLn2)

/-- Index of the largest of (index, value) pairs: the first NaN if there is one, else the lowest of equals (R226). -/
def argmaxOf (l : List (Nat × Nat)) : Nat :=
  match l.find? fun x => (f32 x.2).isNan with
  | some x => x.1
  | none => match l with
    | [] => 0
    | a :: r => (r.foldl (fun (b : Nat × Nat) x => if flt b.2 x.2 then x else b) a).1

/-- The K largest of (index, value) pairs, a tie to the lower index. -/
def topK (k : Nat) (l : List (Nat × Nat)) : List (Nat × Nat) :=
  (sortBy l fun a b => flt b.2 a.2 || (!flt a.2 b.2 && decide (a.1 ≤ b.1))).take k

/-- The code that a row of logits gives. -/
def SampleRec.choose (x : SampleRec) (key p : Nat) (logits : List Nat) : Nat :=
  let l := (List.range logits.length).zip logits
  let draw := fun (z : Nat × Nat) => (z.1, ffma z.2 x.invTemp (gumbel x.seed key p z.1))
  match x.mode with
  | 0 => argmaxOf l
  | 1 => argmaxOf (l.map draw)
  | _ => argmaxOf ((sortBy (topK x.k l) fun a b => decide (a.1 ≤ b.1)).map draw)

/-- A SAMPLE record keeps Table 9.5. -/
def SampleRec.valid (x : SampleRec) : Bool :=
  within 2 1048576 x.v && within 0 2 x.mode && (if x.mode = 2 then within 1 256 x.k else decide (x.k = 0))
    && (f32 x.invTemp).isFin && flt 0 x.invTemp

/-- SAMPLE: a sequence whose step is in flight holds it up; a held row writes 0xFFFF_FFFF (R313). -/
def execSample (queue entry : Nat) (rec_ : SampleRec) (ts : List TDesc) (s : State) : Host.Outcome State Fault Refusal :=
  match s.arrayEntry queue entry 0x034 with
  | none => next s
  | some (r, en) =>
    let table := (en.tensor ts 1).va
    let rows := s.lenRows r.ctx table
    if !rec_.valid ∨ rows.any (fun x => decide (x.len ≠ 0) && (s.seq x.seq).step.isSome) then next s
    else
      let out := rows.flatMap fun x => (List.range x.len).map fun i =>
        let y := s.seq x.seq
        (x.offset + i, if x.held then 0xFFFFFFFF
          else rec_.choose y.key (y.fill - x.len + i)
            ((List.range rec_.v).map fun j => s.elem32 r.ctx (en.tensor ts 0) rec_.v (x.offset + i) j))
      let s1 := out.foldl (fun s (z : Nat × Nat) => vwrite r.ctx ((en.tensor ts 2).va + 4 * z.1) (leBytes 4 z.2) s) s
      next (noteOwn 1 queue entry (heldOut (rows.any fun x => x.held && decide (x.len ≠ 0)) s1) s1)

/-! ### Codebooks (R311, R312) -/

/-- Index of the least value: the first NaN if there is one, else the lowest of equals. -/
def argminOf (l : List Nat) : Nat := argmaxOf ((List.range l.length).zip (l.map fneg))

/-- The code of input row `i`: the entry of least FP32 distance, the lower index of equals (R311). -/
def State.vqCode (s : State) (c : Nat) (en : Entry) (ts : List TDesc) (entries width i : Nat) : Nat :=
  let ta := en.tensor ts 0
  let tb := en.tensor ts 1
  argminOf ((List.range entries).map fun e =>
    let dot := toF32 (product ta.fmt tb.fmt false (s.scaleOf c ta i 0) (s.scaleOf c tb e 0)
      ((List.range width).map fun k => (s.code c ta (i * width + k), s.code c tb (e * width + k))))
    ffma 0xC0000000 dot (s.elem32 c (en.tensor ts 3) entries 0 e))

/-- VQ_ENCODE: `rows` inputs against `entries` of `width` elements (R311). -/
def execVqEncode (queue entry rows entries width : Nat) (ts : List TDesc) (s : State) : Host.Outcome State Fault Refusal :=
  match s.arrayEntry queue entry 0x035 with
  | none => next s
  | some (r, en) =>
    next (vwrite r.ctx (en.tensor ts 2).va
      ((List.range rows).flatMap fun i => leBytes 4 (s.vqCode r.ctx en ts entries width i)) s)

/-- A tensor has a scale byte for each row. -/
def TDesc.rowScaled (t : TDesc) : Bool := decide (t.scale = 2 ∨ t.scale = 4)

/-- CODE_GATHER: rows of TB by code; a code beyond the table faults the job (R312). -/
def execCodeGather (queue entry rows entries width : Nat) (ts : List TDesc) (s : State) : Host.Outcome State Fault Refusal :=
  match s.arrayEntry queue entry 0x036 with
  | none => next s
  | some (r, en) =>
    let tb := en.tensor ts 1
    let tc := en.tensor ts 2
    let codes := (List.range rows).map fun i => s.vnum r.ctx ((en.tensor ts 0).va + 4 * i) 4
    if codes.any fun c => decide (entries ≤ c ∧ c ≠ 0xFFFFFFFF) then nextSweep (entryFault 1 queue r 1 s)
    else
      let n := width * tb.fmt.bytes
      let data := codes.flatMap fun c => if c = 0xFFFFFFFF then List.replicate n 0 else s.vread r.ctx (tb.va + c * n) n
      let scales := codes.map fun c => if c = 0xFFFFFFFF ∨ !tb.rowScaled then (0 : Byte) else s.vbyte r.ctx (tb.scaleVa + c)
      let s1 := if tc.rowScaled then vwrite r.ctx tc.scaleVa scales s else s
      next (vwrite r.ctx tc.va data s1)

/-! ### TABLE_GATHER (R317) -/

def State.mapTable (s : State) (m : Nat) : MapTable := Tab.get MapTable.rest s.ta.maps m
def State.setMapTable (s : State) (m : Nat) (x : MapTable) : State :=
  { s with ta := { s.ta with maps := Tab.set MapTable.rest s.ta.maps m x } }

/-- The directory of the version that a flask reads: the active one, or the other for a reader that has not yet reached its
parting line (R316). -/
def MapTable.dirOf (x : MapTable) (f : Nat) : Tab TileBlock :=
  if x.activeB != x.lagging.contains f then x.dirB else x.dirA

/-- What a row key finds: its tile's entry, and the block where it is staged. -/
def MapTable.find (x : MapTable) (f key : Nat) : Option TileBlock :=
  ((x.dirOf f).find? fun (t : Nat × TileBlock) => decide (t.1 = key ∧ t.2.bad = false)).map (·.2)
def MapTable.isStaged (x : MapTable) (key block : Nat) : Bool :=
  x.staged.any fun (t : Nat × Nat × Bool) => decide (t.1 = key ∧ t.2.1 = block)

/-- TABLE_GATHER: rows of staged tiles in key order; DEFAULT for an absent tile, and for a miss; with WAIT the entry waits
for its tiles (R317). [log 60 DEDUCED] -/
def execTableGather (queue entry : Nat) (rec_ : GatherRec) (s : State) : Host.Outcome State Fault Refusal :=
  match s.arrayOnce queue entry 0x037 with
  | none => next s
  | some (r, en) =>
    let x := s.mapTable rec_.table
    let keys := (List.range rec_.count).map fun i => s.vnum r.ctx (en.tensors.getD 0 0 + 8 * i) 8
    let tiles := keys.map fun k => x.find r.flask (k / 2 ^ 24)
    let missed := (keys.zip tiles).filter fun (z : Nat × Option TileBlock) => match z.2 with
      | some b => !x.isStaged (z.1 / 2 ^ 24) b.block
      | none => false
    if !x.created then next s
    else if keys.any fun k => decide (x.rows ≤ k % 2 ^ 24) then nextSweep (entryFault 1 queue r 1 s)
    else if rec_.wait ∧ missed ≠ [] then next s
    else
      let data := (keys.zip tiles).flatMap fun (z : Nat × Option TileBlock) => match z.2 with
        | none => x.default
        | some b => if x.isStaged (z.1 / 2 ^ 24) b.block then
            (List.range x.rowBytes).map fun i => (Tab.get [] s.ta.blocks b.block).getD (z.1 % 2 ^ 24 * x.rowBytes + i) 0
          else x.default
      let y := { x with absent := satAdd x.absent (tiles.filter Option.isNone).length, misses := satAdd x.misses missed.length }
      let s := vwrite r.ctx (en.tensors.getD 2 0) data (noteActed queue entry (s.setMapTable rec_.table y))
      next (if missed.isEmpty then s else ctxEvent r.ctx 23 3 0 s)

/-! ### Training (R323 to R326) -/

/-- The rows of dW, K × N, over the batch rows by core segments (R324). -/
def State.gradRows (s : State) (c : Nat) (en : Entry) (ts : List TDesc) (k n : Nat) (split : List Nat) : List (List Num) :=
  let segs := (split.foldl (fun (x : List (List Nat) × Nat) m => (x.1 ++ [(List.range m).map (x.2 + ·)], x.2 + m)) ([], 0)).1
  (List.range k).map fun i => (List.range n).map fun j =>
    f32 (treeOf fadd 0 segs.length (segs.map fun bs => bf16Dot (bs.map fun b =>
      (s.code c (en.tensor ts 0) (b * k + i), s.code c (en.tensor ts 1) (b * n + j)))))

/-- GRAD_W: dW of K × N over the batch rows, by core segments (R324). -/
def execGradW (queue entry : Nat) (core : Nat × Nat) (k n : Nat) (split : List Nat) (ts : List TDesc) (s : State) :
    Host.Outcome State Fault Refusal :=
  match s.arrayEntry queue entry 0x060 with
  | none => next s
  | some (r, en) =>
    next (putRows core r (en.tensor ts 2) n 0 (s.gradRows r.ctx en ts k n split) s)

/-- A sum over keys or queries in the FP32 tree, by the segments of `split` (R226). -/
def AttRec.sumOver (a : AttRec) (l : List (Nat × Nat)) : Nat :=
  let lens := if a.split.isEmpty then [a.seqLen] else a.split
  let segs := (lens.foldl (fun (x : List (List Nat) × Nat) n =>
    (x.1 ++ [(l.filter fun z => decide (x.2 ≤ z.1 ∧ z.1 < x.2 + n)).map (·.2)], x.2 + n)) ([], 0)).1
  sumRow segs

/-- The rows of dQ, dK and dV of a packed batch, from the saved maxima and sums of its softmax rows, which lie as (m, l) pairs by
row and head (R324). [log 59 DEDUCED] -/
def State.attGrads (s : State) (c : Nat) (en : Entry) (ts : List TDesc) (a : AttRec) :
    List (List Num) × List (List Num) × List (List Num) :=
  let n := a.seqLen
  let w := a.hq * a.dh
  let tq := en.tensor ts 0
  let tk := en.tensor ts 1
  let tv := en.tensor ts 2
  let td := en.tensor ts 4
  let stat := fun (b i h k : Nat) => s.elem32 c (en.tensor ts 5) (2 * a.hq) (b * n + i) (2 * h + k)
  let seg := fun (b : Nat) => s.segment c (en.tensor ts 3) a b
  let live := fun (b i j : Nat) => packedAllows a (seg b) i j
  let dot := fun (x y : TDesc) (b i j h : Nat) =>
    bf16Dot ((s.headCodes c x a (b * n + i) h).1.zip (s.headCodes c y a (b * n + j) h).1)
  let prob := fun (b i j h : Nat) =>
    fmul (fexp2 (fmul (fsub (fmul (dot tq tk b i j h) a.scaleQk) (stat b i h 0)) fLog2e)) (frecip (stat b i h 1))
  let keys := fun (b i : Nat) => (List.range n).filter (live b i)
  let sumD := fun (b i h : Nat) => a.sumOver ((keys b i).map fun j => (j, fmul (prob b i j h) (dot td tv b i j h)))
  let ds := fun (b i j h : Nat) => fmul (fmul (prob b i j h) (fsub (dot td tv b i j h) (sumD b i h))) a.scaleQk
  let el := fun (t : TDesc) (b i h d : Nat) => s.elem32 c t w (b * n + i) (h * a.dh + d)
  let each := fun (f : Nat → Nat → Nat → Nat → Nat) =>
    (List.range a.batch).flatMap fun b => (List.range n).map fun i =>
      (List.range a.hq).flatMap fun h => (List.range a.dh).map fun d => f32 (f b i h d)
  let back := fun (b j : Nat) => (List.range n).filter fun i => live b i j
  (each fun b i h d => a.sumOver ((keys b i).map fun j => (j, fmul (ds b i j h) (el tk b j h d))),
    each fun b j h d => a.sumOver ((back b j).map fun i => (i, fmul (ds b i j h) (el tq b i h d))),
    each fun b j h d => a.sumOver ((back b j).map fun i => (i, fmul (prob b i j h) (el td b i h d))))

/-- ATTEND_GRAD: dQ, dK and dV one after another from the base of the output (R324). [log 59 DEDUCED] -/
def execAttendGrad (queue entry : Nat) (core : Nat × Nat) (rec_ : AttRec) (ts : List TDesc) (s : State) :
    Host.Outcome State Fault Refusal :=
  match s.arrayEntry queue entry 0x061 with
  | none => next s
  | some (r, en) =>
    let rows := rec_.batch * rec_.seqLen
    let t := en.tensor ts 6
    let g := s.attGrads r.ctx en ts rec_
    next (putRows core r t (rec_.hq * rec_.dh) (2 * rows) g.2.2
      (putRows core r t (rec_.hq * rec_.dh) rows g.2.1 (putRows core r t (rec_.hq * rec_.dh) 0 g.1 s)))

/-- AdamW on one element: new w, m and v (R325). [log 59 DEDUCED] -/
def OptRec.step (x : OptRec) (w g m v : Nat) : Nat × Nat × Nat :=
  let m := ffma x.b1 m (fmul x.c1 g)
  let v := ffma x.b2 v (fmul x.c2 (fmul g g))
  let u := fmul (fmul m x.bc1) (frecip (fadd (fsqrt (fmul v x.bc2)) x.eps))
  (ffma (fneg x.lr) (ffma x.wd w u) w, m, v)

/-- OPT_STEP: skipped whole where a gradient element is NaN or infinite (R325). The moments m, then v, lie from TC.
[log 59 DEDUCED] -/
def execOptStep (queue entry : Nat) (rec_ : OptRec) (s : State) : Host.Outcome State Fault Refusal :=
  match s.arrayOnce queue entry 0x062 with
  | none => next s
  | some (r, en) =>
    let c := r.ctx
    let at_ := fun (i k : Nat) => s.vnum c (en.tensors.getD i 0 + 4 * k) 4
    let ks := List.range rec_.count
    let s := noteActed queue entry s
    if ks.any fun k => !(f32 (at_ 1 k)).isFin then
      let n := s.kvCount r.flask
      next (ctxEvent c 25 3 0 (s.setKvCount r.flask { n with skipped := satInc n.skipped }))
    else
      let new := ks.map fun k => rec_.step (at_ 0 k) (at_ 1 k) (at_ 2 k) (at_ 2 (rec_.count + k))
      let s := vwrite c (en.tensors.getD 0 0) (new.flatMap fun x => leBytes 4 x.1) s
      let s := vwrite c (en.tensors.getD 2 0) (new.flatMap (fun x => leBytes 4 x.2.1) ++ new.flatMap fun x => leBytes 4 x.2.2) s
      next (if rec_.copy then vwrite c (en.tensors.getD 3 0)
        (new.flatMap fun x => leBytes 2 (Fmt.bf16.store .nearest true (f32 x.1)).1) s else s)

/-- The entry of a codebook nearest to a value, a tie to the lower index (R326). -/
def nearestCode (v : Num) (book : List Num) : Nat :=
  match book with
  | [] => 0
  | b :: rest =>
    (rest.foldl (fun (x : Nat × Nat × Num) e =>
      let d := (v.add e.neg).abs
      if d.lt x.2.2 then (x.1 + 1, x.1 + 1, d) else (x.1 + 1, x.2.1, x.2.2)) (0, 0, (v.add b.neg).abs)).2.1

/-- The FP32 master at row `i`, column `j`. -/
def State.masterAt (s : State) (c : Nat) (en : Entry) (n i j : Nat) : Num := f32 (s.vnum c (en.tensors.getD 0 0 + 4 * (i * n + j)) 4)

/-- The packed codes of K × N masters by the codebooks at TD (R326). -/
def State.w4Bytes (s : State) (c : Nat) (en : Entry) (tc : TDesc) (k n : Nat) : List Byte :=
  let g := (n + 127) / 128
  let code := fun (i j : Nat) =>
    let book := (List.range 16).map fun e =>
      tc.fmt.decode (s.vbyte c (en.tensors.getD 3 0 + 16 * (i * g + j / 128) + e)).toNat
    if j < n then nearestCode ((s.masterAt c en n i j).shift (-(s.scaleOf c tc 0 j))) book else 0
  (List.range k).flatMap fun i => (List.range g).flatMap fun q => (List.range 64).map fun b =>
    BitVec.ofNat 8 (code i (128 * q + 2 * b) + 16 * code i (128 * q + 2 * b + 1))

/-- The scale exponent of each column of the masters (R326). -/
def State.columnExps (s : State) (c : Nat) (en : Entry) (tc : TDesc) (k n : Nat) : List Int :=
  (List.range n).map fun j => rowScale tc.fmt tc.headroom ((List.range k).map fun i => s.masterAt c en n i j)

/-- The stored codes of the masters under their column scales, with the conversion counts. -/
def State.storedMasters (s : State) (c : Nat) (en : Entry) (tc : TDesc) (k n : Nat) : List (Nat × Counts) :=
  let exps := s.columnExps c en tc k n
  (List.range k).flatMap fun i => (List.range n).map fun j =>
    tc.store (i * n + j) ((s.masterAt c en n i j).shift (-(exps.getD j 0)))

/-- QUANTIZE: K × N masters into a stored format, or into W4 codes by given codebooks (R326). -/
def execQuantize (queue entry : Nat) (core : Nat × Nat) (k n : Nat) (ts : List TDesc) (s : State) :
    Host.Outcome State Fault Refusal :=
  match s.arrayEntry queue entry 0x063 with
  | none => next s
  | some (r, en) =>
    let c := r.ctx
    let tc := en.tensor ts 2
    if tc.w4 then next (vwrite c tc.va (s.w4Bytes c en tc k n) s)
    else
      let out := s.storedMasters c en tc k n
      let s1 := vwrite c tc.scaleVa ((s.columnExps c en tc k n).map fun e => BitVec.ofInt 8 e) s
      let s2 := vwrite c tc.va (out.flatMap fun x => leBytes tc.fmt.bytes x.1) s1
      next (countTensor core r.job tc (out.foldl (fun a x => a.add x.2) {}) s2)

end Sys2Proof.Machine
end

