-- ==== Sys2Proof/Machine/MapCmds.lean ====
section
/-!
DEFINITION. The meanings of the map table and route commands and of the route-following prefetcher
(spec 09_rollouts_and_tables.md, R314 to R322, R328 to R330).
-/

namespace Sys2Proof.Machine

/-- The bytes of a tile block. -/
def MapTable.blockBytes (x : MapTable) : Nat := x.rows * x.rowBytes

/-- A switch waits for a parting line, the owner's or a reader's (R316). [log 60 DEDUCED] -/
def MapTable.switching (x : MapTable) : Bool := x.switchTicket.isSome || x.lagging ≠ []

/-- The tile edge that a TILE_M code names (Table 9.11). -/
def tileEdge (code : Nat) : Nat := 16 * 2 ^ code

/-- Fields of CREATE_MAP_TABLE as a table; its DEFAULT row is read from the sender's memory. -/
def MapTable.ofPacket (p : Packet) (row : List Byte) : MapTable :=
  let b := p.u8 18
  { created := true, owner := p.u8 13, readers := BitVec.ofNat 16 (p.u16 14), rowBytes := p.u16 16, rows := p.u32 20
    tileM := tileEdge (b % 8), format := b / 16, tier := if bitAt b 3 then 2 else 1, slots := p.u16 24
    t3Bytes := p.u32 28 * 0x200000, default := row }

/-- Fields within Table 9.6. -/
def MapTable.fieldsOk (x : MapTable) : Bool :=
  within 64 4096 x.rowBytes && decide (x.rowBytes % 64 = 0) && within 1 16777216 x.rows
    && decide (x.blockBytes % 0x200000 = 0 ∧ x.blockBytes ≤ 0x40000000) && decide (x.tileM ≤ 1024)
    && decide (x.format ≤ 4) && within 1 4096 x.slots

def execCreateMapTable (p : Packet) (s : State) : Host.Outcome State Fault Refusal :=
  command 0x0330 28 true p s fun s t =>
    let m := p.u8 12
    let x := MapTable.ofPacket p (s.vread t.ctx (p.u64 32) (p.u16 16))
    if 15 < m ∨ 15 < p.u8 13 then reserved
    else if (s.mapTable m).created ∨ !x.fieldsOk then .reject 3 0x28
    else if (s.flask x.owner).state = .empty then .reject 2 4
    else if (s.accessFault t.ctx (p.u64 32) x.rowBytes false).isSome then .reject 3 6
    else
      let s1 := s.setMapTable m x
      if s1.quotaOf x.owner 3 < s1.charge x.owner 3 ∨ s1.quotaOf x.owner x.tier < s1.charge x.owner x.tier then .reject 3 1
      else ok s1

/-! ### Writing tiles (R315) -/

/-- Entry `i` of a tile list: key, reserved bytes clear, address. -/
def tileEntry (b : List Byte) (i : Nat) : Nat × Bool × Nat :=
  (fieldOf b (16 * i) 5, fieldOf b (16 * i + 5) 3 = 0, fieldOf b (16 * i + 8) 8)

/-- The inactive directory. -/
def MapTable.inactive (x : MapTable) : Tab TileBlock := if x.activeB then x.dirA else x.dirB
def MapTable.active (x : MapTable) : Tab TileBlock := if x.activeB then x.dirB else x.dirA
def MapTable.setInactive (x : MapTable) (d : Tab TileBlock) : MapTable :=
  if x.activeB then { x with dirA := d } else { x with dirB := d }

/-- T3 bytes that both directories take, a block of both counted once, if `fresh` blocks join the inactive one. -/
def MapTable.bytesWith (x : MapTable) (inactive : Tab TileBlock) (fresh : Nat) : Nat :=
  (((x.active ++ inactive).map fun t => t.2.block).dedup.length + fresh) * x.blockBytes

/-- The inactive directory as a write begins: with CLONE, the active one; without the entries that it replaces or removes. -/
def MapTable.base (x : MapTable) (clone : Bool) (keys : List Nat) : Tab TileBlock :=
  (if clone then x.active else x.inactive).filter fun t => !keys.contains t.1

def execWriteMapTiles (p : Packet) (s : State) : Host.Outcome State Fault Refusal :=
  command 0x0331 16 true p s fun s t =>
    let m := p.u8 12
    let x := s.mapTable m
    let n := p.u32 24
    let inModule := bitAt (p.u8 13) 0
    if 15 < m ∨ 4 ≤ p.u8 13 then reserved
    else if !x.created then .reject 3 0x2C
    else if x.switching ∨ x.writing.isSome then .reject 3 0x2A
    else if inModule ∧ (s.accessFault t.ctx (p.u64 16) (16 * n) false).isSome then .reject 3 6
    else
      let list := s.getBytes t.ctx inModule (p.u64 16) (16 * n)
      let es := (List.range n).map (tileEntry list)
      let writes := es.filter fun e => e.2.2 ≠ 0
      if es.any fun e => !e.2.1 then reserved
      else if inModule ∧ (writes.any fun e => (s.accessFault t.ctx e.2.2 x.blockBytes false).isSome) then .reject 3 6
      else
        let keys := es.map (·.1)
        if x.t3Bytes < x.bytesWith (x.base (bitAt (p.u8 13) 1) keys) (writes.map (·.1)).dedup.length then .reject 3 0x29
        else
          let ws : List TileWrite := es.map fun e =>
            TileWrite.mk e.1 e.2.2 (if e.2.2 = 0 then [] else s.getBytes t.ctx inModule e.2.2 x.blockBytes)
          let y := x.setInactive (x.base (bitAt (p.u8 13) 1) keys)
          .later (s.setMapTable m { y with writing := some (t, ws) })

/-- Blocks that no directory of any table names any more are freed (R315). -/
def sweepBlocks (s : State) : State :=
  let named : Nat → Bool := fun b =>
    s.ta.maps.any fun (x : Nat × MapTable) => (x.2.dirA ++ x.2.dirB).any fun t => decide (t.2.block = b)
  { s with ta := { s.ta with blocks := s.ta.blocks.filter fun (b : Nat × List Byte) => named b.1 } }

/-- The tile blocks of a WRITE_MAP_TILES reach T3 and the inactive directory (R315). -/
def execMapTileWriteComplete (table : Nat) (s : State) : Host.Outcome State Fault Refusal :=
  match (s.mapTable table).writing with
  | none => next s
  | some (t, ws) =>
    let s := ws.foldl (fun s w =>
      let x := s.mapTable table
      if w.addr = 0 then s.setMapTable table (x.setInactive (Tab.del x.inactive w.key))
      else
        let b := s.ta.blocksMade
        let s := { s with ta := { s.ta with blocks := Tab.put s.ta.blocks b w.data, blocksMade := b + 1 } }
        s.setMapTable table (x.setInactive (Tab.put x.inactive w.key { block := b, crc := crc32c w.data }))) s
    let n := (ws.filter fun w => w.addr ≠ 0).length
    let s := s.setMapTable table { s.mapTable table with writing := none }
    nextSweep (finish t 0 3 0 (leBytes 4 n) (sweepBlocks s))

def execSwitchMapVersion (p : Packet) (s : State) : Host.Outcome State Fault Refusal :=
  command 0x0332 1 true p s fun s t =>
    let m := p.u8 12
    let x := s.mapTable m
    if 15 < m then reserved
    else if !x.created then .reject 3 0x2C
    else if x.switching ∨ x.writing.isSome then .reject 3 0x2A
    else .later (s.setMapTable m { x with switchTicket := some t })

/-- Staged tiles of a table that its directory still names with the same block. -/
def MapTable.keepStaged (x : MapTable) : MapTable :=
  { x with staged := x.staged.filter fun (t : Nat × Nat × Bool) => x.active.any fun d => decide (d.1 = t.1 ∧ d.2.block = t.2.1)
           fetching := x.fetching.filter fun (t : Nat × Nat × Nat) => x.active.any fun d => decide (d.1 = t.1 ∧ d.2.block = t.2.1) }

/-- A parting line of a flask: the switches of its tables, and its own change to a version that an owner has switched
(R316). [log 60 DEDUCED] -/
def mapsParting (f : Nat) (s : State) : State :=
  (List.range 16).foldl (fun s m =>
    let x := s.mapTable m
    if !x.created then s
    else
      let s := if x.lagging.contains f then s.setMapTable m { x with lagging := x.lagging.filter (· ≠ f) } else s
      let x := s.mapTable m
      match x.switchTicket with
      | some t =>
        if x.owner = f then
          let lag := (List.range 16).filter fun g => g ≠ f && x.readers.getLsbD g
            && s.ex.jobs.any fun (j : Nat × Job) => j.2.used && decide (j.2.flask = g) && j.2.image.tables.contains m
          finish t 0 3 0 [] (s.setMapTable m { x with activeB := !x.activeB, switchTicket := none, lagging := lag }.keepStaged)
        else s
      | none => s) s

/-- A query of a table: from the privileged function, or a tenant of the owner or a reader (R328). -/
def State.mayQueryMap (s : State) (p : Packet) (t : Ticket) (x : MapTable) : Bool :=
  s.sender p = 0 || s.isTenant t x.owner || (List.range 16).any fun f => x.readers.getLsbD f && s.isTenant t f

/-- MAP_STATUS words (Table 9.10). -/
def MapTable.statusWord (x : MapTable) (k : Nat) : Nat :=
  if k = 0 then flagAt 0 x.created + flagAt 1 x.activeB + flagAt 2 x.switching + flagAt 3 x.short
    + fieldAt 16 13 x.staged.length
  else if k = 1 then min 8191 x.wanted.length
  else if k = 2 then x.misses else if k = 3 then x.absent else if k = 4 then x.badTiles else 0

def execQueryMap (p : Packet) (s : State) : Host.Outcome State Fault Refusal :=
  command 0x0334 1 false p s fun s t =>
    let m := p.u8 12
    let x := s.mapTable m
    if 15 < m then reserved
    else if !x.created then .reject 3 0x2C
    else if !s.mayQueryMap p t x then notPermitted
    else ok s ([0, 1, 2, 3, 4].flatMap fun k => leBytes 4 (x.statusWord k))

def execDestroyMapTable (p : Packet) (s : State) : Host.Outcome State Fault Refusal :=
  command 0x0335 1 true p s fun s t =>
    let m := p.u8 12
    let x := s.mapTable m
    if 15 < m then reserved
    else if !x.created then .reject 3 0x2C
    else if s.ex.jobs.any fun (j : Nat × Job) => j.2.used && j.2.image.tables.contains m then
      .later (s.setMapTable m { x with destroyer := some t })
    else
      let s := match x.switchTicket with | some u => finish u 4 3 0x2C [] s | none => s
      let s := match x.writing with | some (u, _) => finish u 4 3 0x2C [] s | none => s
      ok (sweepBlocks { s with ta := { s.ta with maps := Tab.del s.ta.maps m } })

/-! ### The route (R318 to R321) -/

/-- A finite value in units of 2^-16, rounded down. [log 61 DEDUCED] -/
def fix16 : Num → Int
  | .fin neg m e =>
    let v : Int := if 0 ≤ e + 16 then m * 2 ^ (e + 16).toNat else 0
    let w : Int := if 0 ≤ e + 16 then v else ((m : Int) / 2 ^ (-(e + 16)).toNat)
    if neg then (if 0 ≤ e + 16 then -w else -((m + 2 ^ (-(e + 16)).toNat - 1 : Nat) / (2 ^ (-(e + 16)).toNat : Nat) : Int)) else w
  | _ => 0

abbrev Pt := Int × Int

/-- Waypoint and position coordinates in 2^-16 metres. -/
def Route.pts (x : Route) : List Pt := x.points.map fun (p : Nat × Nat) => (fix16 (f32 p.1), fix16 (f32 p.2))

def ptDot (a b : Pt) : Int := a.1 * b.1 + a.2 * b.2
def ptSub (a b : Pt) : Pt := (a.1 - b.1, a.2 - b.2)
def dist2 (a b : Pt) : Int := ptDot (ptSub a b) (ptSub a b)
/-- Length of a segment. -/
def segLen (a b : Pt) : Nat := rootOf (dist2 a b).toNat

/-- Segments of a polyline with the arc length at which each begins. -/
def segmentsOf : Nat → List Pt → List (Nat × Pt × Pt)
  | arc, a :: b :: r => (arc, a, b) :: segmentsOf (arc + segLen a b) (b :: r)
  | _, _ => []

/-- The point of a segment at `d` of its length `l`. -/
def alongSeg (a b : Pt) (d l : Nat) : Pt :=
  if l = 0 then a else (a.1 + (b.1 - a.1) * d / l, a.2 + (b.2 - a.2) * d / l)

/-- The part of a segment with arc lengths from `lo` to `hi`. -/
def clipSeg (lo hi : Nat) (g : Nat × Pt × Pt) : Option (Nat × Pt × Pt) :=
  let l := segLen g.2.1 g.2.2
  let a := max lo g.1
  let b := min hi (g.1 + l)
  if b < a then none else some (a, alongSeg g.2.1 g.2.2 (a - g.1) l, alongSeg g.2.1 g.2.2 (b - g.1) l)

/-- The nearest point of a segment to `p`: its arc length and squared distance. -/
def projectSeg (p : Pt) (g : Nat × Pt × Pt) : Nat × Int :=
  let d := ptSub g.2.2 g.2.1
  let n := ptDot d d
  let t := max 0 (min n (ptDot (ptSub p g.2.1) d))
  let q : Pt := if n = 0 then g.2.1 else (g.2.1.1 + d.1 * t / n, g.2.1.2 + d.2 * t / n)
  (g.1 + (if n = 0 then 0 else (segLen g.2.1 g.2.2 : Int) * t / n).toNat, dist2 p q)

/-- The nearest of several segments, the first of equals. [log 61 DEDUCED] -/
def projectOn (p : Pt) : List (Nat × Pt × Pt) → Option (Nat × Int)
  | [] => none
  | g :: gs =>
    let a := projectSeg p g
    match projectOn p gs with
    | none => some a
    | some b => if b.2 < a.2 then some b else some a

/-- A square tile in 2^-16 metres: its low corner and edge. -/
structure Square where
  x : Int
  y : Int
  edge : Int
deriving DecidableEq, Repr

/-- A 20-bit field of a tile key as a signed number (R314). -/
def tileX (key : Nat) : Int := twosVal 20 (key / 2 ^ 20)
def tileY (key : Nat) : Int := twosVal 20 key
def keyOf (tx ty : Int) : Nat := twosOf 20 tx * 2 ^ 20 + twosOf 20 ty
def squareOf (tileM key : Nat) : Square := ⟨tileX key * tileM * 65536, tileY key * tileM * 65536, tileM * 65536⟩
def Square.centre (q : Square) : Pt := (q.x + q.edge / 2, q.y + q.edge / 2)
def Square.corners (q : Square) : List Pt := [(q.x, q.y), (q.x + q.edge, q.y), (q.x, q.y + q.edge), (q.x + q.edge, q.y + q.edge)]

/-- Squared distance from a point to a square. -/
def Square.far (q : Square) (p : Pt) : Int :=
  let d := fun (v lo : Int) => max 0 (max (lo - v) (v - lo - q.edge))
  d p.1 q.x * d p.1 q.x + d p.2 q.y * d p.2 q.y

/-- A segment meets a square. -/
def Square.meets (q : Square) (a b : Pt) : Bool :=
  let side := fun (c : Pt) => (b.1 - a.1) * (c.2 - a.2) - (b.2 - a.2) * (c.1 - a.1)
  decide (min a.1 b.1 ≤ q.x + q.edge ∧ q.x ≤ max a.1 b.1 ∧ min a.2 b.2 ≤ q.y + q.edge ∧ q.y ≤ max a.2 b.2)
    && !(q.corners.all fun c => decide (0 < side c)) && !(q.corners.all fun c => decide (side c < 0))

/-- A square lies within `r` of a segment. [log 61 DEDUCED] -/
def Square.near (q : Square) (r : Int) (g : Nat × Pt × Pt) : Bool :=
  let a := g.2.1
  let b := g.2.2
  let d := ptSub b a
  let n := ptDot d d
  q.meets a b || decide (q.far a ≤ r * r) || decide (q.far b ≤ r * r)
    || q.corners.any fun c =>
        let t := ptDot (ptSub c a) d
        let cr := d.1 * (c.2 - a.2) - d.2 * (c.1 - a.1)
        decide (0 ≤ t ∧ t ≤ n ∧ cr * cr ≤ r * r * n ∧ 0 < n)

/-- Numbers from `lo` to `hi`. -/
def intRange (lo hi : Int) : List Int := (List.range (hi + 1 - lo).toNat).map fun k => lo + k

/-- Keys of the tiles that a box meets. [log 61 DEDUCED] -/
def tilesOf (tileM : Nat) (x0 x1 y0 y1 : Int) : List Nat :=
  let e : Int := tileM * 65536
  (intRange (y0 / e) (y1 / e)).flatMap fun ty => (intRange (x0 / e) (x1 / e)).map fun tx => keyOf tx ty

/-- The stretch of the route that counts: arc lengths s − BEHIND to s + AHEAD (R318). -/
def Route.stretch (x : Route) : List (Nat × Pt × Pt) :=
  (segmentsOf 0 x.pts).filterMap (clipSeg (x.arc - x.behind * 65536) (x.arc + x.ahead * 65536))

/-- The wanted tiles of a table in route mode, with the arc length of each one's nearest route point: ahead by rising arc
length, then behind by falling (R318, R319). -/
def Route.wantedOn (x : Route) (tileM : Nat) : List (Nat × Nat) :=
  let gs := x.stretch
  let r : Int := x.corridor * 65536
  let keys := (gs.flatMap fun g =>
    (tilesOf tileM (min g.2.1.1 g.2.2.1 - r) (max g.2.1.1 g.2.2.1 + r) (min g.2.1.2 g.2.2.2 - r) (max g.2.1.2 g.2.2.2 + r)).filter
      fun k => (squareOf tileM k).near r g).dedup
  let arcs := keys.map fun k => (k, ((projectOn (squareOf tileM k).centre gs).map (·.1)).getD x.arc)
  sortBy arcs fun a b =>
    let fa := decide (x.arc ≤ a.2)
    let fb := decide (x.arc ≤ b.2)
    if fa != fb then fa
    else if a.2 ≠ b.2 then (if fa then decide (a.2 < b.2) else decide (b.2 < a.2))
    else decide (a.1 ≤ b.1)

/-- The wanted tiles in radius mode: within AHEAD_M of the position, nearest first (R320). -/
def Route.wantedRound (x : Route) (tileM : Nat) : List (Nat × Nat) :=
  match x.at_ with
  | none => []
  | some p =>
    let r : Int := x.ahead * 65536
    let keys := (tilesOf tileM (p.1 - r) (p.1 + r) (p.2 - r) (p.2 + r)).filter fun k => decide ((squareOf tileM k).far p ≤ r * r)
    (sortBy keys fun a b =>
      let da := (squareOf tileM a).far p
      let db := (squareOf tileM b).far p
      decide (da < db ∨ (da = db ∧ a ≤ b))).map fun k => (k, x.arc)

/-- The wanted set of a table, in order. [log 61 DEDUCED] -/
def Route.wanted (x : Route) (tileM : Nat) : List (Nat × Nat) := if x.mode = 2 then x.wantedRound tileM else x.wantedOn tileM

/-- The staged tile to evict: outside the wanted set, the one farthest behind first; then of those staged in radius mode the
farthest (R319). -/
def Route.victim (x : Route) (t : MapTable) (wanted : List Nat) : Option (Nat × Nat × Bool) :=
  let out := t.staged.filter fun (y : Nat × Nat × Bool) => !wanted.contains y.1
  let arc := fun (k : Nat) => ((projectOn (squareOf t.tileM k).centre (segmentsOf 0 x.pts)).map (·.1)).getD 0
  let far : Nat → Int := fun (k : Nat) => match x.at_ with | some p => (squareOf t.tileM k).far p | none => 0
  match sortBy (out.filter fun y => !y.2.2) fun a b => decide (arc a.1 ≤ arc b.1) with
  | y :: _ => some y
  | [] => (sortBy out fun a b => decide (far b.1 ≤ far a.1)).head?

/-- Takes up the fetches of a table in order while `room` blocks may start; evicts for them; sets STAGE_SHORT where the pool
cannot hold the wanted set (R319). -/
def Route.fetch (x : Route) (wanted : List Nat) : List Nat → MapTable → MapTable
  | [], t => t
  | k :: ks, t =>
    match t.active.find? fun d => decide (d.1 = k ∧ d.2.bad = false) with
    | none => x.fetch wanted ks t
    | some (_, b) =>
      if t.isStaged k b.block ∨ t.fetching.any fun (y : Nat × Nat × Nat) => y.1 = k then x.fetch wanted ks t
      else if t.staged.length + t.fetching.length < t.slots then
        x.fetch wanted ks { t with fetching := t.fetching ++ [(k, b.block, 0)] }
      else match x.victim t wanted with
        | some v => x.fetch wanted ks { t with staged := t.staged.erase v, fetching := t.fetching ++ [(k, b.block, 0)] }
        | none => { t with short := true }

/-- Blocks in flight over all tables. -/
def State.inFetch (s : State) : Nat := s.ta.maps.foldl (fun k (x : Nat × MapTable) => k + x.2.fetching.length) 0

/-- The prefetcher serves every table: wanted sets, evictions and fetches, up to 64 blocks in flight (R319). -/
def serveTables (s : State) : State :=
  let x := s.ta.route
  if x.mode = 0 then s
  else (List.range 16).foldl (fun s m =>
    let t := s.mapTable m
    if !t.created then s
    else
      let w := (x.wanted t.tileM).map (·.1)
      let t' := x.fetch w w { t with wanted := w, short := false }
      let room := 64 - (s.inFetch - t.fetching.length)
      s.setMapTable m { t' with fetching := t'.fetching.take room }) s

/-- Arc length staged ahead of s over all tables: up to the first wanted tile ahead that is not staged (R319). -/
def State.reachOf (s : State) : Nat :=
  let x := s.ta.route
  let total := (segmentsOf 0 x.pts).foldl (fun k g => k + segLen g.2.1 g.2.2) 0
  let limit := min (x.ahead * 65536) (total - x.arc)
  s.ta.maps.foldl (fun k (y : Nat × MapTable) =>
    let t := y.2
    let gap := (x.wantedOn t.tileM).find? fun (w : Nat × Nat) => decide (x.arc ≤ w.2)
      && t.active.any fun d => decide (d.1 = w.1) && !t.isStaged w.1 d.2.block
    min k (match gap with | some w => w.2 - x.arc | none => limit)) limit / 65536

/-- The prefetcher at work: tables served, REACH_M worked out. -/
def prefetcher (s : State) : State :=
  let s := serveTables s
  { s with ta := { s.ta with route := { s.ta.route with reach := if s.ta.route.mode = 0 then 0 else s.reachOf } } }

/-- The position that the prefetcher takes: of the newest pose, if it is no older than 1 s (R318). -/
def State.position (s : State) : Option Pt :=
  match s.sp.poses with
  | p :: _ => if s.now ≤ p.time + 1000000000 then some (fix16 (f64 p.x), fix16 (f64 p.y)) else s.ta.route.at_
  | [] => s.ta.route.at_

/-- Every 100 ms (R318). -/
def execRoutePrefetchTick (s : State) : Host.Outcome State Fault Refusal :=
  let x := s.ta.route
  if x.mode = 0 then next s
  else match s.position with
    | none => next s
    | some p =>
      let gs := (segmentsOf 0 x.pts).filterMap (clipSeg x.arc (2 ^ 62))
      let arc := ((projectOn p gs).map (·.1)).getD x.arc
      next (prefetcher { s with ta := { s.ta with route := { x with at_ := some p, arc := max x.arc arc } } })

/-- A fetched tile block has been read; `good` tells whether its CRC-32C matches. A block whose CRC fails is read once more;
a second failure makes the tile unreadable (R319, R322). -/
def execTileBlockFetched (table key : Nat) (good : Bool) (s : State) : Host.Outcome State Fault Refusal :=
  let t := s.mapTable table
  match t.fetching.find? fun (y : Nat × Nat × Nat) => y.1 = key with
  | none => next s
  | some (k, b, reads) =>
    let rest := t.fetching.filter fun (y : Nat × Nat × Nat) => y.1 ≠ key
    if good then
      next (prefetcher (s.setMapTable table { t with fetching := rest, staged := t.staged ++ [(k, b, decide (s.ta.route.mode = 2))] }))
    else if reads = 0 then next (s.setMapTable table { t with fetching := rest ++ [(k, b, 1)] })
    else
      let mark := fun (d : Tab TileBlock) => d.map fun (y : Nat × TileBlock) =>
        if y.1 = key ∧ y.2.block = b then (y.1, { y.2 with bad := true }) else y
      let t' := { t with fetching := rest, badTiles := satInc t.badTiles }
      let t' := if t.activeB then { t' with dirB := mark t.dirB } else { t' with dirA := mark t.dirA }
      let s := overList (fun c => ctxEvent c 26 3 0) (s.flask t.owner).tenants (s.setMapTable table t')
      let x := s.memSource 3
      let n := Tab.get 0 x.leaky b + 1
      let full := decide (x.threshold ≤ n)
      let s := s.setMemSource 3 { x with corrected := satInc x.corrected, leaky := Tab.set 0 x.leaky b (if full then 0 else n) }
      nextMoves (prefetcher (if full then memLasting 3 b s else s))

/-- The position has stayed off the route, or back on it, for 2 s (R320). -/
def execRadiusMode (radius : Bool) (s : State) : Host.Outcome State Fault Refusal :=
  let x := s.ta.route
  if radius ∧ x.mode = 1 then
    let s := { s with ta := { s.ta with route := { x with mode := 2 } } }
    let owners := (s.ta.maps.map fun (y : Nat × MapTable) => y.2.owner).dedup
    next (prefetcher (overList (fun f s => overList (fun c => ctxEvent c 24 3 0) (s.flask f).tenants s) owners s))
  else if !radius ∧ x.mode = 2 then next (prefetcher { s with ta := { s.ta with route := { x with mode := 1 } } })
  else next s

/-- Two consecutive equal waypoints. -/
def repeats : List (Nat × Nat) → Bool
  | a :: b :: r => (!(f32 a.1).lt (f32 b.1) && !(f32 b.1).lt (f32 a.1) && !(f32 a.2).lt (f32 b.2) && !(f32 b.2).lt (f32 a.2))
      || repeats (b :: r)
  | _ => false

def execSetRoute (p : Packet) (s : State) : Host.Outcome State Fault Refusal :=
  command 0x0333 22 true p s fun s _ =>
    let n := p.u16 24
    let bytes := s.hostRead (p.u64 16) (8 * n)
    let pts := (List.range n).map fun i => (fieldOf bytes (8 * i) 4, fieldOf bytes (8 * i + 4) 4)
    if n = 0 then
      ok { s with ta := { s.ta with route := { s.ta.route with points := [], mode := 0, arc := 0, reach := 0 } } }
    else if n = 1 ∨ 4096 < n ∨ pts.any (fun w => !(f32 w.1).isFin || !(f32 w.2).isFin) ∨ repeats pts
        ∨ !within 16 2048 (p.u16 26) ∨ !within 0 4095 (p.u16 30) ∨ !within 1 1000 (p.u16 32) then .reject 3 0x2B
    else
      let x : Route := { points := pts, corridor := p.u16 26, ahead := p.u16 28, behind := p.u16 30, share := p.u16 32
                         mode := 1, arc := 0, at_ := s.ta.route.at_, reach := 0 }
      ok (prefetcher { s with ta := { s.ta with route := x } })

end Sys2Proof.Machine
end

