-- ==== Sys2Proof/Machine/TrussCmds.lean ====
section
/-!
DEFINITION. The meanings of the commands and events of trusses, lock-step pairs, stretch and AetheoLink
(spec 15_determinism_pacing.md).
-/

namespace Sys2Proof.Machine

/-- A field out of its range (R513). -/
def trussConfig : Answer := .reject 0x0A 3
/-- A member that is not in MEMBER or PAIRED (R513). -/
def noMember : Answer := .reject 0x0A 4
/-- PAIR_STATE. -/
def pairState : Answer := .reject 0x0A 5
/-- APERTURE. -/
def apertureBad : Answer := .reject 0x0A 7

/-! ### The configuration digest (R499 to R501) -/

/-- The paced image whose pace table sets a flask's period. -/
def State.paceOf (s : State) (f : Nat) : Option PourImage :=
  ((((s.jobsOf f).filter fun j => (s.job j).live) ++ s.jobsOf f).map fun j => (s.job j).image).find? (·.paced)

/-- The flask image hash: low 64 bits of the SHA-384 over the hashes of the loaded images, in ascending order. -/
def State.imageHash (s : State) (f : Nat) : Nat :=
  let hs := sortBy ((s.jobsOf f).map fun j => (s.job j).image.hash) fun a b => decide (a ≤ b)
  hashLow64 (hs.flatMap fun h => (leBytes 48 h).reverse)

/-- The mask this module offers for comparison (Table 15.6). -/
def State.offered (s : State) : Nat :=
  match s.truss.pairing with
  | some (_, _, mask, _) => mask
  | none => s.truss.pairMask

/-- This module's configuration digest (Table 15.6). -/
def State.ownDigest (s : State) : ConfigDigest :=
  let mask := s.offered
  { moduleId := s.moduleId, ksVersion := s.runningVersion 0, mpVersion := s.runningVersion 1, paVersion := s.runningVersion 2
    listed := moduleDigest s, calA := hashLow64 (s.calBytes 0), calB := hashLow64 (s.calBytes 1)
    tbState := s.tb.state.code, traceable := s.traceable, member := s.truss.me, stretch := s.truss.stretch, tbErr := s.tbErr
    trussId := s.truss.id, mask := mask
    flasks := (flaskNums.filter (bitAt mask)).map fun f =>
      let im := s.paceOf f
      { flask := f, cls := (s.flask f).cls, spanUs := (s.flask f).spanUs
        period := (im.map (·.period)).getD 0, phase := (im.map (·.phase)).getD 0
        cal := hashLow64 (s.calBytes (s.calOf f)), image := s.imageHash f } }

/-- Notes that the digest goes out to every member. -/
def sendDigest (s : State) : State :=
  let d := s.ownDigest
  sendTruss 3 ([d.moduleId, d.ksVersion, d.mpVersion, d.paVersion, d.listed, d.calA, d.calB,
    d.tbState + (if d.traceable then 128 else 0), d.member, d.stretch, d.tbErr, d.trussId, d.mask]
    ++ d.flasks.flatMap fun x => [x.flask, x.cls, x.spanUs, x.period, x.phase, x.cal, x.image]) s

/-- A flask's part of two digests agrees but for its calibration set. -/
def DigestFlask.same (a b : DigestFlask) : Bool :=
  decide (a.flask = b.flask ∧ a.cls = b.cls ∧ a.spanUs = b.spanUs ∧ a.period = b.period ∧ a.phase = b.phase ∧ a.image = b.image)

/-- The row of Table 15.7 that refuses lock-step between two digests, by its reason of Table 15.13. [log 96 DEDUCED] -/
def digestReason (a b : ConfigDigest) (stretch : Bool) : Option Nat :=
  let va := bitsOf a.moduleId 15 8
  let vb := bitsOf b.moduleId 15 8
  if decide (va = 3) != decide (vb = 3) then some 5
  else if va ≠ vb then some 4
  else if a.ksVersion ≠ b.ksVersion ∨ a.mpVersion ≠ b.mpVersion ∨ a.paVersion ≠ b.paVersion then some 6
  else if a.listed ≠ b.listed then some 7
  else if a.flasks.map (·.cal) ≠ b.flasks.map (·.cal) ∧ a.mask = b.mask then some 8
  else if a.mask ≠ b.mask ∨ !(a.flasks.zip b.flasks).all fun x => x.1.same x.2 then some 9
  else if stretch ∧ a.stretch ≠ b.stretch then some 0x0B
  else none

/-- Pairing is agreed: the pair is kept, comparison is to begin (R504, R505). [log 96 DEDUCED] -/
def agreePair (t : Ticket) (m mask : Nat) (s : State) : State :=
  let s := s.setMember m { s.member m with state := .paired }
  { s with truss := { s.truss with
    partner := some m, pairing := none, agreed := true, pairMask := mask, agreedAt := s.now, pairTicket := some t
    compared := 0, spanNums := [], own := [], early := [] } }

/-- The pending PAIR_MODULES, once the partner has taken up its own: agreed, or refused with its reason (R504). -/
def tryPair (s : State) : State :=
  match s.truss.pairing with
  | none => s
  | some (t, m, mask, _) =>
    let x := s.member m
    match x.digest with
    | none => s
    | some d =>
      if d.mask = 0 ∨ !x.joined then s
      else
        let why := match digestReason s.ownDigest d true with
          | some r => some r
          | none => if 1000 < x.timeOffset.natAbs then some 0x0A else none
        match why with
        | none => agreePair t m mask s
        | some r =>
          let s := s.setMember m { x with reason := r }
          finish t 3 0x0A 1 [BitVec.ofNat 8 r] { s with truss := { s.truss with pairing := none } }

/-- A digest of a paired member that refuses lock-step drops the pair; a mask of 0 tells that it has unpaired (R501).
[log 96 DEDUCED] -/
def checkPair (s : State) : State :=
  match s.truss.partner with
  | none => s
  | some m => match (s.member m).digest with
    | none => s
    | some d =>
      if d.mask = 0 then dropPair 0x13 0xFF 0 s.now s
      else match digestReason s.ownDigest d (s.truss.stretchWaits = []) with
        | some r => dropPair r 0xFF 0 s.now s
        | none => s

/-! ### Commands -/

/-- A port is enabled and begins to train, or is disabled. -/
def enablePort (k : Nat) (on : Bool) (s : State) : State :=
  let x := s.aePort k
  if on then if x.up || x.retraining then s else s.setAePort k { x with retraining := true }
  else loseSource (8 + k) (s.setAePort k { AePort.rest with retrains := x.retrains })

def execSetTruss (p : Packet) (s : State) : Host.Outcome State Fault Refusal :=
  command 0x0A01 12 true p s fun s _ =>
    let m := p.u8 16
    let en := p.u8 17
    if 3 < m ∨ 3 < en ∨ 3 < p.u8 18 ∨ p.u8 19 ≠ 0 ∨ 2 ^ 29 ≤ p.u32 20 then trussConfig
    else if s.joined ≠ [] then .reject 0x0A 2
    else
      let s := { s with truss := { s.truss with
        id := p.u32 12, me := m, portEn := BitVec.ofNat 2 en, noticeCh := p.u8 18, noticeId := p.u32 20 } }
      ok (enablePort 1 (bitAt en 1) (enablePort 0 (bitAt en 0) s))

def execQueryTruss (p : Packet) (s : State) : Host.Outcome State Fault Refusal :=
  command 0x0A02 1 false p s fun s _ =>
    let m := p.u8 12
    let listed := leBytes 8 (moduleDigest s)
    if m = 0xFF then ok s (leBytes 4 (s.trussStatus 0) ++ leBytes 4 (s.trussStatus 1) ++ listed)
    else if 3 < m then trussConfig
    else if !(s.joined.contains m) then noMember
    else ok s (leBytes 4 (s.memberWord m 0) ++ leBytes 4 (s.memberWord m 1) ++ listed)

/-- A flask that may be compared (R504). -/
def State.comparable (s : State) (f : Nat) : Bool :=
  (s.flask f).state = .active && (s.flask f).mode = .paced && (s.jobsOf f).any fun j => (s.job j).state = .running

def execPairModules (p : Packet) (s : State) : Host.Outcome State Fault Refusal :=
  commandThen tryPair 0x0A03 4 true p s fun s t =>
    let m := p.u8 12
    let mask := p.u16 14
    if 3 < m ∨ m = s.truss.me ∨ mask = 0 ∨ p.u8 13 ≠ 0 then trussConfig
    else if s.truss.partner.isSome ∨ s.truss.pairing.isSome then pairState
    else if !(s.joined.contains m) then noMember
    else if !((flaskNums.filter (bitAt mask)).all s.comparable) then pairState
    else .later (sendDigest { s with truss := { s.truss with pairing := some (t, m, mask, s.now) } })

def execUnpair (p : Packet) (s : State) : Host.Outcome State Fault Refusal :=
  command 0x0A04 0 true p s fun s _ =>
    if s.truss.partner.isNone then pairState
    else ok (sendDigest (dropPair 0x13 0xFF 0 s.now s))

def execLeaveTruss (p : Packet) (s : State) : Host.Outcome State Fault Refusal :=
  command 0x0A06 0 true p s fun s _ =>
    if s.truss.id = 0 then ok s
    else
      let s := dropPair 0x13 0xFF 0 s.now s
      let ports := [0, 1].filter fun k => s.truss.portEn.getLsbD k
      let s := ports.foldl (fun s k => sendTruss 2 [k, s.truss.me] s) s
      let s := overList memberLeaves (s.truss.members.map (·.1)) s
      ok { s with truss := { s.truss with id := 0, members := [] } }

/-- [log 97 DEDUCED] -/
def execReadDivergence (p : Packet) (s : State) : Host.Outcome State Fault Refusal :=
  command 0x0A05 0 true p s fun s _ =>
    let d := s.truss.divergence
    ok { s with truss := { s.truss with divergence := { d with held := false } } }
      (leBytes 8 d.span ++ leBytes 8 d.boundary ++ leBytes 1 d.flask ++ leBytes 1 d.engines ++ leBytes 1 (if d.held then 1 else 0))

def execTrussAperture (p : Packet) (s : State) : Host.Outcome State Fault Refusal :=
  command 0x0A10 20 false p s fun s t =>
    let k := p.u8 12
    let o := p.u16 14
    let va := p.u48 16
    let n := p.u64 24
    let x := s.aperture k
    match s.senderFlask t with
    | none => notPermitted
    | some f =>
      if 63 < k ∨ 15 < p.u8 13 ∨ p.u16 22 ≠ 0 then trussConfig
      else if x.opened ∧ x.ctx ≠ t.ctx then notPermitted
      else if n = 0 then ok (s.setAperture k Aperture.rest)
      else if 16384 ≤ o ∨ (s.sync o).kind ≠ .counter ∨ (s.sync o).holder ≠ f ∨ !(s.rangeOk t.ctx va n true) then trussConfig
      else ok (s.setAperture k { opened := true, ctx := t.ctx, members := BitVec.ofNat 4 (p.u8 13), counter := o, va := va
                                 bytes := n })

/-- A copy to another member's aperture; `answer` tells how it ends there (R511). [log 99 DESIGN CHOICE] -/
def execTrussCopy (p : Packet) (answer : CopyEnd) (s : State) : Host.Outcome State Fault Refusal :=
  command 0x0A11 28 false p s fun s t =>
    let m := p.u8 12
    let va := p.u48 16
    let n := p.u64 24
    match s.senderFlask t with
    | none => notPermitted
    | some _ =>
      if 3 < m ∨ 63 < p.u8 13 ∨ p.u16 14 ≠ 0 ∨ p.u16 22 ≠ 0 then trussConfig
      else if !(s.joined.contains m) then noMember
      else if !(s.rangeOk t.ctx va n false) ∨ answer = .refused then apertureBad
      else match answer with
        | .lost => .done s 4 0x0A 8 []
        | _ => ok (sendTruss 6 ([m, p.u8 13, p.u64 32] ++ (s.vread t.ctx va n).map BitVec.toNat) s)

/-! ### Hellos and departures (R497, R498) -/

/-- A member in HELLO joins or is refused (Table 15.5). [log 98 DEDUCED] -/
def judgeHello (m : Nat) (s : State) : State :=
  let x := s.member m
  if s.truss.id = 0 ∨ x.state ≠ .hello then s
  else if x.trussId ≠ s.truss.id then attn 10 0x0A 1 (s.setMember m { x with state := .refused, reason := 1 })
  else if m = s.truss.me then attn 10 0x0A 2 (s.setMember m { x with state := .refused, reason := 2 })
  else sendDigest (restretch s.now (attn 10 0x0A 0 (s.setMember m { x with state := .member })))

/-- [log 98 DEDUCED] -/
def execHello (port member trussId moduleId hops : Nat) (s : State) : Host.Outcome State Fault Refusal :=
  if 1 < port ∨ 3 < member ∨ !(s.aePort port).up then next s
  else
    let x := s.member member
    let s := if hops ≤ 1 then s.setAePort port { s.aePort port with peer := member } else s
    let better := decide (x.hops = 0 ∨ hops < x.hops ∨ (hops = x.hops ∧ port ≤ x.viaPort) ∨ port = x.viaPort)
    let y := if better then { x with hops := min 3 hops, viaPort := port } else x
    match x.state with
    | .absent => next (judgeHello member (s.setMember member { y with state := .hello, trussId := trussId, moduleId := moduleId }))
    | .hello => next (judgeHello member (s.setMember member { y with trussId := trussId, moduleId := moduleId }))
    | .refused =>
      let z := { y with trussId := trussId, moduleId := moduleId }
      let changed := (x.reason = 1 ∧ (trussId ≠ x.trussId ∨ trussId = s.truss.id)) ∨ (x.reason = 2 ∧ member ≠ s.truss.me)
      next (if changed then judgeHello member (s.setMember member { z with state := .hello }) else s.setMember member z)
    | _ => next (s.setMember member y)

def execHelloTimeout (member : Nat) (s : State) : Host.Outcome State Fault Refusal :=
  next (if (s.member member).joined then memberLeaves member s else s)

/-- Every 10 ms a hello goes out on each enabled port that is up. -/
def execHelloSend (s : State) : Host.Outcome State Fault Refusal :=
  let ports := [0, 1].filter fun k => s.truss.portEn.getLsbD k && (s.aePort k).up
  let states := [0, 1, 2, 3].map fun m => (s.member m).state.code
  next (ports.foldl (fun s k => sendTruss 1 ([k, s.moduleId, s.truss.id, s.truss.me] ++ states) s) s)

def execLeaveMessage (member : Nat) (s : State) : Host.Outcome State Fault Refusal := next (memberLeaves member s)

/-! ### Time across a truss (R502) -/

/-- Time quality (class, TB_ERR, member number) of a member ranks above another's. -/
def ranksAbove (good : Bool) (err m : Nat) (good' : Bool) (err' m' : Nat) : Bool :=
  decide ((good = true ∧ good' = false) ∨ (good = good' ∧ (err < err' ∨ (err = err' ∧ m < m'))))

/-- A time message of the neighbour on a port: its time less this module's, its TB_STATUS STATE, TRACEABLE and TB_ERR.
[log 98 DEDUCED] -/
def execTimeMessage (port : Nat) (offset : Int) (tbState : Nat) (traceable : Bool) (err : Nat) (s : State) :
    Host.Outcome State Fault Refusal :=
  let a := s.aePort port
  if 1 < port ∨ !a.up ∨ s.truss.id = 0 then next s
  else
    let m := a.peer
    let x := s.member m
    let good := decide (tbState = 1 ∨ tbState = 2) && traceable
    let apart := if 1000 < offset.natAbs then x.apart + 1 else 0
    let s := s.setMember m { x with timeOffset := offset, apart := min 3 apart, good := good, err := err }
    let src := s.source (8 + port)
    let s := s.setSource (8 + port) { src with offset := offset, traceable := traceable, err := err }
    let s := if tbState = 1 then qualify (8 + port) s else loseSource (8 + port) s
    let s := noteTraceable (8 + port) src.traceable (trackPhase (8 + port) s)
    let mine := decide (s.tb.state = .locked ∨ s.tb.state = .slewing) && s.traceable
    let own := s.tbErr
    if s.truss.following = some port then
      next (if ranksAbove mine own s.truss.me good err m then endFollow s else s)
    else if s.truss.following.isNone ∧ x.joined ∧ 3 ≤ apart ∧ ranksAbove good err m mine own s.truss.me then
      next (beginFollow port s)
    else next s

/-- 10 s after a follow began the difference still exceeds 1 µs: the pair is dropped with TIME. -/
def execTimeFollowTimeout (s : State) : Host.Outcome State Fault Refusal :=
  match s.truss.following with
  | none => next s
  | some port =>
    let m := (s.aePort port).peer
    let s := advance (s.truss.followSince + 10000000000) s
    if (s.member m).apart ≠ 0 ∧ s.truss.partner = some m then next (dropPair 0x0A 0xFF 0 s.now s) else next s

/-! ### Digests -/

/-- [log 96 DEDUCED] -/
def execConfigurationDigest (member : Nat) (digest : ConfigDigest) (s : State) : Host.Outcome State Fault Refusal :=
  let x := s.member member
  if !x.joined ∨ digest.member ≠ member then next s
  else
    let s := s.setMember member { x with digest := some digest, listed := digest.listed }
    let s := if s.truss.stretchWaits = [] ∧ digest.stretch ≠ s.truss.stretch then lastingFault 0x0A 1 member 0x0B s else s
    next (tryPair (checkPair s))

def execConfigurationDigestSend (s : State) : Host.Outcome State Fault Refusal :=
  if s.truss.id = 0 then next s else next (checkPair (sendDigest s))

/-! ### Stretch (R487, R488) -/

/-- A member's stretch notice: its new request and the TAI time of the decision. [log 95 DEDUCED] -/
def execStretchNotice (member request time : Nat) (s : State) : Host.Outcome State Fault Refusal :=
  if !(s.joined.contains member) ∨ request < 256 ∨ 512 < request then next s
  else next (restretch time (s.setMember member { s.member member with request := request }))

def execStretchBoundary (flask : Nat) (s : State) : Host.Outcome State Fault Refusal :=
  match stretchBoundary flask s with
  | none => next s
  | some s => next (if s.truss.id = 0 then s else sendDigest s)

/-- A W1C write of TRUSS_STATUS (R512, Table 15.10). -/
def clearStretchLate (value : Word) (s : State) : State :=
  { s with truss := { s.truss with stretchLate := s.truss.stretchLate && !value.getLsbD 12 } }

def execStretchLateClear (value : Word) (s : State) : Host.Outcome State Fault Refusal :=
  if s.pfServed then next (clearStretchLate value s) else next s

/-! ### Lock-step comparison (R504 to R509) -/

/-- A divergence: the DIVERGENCE record if it is free, the drop, the error source for DIVERGED (R507, R509, R574).
[log 97 DEDUCED] -/
def diverge (own : SpanSigs) (engines : List Nat) (peer : List (Nat × Nat)) (reason : Nat) (s : State) : State :=
  let d := s.truss.divergence
  let e := engines.headD 1
  let rec_ : Divergence := if d.held then d else
    { span := own.span, boundary := own.boundary, flask := own.flask
      engines := engines.foldl (fun k e => k + 2 ^ (e - 1)) 0, held := true
      own := (own.sigs.lookup e).getD 0, peer := (peer.lookup e).getD 0 }
  let s := dropPair reason own.flask (engines.headD 0) own.boundary { s with truss := { s.truss with divergence := rec_ } }
  if reason ≠ 0x10 then s
  else
    let (s, lasting) := errEvent 2 own.flask s
    if lasting then safetyLog 9 0x31 own.flask 0xFF (lastingFault 9 0x31 own.flask 0 s) else s

/-- Compares both members' signatures of one boundary. [log 97 DEDUCED] -/
def compareSigs (own : SpanSigs) (peer : List (Nat × Nat)) (s : State) : State :=
  let s := { s with truss := { s.truss with spans := satInc s.truss.spans } }
  match sigsDiffer own.sigs peer with
  | [] => s
  | es => diverge own es peer 0x10 s

/-- This member's signatures of a boundary are formed and sent; the partner's are compared if they have come. -/
def ownSigs (x : SpanSigs) (s : State) : State :=
  let s := sendTruss 5 ([x.flask, x.span] ++ x.sigs.flatMap fun y => [y.1, y.2]) s
  match s.truss.early.find? fun y => decide (y.flask = x.flask ∧ y.span = x.span) with
  | some y => compareSigs x y.sigs { s with truss := { s.truss with early := s.truss.early.filter (· ≠ y) } }
  | none => { s with truss := { s.truss with own := s.truss.own ++ [x] } }

/-- The partner's signatures of a span number arrive. -/
def execSignatureMessage (member flask span : Nat) (sigs : List (Nat × Nat)) (s : State) : Host.Outcome State Fault Refusal :=
  if s.truss.partner ≠ some member ∨ !(bitAt s.truss.pairMask flask) then next s
  else match s.truss.own.find? fun y => decide (y.flask = flask ∧ y.span = span) with
    | some y => next (compareSigs y sigs { s with truss := { s.truss with own := s.truss.own.filter (· ≠ y) } })
    | none => next { s with truss := { s.truss with
        early := s.truss.early ++ [{ flask := flask, span := span, boundary := 0, sigs := sigs }] } }

/-- 50 µs after the boundary the partner's signatures have not come: a divergence, PEER_SILENT. [log 97 DEDUCED] -/
def execSignatureTimeout (flask span : Nat) (s : State) : Host.Outcome State Fault Refusal :=
  match s.truss.own.find? fun y => decide (y.flask = flask ∧ y.span = span) with
  | none => next s
  | some y => next (diverge y (y.sigs.map (·.1)) [] 0x11 (advance (y.boundary + 50000) s))

/-- The partner's PAIR_MODULES did not come within 1 s of this one. -/
def execPairTimeout (s : State) : Host.Outcome State Fault Refusal :=
  match s.truss.pairing with
  | none => next s
  | some (t, _, _, since) =>
    next (finish t 4 0x0A 6 [] (advance (since + 1000000000) { s with truss := { s.truss with pairing := none } }))

/-- The next boundary of a flask is a period start (R165). [log 39 DEDUCED] -/
def State.periodStart (s : State) (f : Nat) : Bool :=
  match s.paceOf f with
  | none => false
  | some im =>
    let x := s.flask f
    if x.inPeriod then decide (im.period ≤ x.span + 1)
    else decide (s.nextBoundary f / max 1 (spanNs f s) % max 1 im.period = im.phase)

/-- Comparison of a flask begins with its first period start at least 10 ms after pairing was agreed (R505).
[log 97 DEDUCED] -/
def execComparisonStart (flask : Nat) (s : State) : Host.Outcome State Fault Refusal :=
  let t := s.truss
  if !t.agreed ∨ !(bitAt t.pairMask flask) ∨ t.compared.getLsbD flask ∨ !(s.periodStart flask)
      ∨ s.nextBoundary flask < t.agreedAt + 10000000 then next s
  else
    let done := t.compared ||| BitVec.ofNat 16 (2 ^ flask)
    let all := decide (done.toNat = t.pairMask)
    let s := { s with truss := { t with
      compared := done, spanNums := Tab.put t.spanNums flask 0, pairTicket := if all then none else t.pairTicket } }
    next (if all then finishOpt t.pairTicket 0 0x0A 0 [] s else s)

/-! ### Ports (R494) -/

/-- Lanes of a port that have failed for good. -/
def State.laneOk (s : State) (port lane : Nat) : Bool := !(s.isRetired 4 port lane)

/-- The lanes of the largest group that trains (Table 15.4). -/
def State.laneGroup (s : State) (port : Nat) : Nat :=
  let good := fun (l : List Nat) => l.all (s.laneOk port)
  if good [0, 1, 2, 3, 4, 5, 6, 7] then 8
  else if good [0, 1, 2, 3] || good [4, 5, 6, 7] then 4
  else if good [0, 1] || good [2, 3] || good [4, 5] || good [6, 7] then 2
  else if (List.range 8).any (s.laneOk port) then 1 else 0

/-- [log 98 DEDUCED] -/
def execAetheolinkLaneFailure (port lane : Nat) (s : State) : Host.Outcome State Fault Refusal :=
  let x := s.aePort port
  if 1 < port ∨ 7 < lane ∨ !s.truss.portEn.getLsbD port ∨ !(s.laneOk port lane) ∨ !(x.up || x.retraining) then next s
  else
    let s := retire 4 port lane s
    next (attn 11 0x0A 0 (s.setAePort port { x with up := false, retraining := true, retrains := satInc x.retrains }))

/-- A port has trained, to the largest group whose lanes all train; without one it is down. -/
def execRetrainComplete (port : Nat) (s : State) : Host.Outcome State Fault Refusal :=
  let x := s.aePort port
  if 1 < port ∨ !x.retraining then next s
  else
    let n := s.laneGroup port
    let s := s.setAePort port { x with retraining := false, lanes := n, up := decide (n ≠ 0) }
    next (if n = 0 then loseSource (8 + port) (attn 11 0x0A 0 s) else s)

/-- A truss copy of another member into this module's aperture completes: the bytes are written, the counter rises by 1
(R510, R511). -/
def execApertureWrite (member aperture offset : Nat) (bytes : List Byte) (s : State) : Host.Outcome State Fault Refusal :=
  let x := s.aperture aperture
  if !x.opened ∨ !(s.joined.contains member) ∨ !x.members.getLsbD member ∨ x.bytes < offset + bytes.length
      ∨ !(s.rangeOk x.ctx (x.va + offset) bytes.length true) then next s
  else next (signalSync x.counter 0 1 (vwrite x.ctx (x.va + offset) bytes s))

end Sys2Proof.Machine
end

