-- ==== Sys2Proof/Machine/PowerOps.lean ====
section
/-!
DEFINITION. The Power Arbiter's epoch: budget, thermal control, grants, pace and voltage, stretch requests, energy
attribution (spec 16_power_budget_thermal.md, R515 to R541).
-/

namespace Sys2Proof.Machine

/-! ### Figures (Table 16.1) -/

/-- The coolant figure of an inlet temperature in 0.1 °C (Table 16.8). -/
def inletW (t : Int) : Nat := if t ≤ 650 then 760 else if t ≤ 800 then (760 - 3 * (t - 650)).toNat else 40
/-- The coolant figure of a flow in 0.01 L/min. -/
def flowW (f : Nat) : Nat := if 600 ≤ f then 760 else if 50 ≤ f then 760 * f / 600 else 40

/-- The mode budget in force: a pending change that lowers it applies at once (R517). -/
def State.modeFigure (s : State) : Nat :=
  let b := modeBudget s.fuses.grade s.pa.mode
  match s.pa.change with
  | none => b
  | some m => min b (modeBudget s.fuses.grade m.mode)

/-- The figures of Table 16.1 in order of their codes. -/
def State.budgetFigures (s : State) : List Nat :=
  [s.modeFigure, s.pa.swCeilW, s.pa.supplyW, s.pa.coolantW, s.pa.hubThermalW]

/-! ### Temperatures (R537, R538) -/

/-- Warn, throttle and limit of a group (Table 16.7): 0 to 3 compute dies, 4 to 7 stacks, 8 hub, 9 LPDDR5X, 10 flash.
[log 105 DEDUCED] -/
def groupLimits (g : Nat) : Int × Int × Int :=
  if g < 4 then (100, 105, 115) else if g < 8 then (85, 90, 100) else if g = 8 then (100, 105, 115)
  else if g = 9 then (90, 95, 105) else (75, 80, 90)

/-- Notes a group's temperature. -/
def setGroupC (g : Nat) (t : Int) (s : State) : State :=
  let s := { s with pa := { s.pa with groupC := Tab.put s.pa.groupC g t } }
  if g < 4 then s.setDiePower g { s.diePower g with hottest := t }
  else if g < 8 then { s with pa := { s.pa with hbmC := Tab.set 0 s.pa.hbmC (g - 4) t } }
  else if g = 8 then { s with pa := { s.pa with hubC := t } }
  else if g = 9 then { s with pa := { s.pa with lpC := t } }
  else { s with pa := { s.pa with flashC := t } }

/-- A reading that marks its sensor failed: outside −55 °C to 150 °C, or more than 25 K from the others. [log 105 DEDUCED] -/
def sensorBad (rs : List (Nat × Nat × Int)) (r : Nat × Nat × Int) : Bool :=
  let others := rs.filter fun x => decide (x.2.1 ≠ r.2.1)
  decide (r.2.2 < -55 ∨ 150 < r.2.2) || (!others.isEmpty && others.all fun x => decide (25 < (x.2.2 - r.2.2).natAbs))

/-- What a group at temperature `t` does in this epoch (R538); `r` is the epoch's reading. [log 105 DEDUCED] -/
def thermalAct (r : EpochReading) (g : Nat) (t : Int) (s : State) : State :=
  let (warn, throttle, limit) := groupLimits g
  let bit : BitVec 11 := BitVec.ofNat 11 (2 ^ g)
  let s := if warn ≤ t ∧ !s.pa.warn.getLsbD g then
      attn 8 8 0 { s with pa := { s.pa with warn := s.pa.warn ||| bit } } else s
  let run := if limit ≤ t then Tab.get 0 s.pa.limitRun g + 1 else 0
  let s := { s with pa := { s.pa with limitRun := Tab.set 0 s.pa.limitRun g run } }
  let s := if g = 10 ∧ t < 80 then { s with pa := { s.pa with atLimit := s.pa.atLimit &&& ~~~bit } } else s
  if throttle < t then
    let s := { s with pa := { s.pa with throttleBits := s.pa.throttleBits ||| bit } }
    if g < 8 then
      let d := s.diePower (g % 4)
      s.setDiePower (g % 4) { d with thermalCeil := some (98 * r.dies.getD (g % 4) 0 / 100), throttle := true }
    else if g < 10 then { s with pa := { s.pa with hubThermalW := 98 * (r.input / 50) / 100 } }
    else s
  else if t ≤ throttle - 3 ∧ s.pa.throttleBits.getLsbD g then
    let clear := fun (s : State) => { s with pa := { s.pa with throttleBits := s.pa.throttleBits &&& ~~~bit } }
    if g < 8 then
      let d := s.diePower (g % 4)
      match d.thermalCeil with
      | none => clear (s.setDiePower (g % 4) { d with throttle := false })
      | some c =>
        if 5500 ≤ c + s.pa.modeW / 2 then clear (s.setDiePower (g % 4) { d with thermalCeil := none, throttle := false })
        else s.setDiePower (g % 4) { d with thermalCeil := some (c + s.pa.modeW / 2) }
    else if g < 10 then
      let w := s.pa.hubThermalW + s.pa.modeW / 100
      if s.pa.modeW ≤ w then clear { s with pa := { s.pa with hubThermalW := 0xFFFF } }
      else { s with pa := { s.pa with hubThermalW := w } }
    else clear s
  else s

/-- Reads a group's sensors: failed ones are marked and told, the group takes its hottest working sensor, plus 5 K where
some have failed; a die without one is lost, the hub without one leads to the safe state (R537). -/
def readGroup (r : EpochReading) (g : Nat) (s : State) : State :=
  let rs := r.temps.filter fun x => decide (x.1 = g) && !s.pa.failedSensors.contains (x.1, x.2.1)
  if rs = [] then s
  else
    let bad := rs.filter (sensorBad rs)
    let s := bad.foldl (fun s x => lastingFault 8 0 g x.2.1 { s with pa := { s.pa with
      failedSensors := s.pa.failedSensors ++ [(x.1, x.2.1)], sensorFault := true } }) s
    match (rs.filter fun x => !bad.contains x).map (·.2.2) with
    | [] => if g < 4 then dieLost g .sensors s
            else if g = 8 then safeCause 9 0x2E none none false s else s
    | t :: ts =>
      let hot := ts.foldl max t + (if s.pa.failedSensors.any fun x => decide (x.1 = g) then 5 else 0)
      thermalAct r g hot (setGroupC g hot s)

/-- The coolant sensors and their ceiling (R539). -/
def readCoolant (r : EpochReading) (s : State) : State :=
  let fault := r.inlet.isNone || r.outlet.isNone || r.flow.isNone
  let w := min ((r.inlet.map inletW).getD 250) ((r.flow.map flowW).getD 250)
  { s with pa := { s.pa with
    inlet := r.inlet.getD s.pa.inlet, outlet := r.outlet.getD s.pa.outlet, flow := r.flow.getD s.pa.flow
    coolantFault := s.pa.coolantFault || fault, coolantW := w } }

/-! ### Ceilings, pace and voltage (R81, R526, R528, R530) -/

/-- The die current ceiling in tenths of an ampere (R81). -/
def Die.current (d : Die) : Nat :=
  (List.range 16).foldl (fun k i => if d.removed.getLsbD i then k else k + if d.senseFail.getLsbD i then 136 else 160) 0

/-- The voltage of a die for a pace in 10 M beats/s at its hottest junction (R526). [log 104 DESIGN CHOICE] -/
def State.voltageFor (s : State) (n pace : Nat) : Nat :=
  let t := (s.diePower n).hottest
  let i := min 15 (((t + 40 + 9) / 10).toNat)
  let k := min 31 ((pace + 4) / 5 - 1)
  let e := (Config.voltageEntry n i k).toNat
  let e := if e = 0xFFFF then 820 else if 110 < t then e + 20 else e
  max 600 e

/-- The die ceiling C_d in credits per epoch (R530). [log 101 DEDUCED] -/
def State.dieCeiling (s : State) (n : Nat) : Nat :=
  let d := s.diePower n
  let amps := (s.die n).current * max 600 d.vcore * 50 / 10000
  min amps (min 5500 (d.thermalCeil.getD 5500))

/-- ceil(256 × e / c), clamped to 256 to 512. -/
def stretchOf (e c : Nat) : Nat := if e = 0 then 256 else if c = 0 then 512 else max 256 (min 512 ((256 * e + c - 1) / c))

/-- The mode's upper pace in 10 M beats/s (Table 1.8, Table 0.1): nominal, or the Depot maximum. [log 101 DEDUCED] -/
def upperPace : Mode → Nat
  | .depot => 155
  | _ => 125

/-- The dies of a running paced job. -/
def State.pacedDies (s : State) (j : Nat) : List Nat := ((s.job j).cores.map (·.1)).dedup

/-- Running jobs of paced flasks. -/
def State.pacedJobs (s : State) : List Nat :=
  s.jobNums.filter fun j => (s.job j).live && (s.flask (s.job j).flask).mode = .paced && (s.flask (s.job j).flask).state = .active

/-- The pace of a die in this epoch (R528). [log 101 DEDUCED] -/
def State.diePace (s : State) (r : EpochReading) (n : Nat) : Nat :=
  let target := (85 * 256 + s.truss.stretch - 1) / max 1 s.truss.stretch
  let soft := if s.pa.paceCeil = 0 then upperPace s.pa.mode else min (upperPace s.pa.mode) s.pa.paceCeil
  let jobs := s.pacedJobs.filter fun j => (s.pacedDies j).contains n
  let jobPace := fun (j : Nat) => max target (min soft ((s.pacedDies j).foldl (fun k d => min k (r.paces.getD d 0)) soft))
  if jobs = [] then min soft (r.paces.getD n 0) else (jobs.map jobPace).foldl max 0

/-- Sets what a die's registers show for this epoch. [log 102 DEDUCED] -/
def epochDie (r : EpochReading) (n : Nat) (s : State) : State :=
  let d := s.diePower n
  let used := r.dies.getD n 0
  let metered := decide (d.ceiling ≠ 0 ∧ d.ceiling ≤ used)
  let base := { d with used := used, metered := metered
                       meteredEpochs := if metered then satInc d.meteredEpochs else d.meteredEpochs }
  if !(s.die n).inService then s.setDiePower n { base with vcore := 0, pace := 0, ceiling := 0, paced := 0, stretchReq := 256 }
  else
    let pace := s.diePace r n
    let need := r.need.getD n 0
    let c := s.dieCeiling n
    s.setDiePower n { base with pace := pace, vcore := s.voltageFor n pace, ceiling := c, paced := need, stretchReq := stretchOf need c }

/-! ### Grants (Table 16.3) -/

/-- A job's declared energy per epoch; 1 % of the mode budget where it declares none (R524). -/
def State.jobEnergy (s : State) (j : Nat) : Nat :=
  let e := (s.job j).image.energy.foldl (· + ·) 0
  if e = 0 then s.pa.modeW / 2 else e

/-- Running free-running jobs, C2 then C1, C0, and in order of placement within a class. -/
def State.freeJobs (s : State) : List Nat :=
  sortBy (s.jobNums.filter fun j => (s.job j).live && (s.flask (s.job j).flask).mode = .free
    && (s.flask (s.job j).flask).state = .active) fun a b =>
    let ca := (s.flask (s.job a).flask).cls
    let cb := (s.flask (s.job b).flask).cls
    decide (cb < ca ∨ (ca = cb ∧ (s.job a).placed ≤ (s.job b).placed))

/-- Order 5: each job its declared energy up to the flask's software ceiling, while credits last. -/
def grantJobs (s : State) : List Nat → Nat → Tab Nat → Nat × Tab Nat
  | [], left, g => (left, g)
  | j :: js, left, g =>
    let f := (s.job j).flask
    let x := s.flaskPower f
    let have_ := Tab.get 0 g f
    let room := if x.ceil = 0xFFFF then left else min left (x.ceil - have_)
    let v := min (s.jobEnergy j) room
    grantJobs s js (left - v) (Tab.put g f (have_ + v))

/-- Raises grants below their software floor as far as credits last. [log 101 DEDUCED] -/
def grantFloors (s : State) : List Nat → Nat → Tab Nat → Nat × Tab Nat
  | [], left, g => (left, g)
  | f :: fs, left, g =>
    let v := min left ((s.flaskPower f).floor - Tab.get 0 g f)
    grantFloors s fs (left - v) (Tab.put g f (Tab.get 0 g f + v))

/-- The CONFLICT of a flask whose floor is not met: POWER, and the log at most once per 100 ms (R520). -/
def noteConflict (f : Nat) (s : State) : State :=
  let x := s.flaskPower f
  let due := match x.conflictAt with | none => true | some t => decide (100000000 ≤ s.now - t)
  if due then attn 7 8 1 (s.setFlaskPower f { x with conflict := true, conflictAt := some s.now })
  else { s.setFlaskPower f { x with conflict := true } with host := { s.host with cause := s.host.cause ||| 0x80 } }

/-- Sets one flask's figures of the epoch. [log 102 DEDUCED] -/
def epochFlask (r : EpochReading) (grants : Tab Nat) (f : Nat) (s : State) : State :=
  let x := s.flaskPower f
  let fl := s.flask f
  let used := (r.flasks.lookup f).getD 0
  let extra := if fl.mode = .free then used - x.grant else 0
  let paced := if fl.state = .active ∧ fl.mode = .paced then x.reserved * 256 / max 1 s.truss.stretch else 0
  let lag := r.lags.lookup f
  let lagRun := match lag with | none => 0 | some d => if d = x.lagDie ∧ x.lagRun ≠ 0 then min 20 (x.lagRun + 1) else 1
  let calmRun := if lag.isSome then 0 else min 20 (x.calmRun + 1)
  s.setFlaskPower f { x with
    used := used, grant := if fl.mode = .paced then paced else Tab.get 0 grants f - extra, excess := extra
    lagDie := lag.getD x.lagDie, lagRun := lagRun, calmRun := calmRun
    lagging := decide (lagRun = 20) || (x.lagging && decide (calmRun < 20)), conflict := false }

/-- The grants of an epoch from its credits (Table 16.3, R520 to R525). [log 101 DEDUCED] -/
def epochGrants (r : EpochReading) (credits : Nat) (s : State) : State :=
  let loop := (r.loop * 120 + 99) / 100
  let one := (r.platform * 105 + 99) / 100
  let paced := flaskNums.foldl (fun k f => if (s.flask f).state = .active ∧ (s.flask f).mode = .paced then
    k + (s.flaskPower f).reserved * 256 / max 1 s.truss.stretch else k) 0
  let loopGrant := if s.pa.mode = .robot then loop else min loop (credits - one - paced)
  let free := flaskNums.filter fun f => (s.flask f).state = .active && (s.flask f).mode = .free
  let (left, g) := grantJobs s s.freeJobs (credits - one - paced - loopGrant) []
  let (left, g) := grantFloors s free left g
  let short := free.filter fun f => decide (Tab.get 0 g f < (s.flaskPower f).floor)
  let s := overList (epochFlask r g) flaskNums s
  let s := overList noteConflict short s
  let dry := free.filter fun f => s.freeJobs.any (fun j => decide ((s.job j).flask = f)) && decide ((s.flaskPower f).grant = 0)
  let s := overList (fun n s => s.setDiePower n { s.diePower n with
    granted := r.need.getD n 0 * 256 / max 1 s.truss.stretch
      + s.freeJobs.foldl (fun k j => k + (s.job j).image.energy.getD n 0) 0 }) dieNums s
  { s with pa := { s.pa with
    platformCr := one, loopCr := loopGrant, leftCr := left, meteredFlasks := dry, conflict := !short.isEmpty } }

/-! ### The stretch request (R530, R532) -/

/-- A new request is told to the other members and the factor worked out again (R487). -/
def requestStretch (v : Nat) (s : State) : State :=
  let s := { s with pa := { s.pa with stretchReq := v, lowRun := 0, lowMax := 256 } }
  restretch s.now (if s.joined = [] then s else sendTruss 4 [v, s.now] s)

/-- The computed figure of the epoch: a rise acts at once, a lower figure only counts towards a fall. -/
def epochStretch (credits : Nat) (r : EpochReading) (s : State) : State :=
  let loop := (r.loop * 120 + 99) / 100
  let one := (r.platform * 105 + 99) / 100
  let own := dieNums.foldl (fun k n => max k (s.diePower n).stretchReq) 256
  let v := max own (stretchOf s.reservations (credits - one - loop))
  let p := s.pa
  if p.stretchReq < v then requestStretch v s
  else if v < p.stretchReq then
    { s with pa := { p with lowRun := min 2000 (p.lowRun + 1), lowMax := max p.lowMax v } }
  else { s with pa := { p with lowRun := 0, lowMax := 256 } }

/-! ### Energy (R540, R541) -/

/-- The whole part of a number, 0 where it is negative or not finite. -/
def Num.whole : Num → Nat
  | .fin false m e => if 0 ≤ e then m * 2 ^ e.toNat else m / 2 ^ (-e).toNat
  | _ => 0

/-- An FP32 field of the active coefficient record. -/
def State.coeffAt (s : State) (o : Nat) : Nat := leNat ((s.activeCoeff.drop o).take 4)

def f32OfNat (n : Nat) : Nat := toF32 (Num.ofInt n)

/-- The input energy of one activity in picojoules (R540). [log 103 DEDUCED] -/
def State.activityPj (s : State) (a : Activity) : Nat :=
  let e := fmul (f32OfNat a.count) (s.coeffAt (8 + 4 * a.event))
  let e := match a.die with
    | none => e
    | some n => let v := fdiv (f32OfNat (s.diePower n).vcore) (f32OfNat 720); fmul e (fmul v v)
  Config.inputEnergy (f32 e).whole

/-- The input energy of a die's leakage in an epoch, in picojoules: LEAK at its temperature point, linear in voltage.
[log 103 DEDUCED] -/
def State.leakPj (s : State) (n : Nat) : Nat :=
  let d := s.diePower n
  if !(s.die n).inService then 0
  else
    let i := min 15 (((d.hottest + 40 + 9) / 10).toNat)
    let dv := d.vcore - 600
    let j := min 7 (dv / 30)
    let leak := fun (j : Nat) => s.coeffAt (136 + 4 * ((n * 16 + i) * 8 + j))
    let mw := if j = 7 then leak 7 else
      fadd (leak j) (fmul (fsub (leak (j + 1)) (leak j)) (fdiv (f32OfNat (dv - 30 * j)) (f32OfNat 30)))
    Config.inputEnergy (f32 (fmul mw (f32OfNat 50000))).whole

/-- Adds energy to a flask, to one of its contexts, and to its ballast. [log 103 DEDUCED] -/
def addEnergy (f : Nat) (ctx : Option Nat) (ballast : Bool) (pj : Nat) (s : State) : State :=
  let x := s.flaskPower f
  let s := s.setFlaskPower f { x with energy := x.energy + pj, ballast := if ballast then x.ballast + pj else x.ballast }
  match ctx with
  | none => s
  | some c => { s with pa := { s.pa with ctxEnergy := Tab.set 0 s.pa.ctxEnergy c (Tab.get 0 s.pa.ctxEnergy c + pj) } }

/-- A die's leakage goes to the flasks by the cores they hold on it. [log 103 DEDUCED] -/
def leakShares (n : Nat) (s : State) : State :=
  let pj := s.leakPj n
  let total := max 1 ((s.die n).order.length + (s.die n).spares.length)
  overList (fun f s =>
    let held := ((s.flask f).committed.cores.filter fun c => decide (c.1 = n)).length
    if held = 0 then s else addEnergy f none false (pj * held / total) s) flaskNums s

/-- The sum of the energy attributed to flasks. -/
def State.flaskEnergy (s : State) : Nat := flaskNums.foldl (fun k f => k + (s.flaskPower f).energy) 0

/-- Prices the epoch's activity and attributes it; what is left of the measured energy goes to the platform. At the end of
each second MODEL_ERR takes that second's deviation. -/
def epochEnergy (r : EpochReading) (s : State) : State :=
  let before := s.flaskEnergy
  let total := r.activity.foldl (fun k a => k + s.activityPj a) 0 + dieNums.foldl (fun k n => k + s.leakPj n) 0
  let s := r.activity.foldl (fun s a => match a.flask with
    | none => s
    | some f => addEnergy f a.ctx a.ballast (s.activityPj a) s) s
  let s := overList leakShares dieNums s
  let measured := r.input * 1000000
  let p := s.pa
  let model := p.modelSum + total
  let meas := p.measuredSum + measured
  let rest := p.platformEnergy + (measured - (s.flaskEnergy - before))
  if p.windowEpochs + 1 < 20000 then
    { s with pa := { p with platformEnergy := rest, modelSum := model, measuredSum := meas, windowEpochs := p.windowEpochs + 1 } }
  else
    let err : Int := if meas = 0 then 0 else ((model : Int) - meas) * 1000 / meas
    let drift := decide (100000000000000 < meas ∧ 100 < err.natAbs)
    { s with pa := { p with
      platformEnergy := rest, modelSum := 0, measuredSum := 0, windowEpochs := 0
      modelErr := max (-32768) (min 32767 err), driftRun := if drift then min 10 (p.driftRun + 1) else 0 } }

/-- The coefficient banks exchange (R542). -/
def coeffSwitch (s : State) : State :=
  { s with pa := { s.pa with activeBank := 1 - s.pa.activeBank, switchAt := none } }

/-! ### The epoch -/

/-- The next epoch start: a multiple of 50,000 ns not yet taken (R516). [log 100 DESIGN CHOICE] -/
def State.epochAt (s : State) : Nat :=
  if s.now % 50000 = 0 ∧ s.tb.received ≠ s.now then s.now else (s.now / 50000 + 1) * 50000

/-- Energy beyond the budget is owed to the following epochs (R516). [log 101 DEDUCED] -/
def State.debtAfter (s : State) (r : EpochReading) : Nat :=
  if s.pa.epochs = 0 then 0 else s.pa.debt + r.input - creditsOf s.pa.budgetW

/-- What happens at an epoch start, from the reading of the epoch that has passed. [log 100 DESIGN CHOICE] -/
def epochStart (r : EpochReading) (s : State) : State :=
  let s := epochEnergy r (noteEpoch (advance s.epochAt s))
  let s := if s.pa.switchAt.any fun t => decide (t ≤ s.now) then coeffSwitch s else s
  let recent := (r.input :: s.pa.recent).take 200
  let s := { s with
    pa := { s.pa with
      epochs := s.pa.epochs + 1, recent := recent, drawW := min 0xFFFF (recent.foldl (· + ·) 0 / 10000)
      platformW := min 0xFFFF (r.platform / 50), debt := s.debtAfter r, modeW := s.modeFigure }
    safe := { s.safe with paEpochs := min 20 (s.safe.paEpochs + 1) } }
  let s := refreshSupply (readCoolant r (overList (readGroup r) (List.range 11) s))
  let figures := s.budgetFigures
  let w := figures.foldl min 0xFFFF
  let s := { s with pa := { s.pa with budgetW := w, limiter := (figures.findIdx? (· = w)).getD 0 } }
  let credits := creditsOf w - s.pa.debt
  let s := epochStretch credits r (overList (epochDie r) dieNums s)
  let s := epochGrants r credits s
  if s.svc.traceOn then { s with svc := { s.svc with trace := s.svc.trace ++ [(5, w, s.now)] } } else s

end Sys2Proof.Machine
end

