-- ==== Sys2Proof/Machine/PowerCmds.lean ====
section
/-!
DEFINITION. The meanings of the power commands and events of area 0x08 (spec 16_power_budget_thermal.md), and of mode
changes (01_architecture.md, R32 to R38).
-/

namespace Sys2Proof.Machine

/-! ### Mode changes -/

/-- A die comes back as by RESET_DIE (R37, R102). [log 43 DEDUCED] -/
def reviveDie (n : Nat) (s : State) : State :=
  let d := s.die n
  if !d.parked then s
  else (memStackCleared n s).setDie n { d with
    parked := false, resetting := true, resetTicket := none, rails := .softStart, attempts := 0, bist1 := false
    failed := [], short := false, active := 0, reserve := 0, early := 0, order := [], spares := [] }

/-- Parked dies that a mode powers again: all of them in Drive and Depot; out of Park those that Limp or Robot wants, the
dies with most cores of loaded flasks first. -/
def State.revived (s : State) (m : Mode) : List Nat :=
  let parked := dieNums.filter fun n => (s.die n).parked
  let cores := fun (n : Nat) => flaskNums.foldl (fun k f => if s.isLoaded f then
    k + ((s.flask f).committed.cores.filter fun c => decide (c.1 = n)).length else k) 0
  match m with
  | .drive | .depot => parked
  | .robot => if s.pa.mode = .park then
      (sortBy parked fun a b => decide (cores b < cores a ∨ (cores a = cores b ∧ a ≤ b))).take 2 else []
  | .limp => if s.pa.mode = .park then parked.filter fun n => decide (cores n ≠ 0) else []
  | _ => []

/-- A mode change is committed (R32): dies are parked or come back, C0 flasks stop in Limp, ARMED clears in Depot and
Park (R554), the outputs go invalid where the mode does not allow them (R553). [log 43 DEDUCED] -/
def commitMode (m : Mode) (ticket : Option Ticket) (s : State) : State :=
  let back := s.revived m
  let s := { s with pa := { s.pa with mode := m, change := none } }
  let s := overList reviveDie back s
  let s := if m = .limp then overList (fun f s => let x := s.flask f
    if x.cls = 0 ∧ x.state = .active then s.setFlask f { x with stopPending := true } else s) flaskNums s else s
  let s := parkFor m s
  let s := if m = .depot ∨ m = .park then { s with
    safe := { s.safe with armed := false, outValid := false }, lines := { s.lines with safeCmd := false } } else s
  finishOpt ticket 0 8 0 [] s

/-- The flasks at whose parting lines a change commits: those that the mode stops, and those with a job on a die that it
parks. [log 43 DEDUCED] -/
def State.affected (s : State) (m : Mode) : List Nat :=
  flaskNums.filter fun f => (s.flask f).state = .active &&
    (!classRuns m (s.flask f).cls || dieNums.any fun n => (s.die n).inService && !s.modeKeeps m n
      && (s.jobsOf f).any fun j => (s.job j).cores.any fun c => decide (c.1 = n))

/-- A C1 to C3 flask is loaded. -/
def State.safetyLoaded (s : State) : Bool := flaskNums.any fun f => s.isLoaded f && decide (1 ≤ (s.flask f).cls)

/-- Cores that loaded C1 to C3 flasks hold on dies that are lost, against the reserve cores left (R33). -/
def State.driveCarries (s : State) : Bool :=
  let lost := flaskNums.foldl (fun k f => if s.isLoaded f ∧ 1 ≤ (s.flask f).cls then
    k + ((s.flask f).committed.cores.filter fun c => (s.die c.1).out.isSome).length else k) 0
  decide (lost ≤ (dieNums.filter fun n => (s.die n).out.isNone).foldl (fun k n => k + (s.freeReserves n).length) 0)

/-- MODE_CLASS (R33, R37, R38). -/
def State.modeRefused (s : State) (m : Mode) : Bool :=
  match m with
  | .depot => s.safetyLoaded
  | .drive => !s.driveCarries
  | .park => s.safetyLoaded || flaskNums.any fun f =>
      (s.flask f).state = .active || (s.flask f).state = .stopped || (s.flask f).state = .resetting
  | .robot => decide (2 < s.robotFirst.length)
  | _ => false

/-- [log 43 DEDUCED] -/
def execSetMode (p : Packet) (s : State) : Host.Outcome State Fault Refusal :=
  commandThen settleMoves 0x0801 1 true p s fun s t =>
    match Mode.ofCode (p.u8 12) with
    | none => reserved
    | some m =>
      if s.safe.safeState then safeRefusal
      else if s.pa.change.isSome then .reject 8 2
      else if !s.sup.full ∧ (m = .drive ∨ m = .limp ∨ m = .robot) then .reject 8 0x42
      else if (m = .drive ∨ m = .depot) ∧ s.sup.ibcA ≠ s.sup.ibcB then .reject 8 0x43
      else if (m = .drive ∨ m = .depot) ∧ s.sup.vinLowExt then .reject 8 0x45
      else if s.modeRefused m then .reject 8 3
      else if creditsOf (modeBudget s.fuses.grade m) < s.reservations + s.pa.platformCr then .reject 8 4
      else
        let members := s.affected m
        if members = [] then ok (commitMode m none s)
        else .later { s with pa := { s.pa with change := some { mode := m, members := members, ticket := some t } } }

/-- A member of a mode change reaches its parting line: a flask that the mode does not run stops; the last member commits
the change. [log 43 DEDUCED] -/
def modeParting (f : Nat) (s : State) : State :=
  match s.pa.change with
  | none => s
  | some c =>
    if !c.members.contains f then s
    else
      let x := s.flask f
      let s := if !classRuns c.mode x.cls then s.setFlask f { x with stopPending := true } else s
      let rest := c.members.filter (· ≠ f)
      if rest = [] then commitMode c.mode c.ticket s
      else { s with pa := { s.pa with change := some { c with members := rest } } }

/-! ### Commands -/

def execQueryPower (p : Packet) (s : State) : Host.Outcome State Fault Refusal :=
  command 0x0802 0 false p s fun s _ => ok s ([0, 1, 2, 3, 4, 5].flatMap fun k => leBytes 4 (s.powerStatus k))

def execSetPowerPolicy (p : Packet) (s : State) : Host.Outcome State Fault Refusal :=
  command 0x0803 4 true p s fun s _ =>
    let w := p.u16 12
    let pace := p.u16 14
    if w ≠ 0 ∧ (w < 40 ∨ creditsOf w < s.reservations + s.pa.platformCr) then .reject 8 5
    else if pace ≠ 0 ∧ pace < 85 ∧ s.pacedActive then .reject 8 5
    else ok { s with pa := { s.pa with swCeilW := if w = 0 then 0xFFFF else w, paceCeil := pace } }

/-- What the present grants leave a flask: its grant and the credits left over. -/
def State.reachable (s : State) (f : Nat) : Nat := (s.flaskPower f).grant + s.pa.leftCr

def execSetFlaskPower (p : Packet) (s : State) : Host.Outcome State Fault Refusal :=
  command 0x0804 6 true p s fun s _ =>
    let f := p.u8 12
    let lo := p.u16 14
    let hi := p.u16 16
    if 15 < f ∨ p.u8 13 ≠ 0 then reserved
    else if hi < lo ∨ (s.flask f).mode = .paced ∧ (s.flask f).state ≠ .empty then .reject 8 5
    else
      let s1 := s.setFlaskPower f { s.flaskPower f with floor := lo, ceil := hi }
      if s.reachable f < lo then .done s1 1 8 1 [] else ok s1

/-- [log 103 DEDUCED] -/
def execQueryEnergy (p : Packet) (s : State) : Host.Outcome State Fault Refusal :=
  command 0x0805 4 false p s fun s t =>
    let f := p.u8 12
    let c := p.u16 14
    if 15 < f ∨ (c ≠ noCtx ∧ 1024 ≤ c) then reserved
    else if s.sender p ≠ 0 ∧ (!s.isTenant t f ∨ (c ≠ noCtx ∧ !s.isTenant { t with ctx := c } f)) then notPermitted
    else
      let x := s.flaskPower f
      let e := if c = noCtx then x.energy else Tab.get 0 s.pa.ctxEnergy c
      ok s (leBytes 8 (e / 1000000) ++ leBytes 4 (min counterMax (x.ballast / 1000000000)) ++ leBytes 2 x.grant ++ leBytes 2 x.used)

/-- A coefficient record is whole: its check, its reserved fields, values finite and not negative (R542). -/
def coeffValid (bs : List Byte) : Bool :=
  let num := fun (o : Nat) => leNat ((bs.drop o).take 4)
  let good := fun (o : Nat) => (f32 (num o)).isFin && decide (num o < 0x80000000)
  bs.length = 2304 && decide (num 2300 = crc32c (bs.take 2300)) && decide (num 4 = 0)
    && (List.range 544).all (fun k => good (8 + 4 * k)) && (List.range 10).all (fun k => num (96 + 4 * k) = 0)
    && ((bs.drop 2184).take 116).all (· = 0)

def execLoadEnergyCoeff (p : Packet) (s : State) : Host.Outcome State Fault Refusal :=
  command 0x0806 16 true p s fun s t =>
    let inModule := p.u8 13 = 1
    if 1 < p.u8 13 ∨ p.u32 24 ≠ 2304 then reserved
    else if s.pa.switchAt.isSome then .reject 8 7
    else if inModule ∧ (s.accessFault t.ctx (p.u64 16) 2304 false).isSome then .reject 3 6
    else
      let bs := s.getBytes t.ctx inModule (p.u64 16) 2304
      if !coeffValid bs then .reject 8 6
      else
        let at_ := (s.now + 1000000 + 49999) / 50000 * 50000
        let pa := if s.pa.activeBank = 0 then { s.pa with coeffB := bs } else { s.pa with coeffA := bs }
        ok { s with pa := { pa with switchAt := some at_ } } (leBytes 8 at_)

/-- The voltage table of a die (Table 16.4). -/
def voltageTable (n : Nat) : List Byte :=
  leBytes 4 1 ++ leBytes 4 n ++ leBytes 8 (Config.dieId n).toNat ++ List.replicate 48 0
    ++ (List.range 16).flatMap fun i => (List.range 32).flatMap fun k => leBytes 2 (Config.voltageEntry n i k).toNat

def execReadVoltageTable (p : Packet) (s : State) : Host.Outcome State Fault Refusal :=
  command 0x0807 12 true p s fun s _ =>
    let n := p.u8 12
    if 3 < n then reserved else ok (s.hostWrite (p.u64 16) (voltageTable n)) (leBytes 4 1088)

/-! ### Events -/

/-- The Power Arbiter runs: the hub has started and the timebase counts. -/
def State.arbiterRuns (s : State) : Bool := s.lines.trigLive && (s.lines.run = .running || s.lines.run = .startUp)

/-- [log 100 DESIGN CHOICE] -/
def execEpochStart (r : EpochReading) (s : State) : Host.Outcome State Fault Refusal :=
  if s.arbiterRuns then nextMoves (epochStart r (traceNote 5 0 s.now s)) else next s

/-- A group has stayed at its limit for 1 ms, which is 20 epochs (R538, Table 16.7). -/
def execThermalLimit (group : Nat) (s : State) : Host.Outcome State Fault Refusal :=
  if Tab.get 0 s.pa.limitRun group < 20 then next s
  else if group < 8 then nextMoves (dieLost (group % 4) .thermal s)
  else if group < 10 then next (safeCause 9 0x2E none none false s)
  else if group = 10 then next { s with pa := { s.pa with atLimit := s.pa.atLimit ||| 0x400 } }
  else next s

def execStretchRequestFall (s : State) : Host.Outcome State Fault Refusal :=
  if s.pa.lowRun < 2000 then next s else next (requestStretch s.pa.lowMax s)

/-- The model has deviated by more than 10 % for 10 s: POWER, MODEL_DRIFT (R541). -/
def execModelDrift (s : State) : Host.Outcome State Fault Refusal :=
  if s.pa.driftRun < 10 then next s else next (attn 7 8 8 { s with pa := { s.pa with driftRun := 0 } })

def execCoeffBankSwitch (s : State) : Host.Outcome State Fault Refusal :=
  match s.pa.switchAt with
  | none => next s
  | some t => next (coeffSwitch (advance t s))

/-- A W1C write of WARN (R543, Table 16.13). -/
def clearWarn (value : Word) (s : State) : State :=
  { s with pa := { s.pa with warn := s.pa.warn &&& ~~~(value.setWidth 11) } }

def execWarnClear (value : Word) (s : State) : Host.Outcome State Fault Refusal :=
  if s.pfServed then next (clearWarn value s) else next s

end Sys2Proof.Machine
end

