-- ==== Sys2Proof/Machine/SafetyCmds.lean ====
section
/-!
DEFINITION. The meanings of the commands of area 0x09 and of Keystone's own events: the safety outputs, result classes, error
policies, C3 layouts, audits, comparison and vote (spec 17_functional_safety.md).
-/

namespace Sys2Proof.Machine

/-! ### The safety outputs (R553, R554) -/

/-- Condition 1 of R553. -/
def State.outMode (s : State) : Bool :=
  (s.pa.mode = .drive || s.pa.mode = .limp || s.pa.mode = .robot) && !s.safe.safeState

/-- Both outputs are commanded valid, or invalid (R53). -/
def commandOut (v : Bool) (s : State) : State :=
  { s with safe := { s.safe with outValid := v }, lines := { s.lines with safeCmd := v } }

def execArmSafeOut (p : Packet) (s : State) : Host.Outcome State Fault Refusal :=
  command 0x0901 1 true p s fun s _ =>
    let v := p.u8 12
    if 1 < v then reserved
    else if s.safe.safeState then safeRefusal
    else if v = 0 then ok (commandOut false { s with safe := { s.safe with armed := false } })
    else if !s.outMode ∨ !s.sup.full then .reject 9 4
    else if s.safe.noticeChannels = [] then .reject 9 6
    else ok { s with safe := { s.safe with armed := true } }

/-- The lowest CRITICAL class that is not fresh: condition 6 of R553. -/
def State.staleCritical (s : State) : Option Nat := s.waitClass

/-- All six conditions of R553. [log 108 DEDUCED] -/
def State.outMayBeValid (s : State) : Bool :=
  s.outMode && s.safe.armed && s.selfTestOk && s.auditOk && timeIsGood s && s.staleCritical.isNone

/-- The outputs at a boundary of 50 µs spans: valid when all conditions hold; the loss of condition 5 or 6 while they are valid
is a cause of the safe state (R553). -/
def checkOutputs (s : State) : State :=
  if s.safe.outValid then
    if !timeIsGood s then safeCause 9 0x2B none none false s
    else match s.staleCritical with
      | some c => safeCause 9 0x21 none (some c) false s
      | none => s
  else if s.outMayBeValid then commandOut true s
  else s

/-! ### Result classes (R570 to R573) -/

def reactionOf : Nat → Reaction
  | 0 => .report | 1 => .count | _ => .safe

/-- The record that SET_RESULT_CLASS names. -/
def Packet.classCfg (p : Packet) : ClassCfg :=
  { ageLimit := p.u32 16, accept := BitVec.ofNat 5 (p.u8 20), reaction := reactionOf (p.u8 21), threshold := p.u8 22
    critical := bitAt (p.u8 23) 0, staleCheck := bitAt (p.u8 23) 1, windowMs := p.u32 24 }

/-- A change that loosens a class (R573). -/
def ClassCfg.loosens (a b : ClassCfg) : Bool :=
  (decide (a.ageLimit ≠ 0) && decide (b.ageLimit = 0 ∨ a.ageLimit < b.ageLimit))
  || decide (b.accept &&& ~~~a.accept ≠ 0) || decide (b.reaction.code < a.reaction.code)
  || decide (a.threshold < b.threshold) || decide (b.windowMs < a.windowMs)
  || (a.critical && !b.critical) || (a.staleCheck && !b.staleCheck)

/-- What the class's record is once its pending changes are in effect. -/
def RClass.coming (x : RClass) : ClassCfg := match x.next.getLast? with | some n => n.1 | none => x.cfg

/-- [log 108 DEDUCED] -/
def execSetResultClass (p : Packet) (s : State) : Host.Outcome State Fault Refusal :=
  command 0x0902 16 true p s fun s t =>
    let c := p.u8 12
    let x := s.rclass c
    let n := Packet.classCfg p
    if 3 < p.u8 23 then reserved
    else if 100000000 < n.ageLimit ∨ 31 < p.u8 20 ∨ 2 < p.u8 21 ∨ n.threshold = 0 ∨ n.windowMs = 0 ∨ 600000 < n.windowMs then
      .reject 9 2
    else if s.safe.outValid ∧ x.coming.loosens n then .reject 9 1
    else .later (s.setRclass c { x with next := x.next ++ [(n, t)] })

/-- The class changes waiting for the boundary take effect (R573). -/
def applyClasses (s : State) : State :=
  s.safe.classes.foldl (fun s (y : Nat × RClass) =>
    let x := s.rclass y.1
    x.next.foldl (fun s n => finishOk n.2 s) (s.setRclass y.1 { x with cfg := x.coming, next := [] })) s

def execQueryResultClass (p : Packet) (s : State) : Host.Outcome State Fault Refusal :=
  command 0x0903 1 false p s fun s _ =>
    ok s ([0, 1, 2, 3, 4, 5].flatMap fun k => leBytes 4 (s.classWord (p.u8 12) k))

/-- R571: the timebase passes the newest VALID result's epoch plus the limit; the stale episode is one failure.
[log 3 DESIGN CHOICE, 108 DEDUCED] -/
def execResultStale (cls : Nat) (s : State) : Host.Outcome State Fault Refusal :=
  let x := s.rclass cls
  match x.newest with
  | none => next s
  | some e =>
    if !x.cfg.staleCheck ∨ x.cfg.ageLimit = 0 ∨ x.stale then next s
    else
      let s := advance (e + x.cfg.ageLimit * 1000 + 1) s
      let flask := match s.ex.results.lookup cls with | some h => h.flask | none => 0
      next (classFailure cls 0x21 flask (s.setRclass cls { x with stale := true }))

/-! ### Notices, policies, times, logs -/

def execSetSafetyNotice (p : Packet) (s : State) : Host.Outcome State Fault Refusal :=
  command 0x0904 8 true p s fun s _ =>
    let v := p.u8 12
    if 31 < v ∨ 2 ^ 29 ≤ p.u32 16 then .reject 9 6
    else ok { s with safe := { s.safe with
      noticeChannels := bitsOf v 1 0 :: (if bitAt v 4 then [bitsOf v 3 2] else []), noticeId := p.u32 16 } }

/-- The bounds of Table 17.5: least and greatest THRESHOLD, least and greatest WINDOW in ms. -/
def policyBounds : Nat → Nat × Nat × Nat × Nat
  | 0 => (1, 16, 1000, 600000)
  | 1 => (1, 64, 10, 60000)
  | 2 => (1, 64, 1000, 600000)
  | 3 => (1, 16, 1000, 600000)
  | _ => (2, 64, 10, 60000)

def execSetSafetyErrPolicy (p : Packet) (s : State) : Host.Outcome State Fault Refusal :=
  command 0x0905 8 true p s fun s _ =>
    let k := p.u8 12
    let th := p.u8 13
    let w := p.u32 16
    let b := policyBounds k
    let x := s.errSource k
    if 4 < k ∨ th < b.1 ∨ b.2.1 < th ∨ w < b.2.2.1 ∨ b.2.2.2 < w then .reject 9 8
    else if s.safe.outValid ∧ (x.threshold < th ∨ w < x.windowMs) then .reject 9 1
    else ok { s with safe := { s.safe with sources := s.safe.sources.set k { x with threshold := th, windowMs := w } } }

def execQuerySafety (p : Packet) (s : State) : Host.Outcome State Fault Refusal :=
  command 0x0906 0 false p s fun s _ =>
    ok s (([0, 1, 2].flatMap fun k => leBytes 4 (s.safetyStatus k)) ++ leBytes 4 (s.safeCauseWord 0)
      ++ leBytes 8 s.safe.cause.time)

/-- [log 7 DEDUCED] -/
def execEnterSafeState (p : Packet) (s : State) : Host.Outcome State Fault Refusal :=
  command 0x0907 1 true p s fun s _ =>
    if p.u8 12 ≠ 0x5A then .reject 9 0 else ok (safeCause 9 0x2D none none false s)

def execSetSafetyTimes (p : Packet) (s : State) : Host.Outcome State Fault Refusal :=
  command 0x090A 6 true p s fun s _ =>
    let a := p.u16 12
    let b := p.u16 14
    let c := p.u16 16
    let f := s.safe
    if a = 0 ∨ b = 0 ∨ 600 < b ∨ c < 10 ∨ 1000 < c then .reject 9 8
    else if f.outValid ∧ (f.timeBoundUs < a ∨ f.eoiS < b ∨ f.diagMs < c) then .reject 9 1
    else ok { s with safe := { f with timeBoundUs := a, eoiS := b, diagMs := c } }

/-- The safety log's bytes, oldest entry first (R582). [log 110 DESIGN CHOICE] -/
def safetyBytes (l : List SafetyEntry) : List Byte :=
  l.flatMap fun e => Config.safetyEntry e.time e.area e.detail e.flask e.cls e.state

/-- [log 110 DESIGN CHOICE] -/
def execReadSafetyLog (p : Packet) (s : State) : Host.Outcome State Fault Refusal :=
  command 0x090B 12 false p s fun s _ =>
    ok (s.hostWrite (p.u64 16) (safetyBytes s.safe.log)) (leBytes 1 s.safe.log.length)

/-- R551: the notice goes out again, 100 ms after the last. [log 109 DEDUCED] -/
def execSafeStateNotice (s : State) : Host.Outcome State Fault Refusal :=
  if !s.safe.safeState ∨ s.safe.noticeChannels = [] then next s
  else
    let n := s.safe.noticeRepeat
    next (sendNotice (advance (if n < 255 then s.safe.cause.time + 100000000 * n else s.now + 100000000) s))

/-! ### Layout and revocation (R561, R577) -/

/-- [log 111 DEDUCED] -/
def execSetC3Layout (p : Packet) (s : State) : Host.Outcome State Fault Refusal :=
  command 0x0908 4 true p s fun s _ =>
    let f := p.u8 12
    let ds := [p.u8 13, p.u8 14, p.u8 15]
    let x := s.flask f
    if 15 < f ∨ ds.any (3 < ·) then reserved
    else if (x.state ≠ .created ∧ x.state ≠ .loaded) ∨ x.cls ≠ 3 ∨ ¬ ds.Nodup
        ∨ ds.any (fun n => !(s.die n).inService || (s.die n).short) then .reject 9 3
    else ok (s.setC3 f { s.c3 f with
      dieA := p.u8 13, dieB := p.u8 14, dieC := p.u8 15, mode := .slack, slack := 0, slackSites := [] })

/-- [log 109 DEDUCED] -/
def execRevokeFlask (p : Packet) (s : State) : Host.Outcome State Fault Refusal :=
  command 0x0909 1 true p s fun s t =>
    let f := p.u8 12
    let x := s.flask f
    if 15 < f then reserved
    else if x.state ≠ .active ∧ x.state ≠ .loaded ∧ x.state ≠ .stopped then .reject 2 4
    else
      let s := overList (fun j s => if (s.job j).live then s.setJob j { s.job j with cause := 6 } else s) (s.jobsOf f) s
      .later (flaskReset f (some t) s)

/-! ### Audits (R559, R560) -/

/-- What Keystone's copy holds of a flask. [log 107 DEDUCED] -/
def State.ownerCopy (s : State) (f : Nat) : Nat × Holdings := Tab.get (0, {}) s.safe.copy f

/-- R559. `tags` is what the hardware reads back: flask, class and holdings. [log 107 DEDUCED] -/
def execPartitionAudit (tags : List (Nat × Nat × Holdings)) (s : State) : Host.Outcome State Fault Refusal :=
  let bad := flaskNums.filter fun f => decide ((tags.lookup f).getD (0, {}) ≠ s.ownerCopy f)
  let high := bad.filter fun f => decide (1 ≤ max (s.flask f).cls (s.ownerCopy f).1)
  let low := bad.filter fun f => !high.contains f
  if s.lines.run ≠ .running then next s
  else
    let s := { s with safe := { s.safe with partitionOk := high.isEmpty } }
    let s := overList (fun f s => lastingFault 9 0x27 f 0 (flaskReset f none s)) low s
    match high with
    | [] => nextSweep s
    | f :: _ => nextSweep (safeCause 9 0x27 (some f) none false (overList revoke high s))

/-- R560. `read` holds the CRC-64 that the memory management units compute of each paced flask's locked entries.
[log 107 DEDUCED] -/
def execTranslationAudit (read : List (Nat × BitVec 64)) (s : State) : Host.Outcome State Fault Refusal :=
  let bad := s.safe.lockedCrc.filter fun x => decide (1 ≤ (s.flask x.1).cls) && match read.lookup x.1 with
    | some v => decide (v ≠ x.2)
    | none => false
  if s.lines.run ≠ .running then next s
  else
    let s := { s with safe := { s.safe with translationOk := bad.isEmpty } }
    match bad with
    | [] => next s
    | (f, _) :: _ => nextSweep (safeCause 9 0x27 (some f) none false (overList revoke (bad.map (·.1)) s))

/-! ### Comparison, re-run and vote (R563 to R565, R568, R569) -/

/-- Where a step's slack window ends, in spans of the period: the start span of its first consumer, else the period's end
(R565). [log 106 DEDUCED] -/
def Job.windowEnd (x : Job) (i : Nat) : Nat :=
  match x.image.steps[i]? with
  | none => x.image.period
  | some st => x.image.steps.foldl (fun k y => if y.ins.any st.outs.contains then min k y.startSpan else k) x.image.period

/-- Free slack cores take the re-runs that wait, in order of their slack windows' ends (R564). [log 106 DEDUCED] -/
def startReruns (f : Nat) : Nat → State → State
  | 0, s => s
  | n + 1, s =>
    let x := s.c3 f
    let waiting := sortBy (x.reruns.filter fun r => !r.running) fun a b =>
      decide ((s.job a.job).windowEnd a.step ≤ (s.job b.job).windowEnd b.step)
    match waiting with
    | [] => s
    | w :: _ =>
      if x.slack ≤ (x.reruns.filter (·.running)).length then s
      else startReruns f n (s.setC3 f { x with reruns := x.reruns.map fun r =>
        if r.job = w.job ∧ r.step = w.step then { r with running := true } else r })

/-- A step of both halves is released to its consumers (R563). [log 106 DEDUCED] -/
def releaseStep (f j i : Nat) (s : State) : State :=
  let x := s.c3 f
  let s := s.setC3 f { x with held := x.held.filter fun h => !decide (h = (j, i))
                              reruns := x.reruns.filter fun r => !decide (r.job = j ∧ r.step = i) }
  startReruns f 16 s

/-- The step's outputs are missing in both halves and the module enters the safe state (R564, R26). [log 106 DEDUCED] -/
def voteFailed (f j i : Nat) (s : State) : State :=
  let s := releaseStep f j i s
  let s := s.setJob j { s.job j with missing := ((s.job j).missing ++ [i]).dedup }
  let x := s.c3 f
  safeCause 9 0x24 (some f) none false (s.setC3 f { x with voteFails := satInc x.voteFails })

/-- An injected inverted signature of half 1 (Table 18.7, kind 0) acts on the step. -/
def takeInverted (f : Nat) (d : Duplex) (s : State) : Duplex × State :=
  if s.svc.injected.any fun i => decide (i.1 = 0 ∧ i.2.1 = f) then
    ({ d with sig1 := d.sig1.map (~~~·) },
     { s with svc := { s.svc with injected := s.svc.injected.filter fun i => !decide (i.1 = 0 ∧ i.2.1 = f) } })
  else (d, s)

/-- The checkers compare a step that both halves have run (R563, R564). [log 106 DEDUCED] -/
def execDuplexCheck (flask job step : Nat) (d : Duplex) (s : State) : Host.Outcome State Fault Refusal :=
  let x := s.c3 flask
  if !x.held.contains (job, step) ∨ x.reruns.any (fun r => decide (r.job = job ∧ r.step = step)) then next s
  else if x.mode ≠ .slack ∧ x.mode ≠ .noSlack then next (releaseStep flask job step s)
  else
    let (d, s) := takeInverted flask d s
    if d.sig0.isSome ∧ d.sig0 = d.sig1 then next (releaseStep flask job step s)
    else if x.mode = .noSlack ∨ !d.inputsOk then nextSweep (voteFailed flask job step s)
    else
      let x := s.c3 flask
      next (startReruns flask 16 (s.setC3 flask { x with
        reruns := x.reruns ++ [{ job := job, step := step, sig0 := d.sig0, sig1 := d.sig1 }] }))

/-- The core site of a step in a half: the half's cores in the image's core order. -/
def State.halfSite (s : State) (j die : Nat) (st : Step) : Option (Nat × Nat) :=
  ((s.job j).cores.filter fun c => decide (c.1 = die))[st.core]?

/-- The mismatch counts against the losing half's core site (R564, source 0). [log 111 DEDUCED] -/
def coreMismatch (site : Option (Nat × Nat)) (s : State) : State :=
  match site with
  | none => s
  | some (n, p) =>
    let (s, lasting) := errEvent 0 (144 * n + p) s
    if lasting then retireSite n p (lastingFault 9 0 n p s) else s

/-- A re-run on a slack core completes and votes (R564). `sig` is its output signature. -/
def execSlackRerunComplete (flask job step : Nat) (sig : BitVec 64) (s : State) : Host.Outcome State Fault Refusal :=
  let x := s.c3 flask
  match x.reruns.find? fun r => r.running && decide (r.job = job ∧ r.step = step) with
  | none => next s
  | some r =>
    if r.sig0 ≠ some sig ∧ r.sig1 ≠ some sig then nextSweep (voteFailed flask job step s)
    else
      let loser := if r.sig0 = some sig then x.dieB else x.dieA
      let site := match (s.job job).image.steps[step]? with | some st => s.halfSite job loser st | none => none
      let s := s.setC3 flask { x with votes := satInc x.votes }
      let s := s.setJob job { s.job job with voted := ((s.job job).voted ++ [step]).dedup }
      nextSweep (coreMismatch site (releaseStep flask job step s))

/-- A step's slack window ends before its re-run has voted (R564). -/
def execSlackWindowEnd (flask job step : Nat) (s : State) : Host.Outcome State Fault Refusal :=
  if (s.c3 flask).reruns.any fun r => decide (r.job = job ∧ r.step = step) then nextSweep (voteFailed flask job step s)
  else next s

/-- R568: checker 0 is die A's, 1 die B's, 2 Keystone's own comparison; `found` tells whether the altered signature was found,
re-run and voted. [log 111 DEDUCED] -/
def execCheckerTest (flask checker : Nat) (found : Bool) (s : State) : Host.Outcome State Fault Refusal :=
  let x := s.c3 flask
  if (s.flask flask).state ≠ .active ∨ x.mode ≠ .slack ∨ x.reruns ≠ [] ∨ 2 < checker ∨ s.safe.safeState then next s
  else
    let x := { x with tests := satInc x.tests, testFails := if found then x.testFails else satInc x.testFails
                      checkerA := if checker = 0 then found else x.checkerA
                      checkerB := if checker = 1 then found else x.checkerB }
    let s := s.setC3 flask x
    if found then next s
    else if checker = 2 then nextSweep (safeCause 9 0x26 (some flask) none false s)
    else nextSweep (attn 5 9 0x26 (lastingFault 9 0x26 flask (if checker = 0 then x.dieA else x.dieB) s))

/-- R569: EOI_S has passed since the loss of a half and the flask is still SIMPLEX. -/
def execEoiExpiry (flask : Nat) (s : State) : Host.Outcome State Fault Refusal :=
  match (s.c3 flask).simplexSince with
  | none => next s
  | some t =>
    if (s.c3 flask).mode ≠ .simplex then next s
    else nextSweep (safeCause 9 0x25 (some flask) none false (advance (t + s.safe.eoiS * 1000000000) s))

/-- R575: the hub oscillator is more than 1 % from Keystone's, which asks for a power cycle, or the timebase oscillator more
than 200 ppm. [log 111 DEDUCED] -/
def execClockFault (hub : Bool) (s : State) : Host.Outcome State Fault Refusal :=
  if s.lines.run ≠ .running then next s else nextSweep (safeCause 9 0x28 none none hub s)

/-- One event leaks out of a counter after WINDOW (R363): kind 0 the memory sources, 1 the sources of Table 17.5, 2 a result
class. -/
def execErrorCounterLeak (kind source unit : Nat) (s : State) : Host.Outcome State Fault Refusal :=
  let less := fun (t : Tab Nat) => Tab.set 0 t unit (Tab.get 0 t unit - 1)
  if kind = 0 ∧ source ≤ 4 then
    let x := s.memSource source
    next (s.setMemSource source { x with leaky := less x.leaky })
  else if kind = 1 ∧ source ≤ 4 then
    let x := s.errSource source
    next { s with safe := { s.safe with sources := s.safe.sources.set source { x with leaky := less x.leaky } } }
  else if kind = 2 then
    let x := s.rclass source
    next (s.setRclass source { x with leaky := x.leaky - 1 })
  else next s

end Sys2Proof.Machine
end

