-- ==== Sys2Proof/Machine/ServiceCmds.lean ====
section
/-!
DEFINITION. The meanings of the commands of area 0x0B: firmware banks, reload, retirement, logs, the diagnostic port's settings,
the development grade (spec 18_service_and_update.md).
-/

namespace Sys2Proof.Machine

/-! ### Firmware banks (R585 to R591) -/

def Component.bank (x : Component) (k : Nat) : Bank := if k = 0 then x.bankA else x.bankB
def Component.setBank (x : Component) (k : Nat) (b : Bank) : Component :=
  if k = 0 then { x with bankA := b } else { x with bankB := b }
/-- The inactive bank. -/
def Component.idle (x : Component) : Bank := x.bank (1 - x.active)
/-- The bank named active. -/
def Component.live (x : Component) : Bank := x.bank x.active

/-- The ten components of Table 18.1. -/
def compNums : List Nat := List.range 10

/-- WRITE_IMAGE: `image` is what the module finds at the address. [log 113 DEDUCED] -/
def execWriteImage (p : Packet) (image : FwImage) (s : State) : Host.Outcome State Fault Refusal :=
  command 0x0B01 16 true p s fun s t =>
    let c := p.u8 12
    let x := s.comp c
    if 9 < c ∨ 1 < p.u8 13 then reserved
    else if image.component ≠ c then .reject 0x0B 3
    else if x.trial then .reject 0x0B 5
    else if x.switch ≠ .none then .reject 0x0B 4
    else .later (s.setComp c { x.setBank (1 - x.active) { x.idle with state := .writing } with writing := x.writing ++ [(t, image)] })

/-- The written image is verified under R93: its signature, and its security version against the fused counter. -/
def State.imageFails (s : State) (i : FwImage) : Option Nat :=
  if !(i.signed || (i.devSigned && s.fuses.grade = .ld600)) then some 1
  else if i.secver < s.fuses.secCounter then some 2
  else none

/-- [log 113 DEDUCED] -/
def execImageWriteComplete (component : Nat) (s : State) : Host.Outcome State Fault Refusal :=
  let x := s.comp component
  match x.writing with
  | [] => next s
  | (t, i) :: rest =>
    let fails := s.imageFails i
    let state := if rest ≠ [] then BankState.writing else if fails.isSome then .failed else .verified
    let s := s.setComp component
      { x.setBank (1 - x.active) { state := state, version := i.version, secver := i.secver } with writing := rest }
    match fails with
    | some d => next (finish t 4 0x0B d [] s)
    | none => next (finish t 0 0x0B 0 (leBytes 4 i.version ++ leBytes 1 i.secver)
        (serviceLog { time := s.now, kind := 4, who := component, info := i.version } s))

/-- Flasks that the list of ACTIVATE_BANK must name (R587). -/
def State.bankFlasks (s : State) (c : Nat) : List Nat :=
  flaskNums.filter fun f => let x := s.flask f
    x.state ≠ .empty && (decide (c = 4) || (decide (c = 3) && x.committed.cores ≠ [])
      || (decide (5 ≤ c) && x.committed.queues.any fun q => decide (q.1 = c - 2)))

/-- R591: ARMED locks the switch. -/
def State.bankLocked (s : State) (c : Nat) : Bool :=
  s.safe.armed && (decide (c = 3 ∨ c = 4) || (decide (5 ≤ c) && (s.bankFlasks c).any fun f => decide ((s.flask f).cls = 3)))

/-- The other bank is named active, and is on trial unless it is the one reverted to (R588, R589). [log 112 DEDUCED] -/
def flipBank (c : Nat) (sw : Switch) (s : State) : State :=
  let x := s.comp c
  let y := { x with active := 1 - x.active, trial := !x.trial, switch := sw, selected := []
                    proven := if x.trial then x.proven else false }
  let s := s.setComp c y
  serviceLog { time := s.now, kind := 5, who := c, info := y.live.version } s

/-- The series of a firmware bank is complete (R587, R589). [log 112 DEDUCED] -/
def bankDone (c : Nat) (s : State) : State :=
  let x := s.comp c
  attn 15 0x0B 0 (s.setComp c { x with switch := .none, proven := true, selected := [] })

/-- The flasks that a packet lists from byte 16 on. -/
def Packet.flaskList (p : Packet) : List Nat := (List.range (p.u8 14)).map fun k => p.u8 (16 + k)

/-- [log 112 DEDUCED] -/
def execActivateBank (p : Packet) (s : State) : Host.Outcome State Fault Refusal :=
  command 0x0B02 24 true p s fun s t =>
    let c := p.u8 12
    let x := s.comp c
    let members := Packet.flaskList p
    let timeout := timeoutOf (p.u32 32)
    if 9 < c ∨ 1 < p.u8 13 ∨ 16 < p.u8 14 ∨ 10000 < timeout ∨ members.any (15 < ·) ∨ ¬ members.Nodup then reserved
    else if c < 3 then
      if p.u8 13 = 1 then .reject 2 0x0C
      else if x.switch = .waiting then ok (flipBank c .none s) (leBytes 4 0 ++ [0])
      else if x.idle.state ≠ .verified then .reject 0x0B 1
      else ok (flipBank c .waiting s) (leBytes 4 0 ++ [0])
    else if s.bankLocked c then .reject 0x0B 6
    else if p.u8 13 = 1 then
      match resumeSeries (.bank c) members timeout t s with
      | none => .reject 2 0x0C
      | some s => .later (s.setComp c { x with switch := .running })
    else if x.switch ≠ .none then .reject 0x0B 4
    else if x.idle.state ≠ .verified then .reject 0x0B 1
    else if (s.bankFlasks c).any fun f => !members.contains f then .reject 0x0B 7
    else if members.any fun f => !(s.flask f).commits then .reject 2 4
    else if members.any s.anySeries then .reject 2 0x0A
    else if !s.orderOk members then .reject 2 0x0D
    else if members = [] then
      let g := nextGen s.ex.lastGen
      let s := { s with ex := { s.ex with lastGen := g, issued := (g, []) :: s.ex.issued } }
      ok (bankDone c (flipBank c .none s)) (leBytes 4 g ++ [0])
    else .later (issueSeries (.bank c) members timeout t (flipBank c .running s))

/-- [log 112 DEDUCED] -/
def execConfirmBank (p : Packet) (s : State) : Host.Outcome State Fault Refusal :=
  command 0x0B03 1 true p s fun s _ =>
    let c := p.u8 12
    let x := s.comp c
    if 9 < c then reserved
    else if !x.trial then ok s
    else if !x.proven ∨ x.switch ≠ .none then .reject 0x0B 4
    else ok (serviceLog { time := s.now, kind := 6, who := c, info := x.live.version } (s.setComp c { x with trial := false }))

/-- [log 7 DEDUCED] -/
def execCommitSecurityVersion (p : Packet) (s : State) : Host.Outcome State Fault Refusal :=
  command 0x0B04 1 true p s fun s _ =>
    let least := compNums.foldl (fun k c => min k (s.comp c).live.secver) 64
    let counter := s.fuses.secCounter
    if p.u8 12 ≠ 0xA5 then .reject 0x0B 0
    else if compNums.any fun c => (s.comp c).trial || (s.comp c).switch ≠ .none then .reject 0x0B 5
    else if least ≤ counter then ok s (leBytes 1 counter)
    else
      let s := { s with fuses := { s.fuses with secCounter := least } }
      let s := overList (fun c s => let x := s.comp c
        if x.idle.state ≠ .empty ∧ x.idle.secver < least then
          s.setComp c (x.setBank (1 - x.active) { x.idle with state := .failed }) else s) compNums s
      ok (serviceLog { time := s.now, kind := 8, info := least } s) (leBytes 1 least)

/-- Keystone restarts on the bank named active: its trial passes, or the previous bank boots (R588, R94).
[log 113 DEDUCED] -/
def execKeystoneRestart (verifies passes : Bool) (s : State) : Host.Outcome State Fault Refusal :=
  let x := s.comp 0
  if !s.keystoneRestarting then next s
  else
    let s := { s with safe := { s.safe with outValid := false, armed := false }, lines := { s.lines with safeCmd := false } }
    if verifies ∧ passes then
      next { s.setComp 0 { x with switch := .none, proven := x.proven || x.trial } with
        sup := { s.sup with ksBank := x.active } }
    else
      let bad := if verifies then x.live else { x.live with state := BankState.failed }
      let y := { x.setBank x.active bad with active := 1 - x.active, trial := false, switch := .none }
      next (serviceLog { time := s.now, kind := 7 } (attn 14 0x0B 0
        { s.setComp 0 y with sup := { s.sup with ksBank := y.active, bankFallback := true } }))

/-! ### Reload (R592, R593) -/

/-- Loads images one after another into the flask; answers the new jobs, or area and detail. -/
def loadAll (f c : Nat) : List PourImage → State → List Nat → List Nat → Except (Nat × Nat) (State × List Nat × List Nat)
  | [], s, js, fr => .ok (s, js, fr)
  | im :: ims, s, js, fr =>
    match loadImage f c im none s with
    | .error e => .error e
    | .ok (s1, j, frames) => loadAll f c ims s1 (js ++ [j]) (fr ++ frames)

/-- Takes a job out: its segments, streams and number are free. -/
def unloadJob (j : Nat) (s : State) : State := jobUnloaded j (s.setJob j Job.rest)

/-- RELOAD_FLASK: `images` is what the module finds through the image list. [log 114 DEDUCED] -/
def execReloadFlask (p : Packet) (images : List PourImage) (s : State) : Host.Outcome State Fault Refusal :=
  commandThen sweepClosing 0x0B05 24 true p s fun s t =>
    let f := p.u8 12
    let n := p.u8 13
    let x := s.flask f
    let timeout := timeoutOf (p.u32 32)
    let old := s.jobsOf f
    let owner := match old, x.tenants with
      | j :: _, _ => (s.job j).owner
      | [], c :: _ => c
      | [], [] => t.ctx
    if 15 < f ∨ n = 0 ∨ 8 < n ∨ 10000 < timeout then reserved
    else if s.safe.armed ∧ x.cls = 3 then .reject 0x0B 6
    else if x.state ≠ .active ∨ x.mode = .tile ∨ (s.ex.reloads.any fun r => decide (r.flask = f)) then .reject 0x0B 0x0D
    else if s.anySeries f then .reject 2 0x0A
    else match loadAll f owner (images.take n) s [] [] with
      | .error (a, d) => .reject a d
      | .ok (s, js, _) =>
        let s := if x.mode = .free then overList (fun j s =>
            if (s.job j).state = .running then s.setJob j { s.job j with state := .draining, drainMode := 0 } else s) old s
          else s
        .later { s with ex := { s.ex with
          reloads := s.ex.reloads ++ [{ flask := f, newJobs := js, timeoutMs := timeout, since := s.now, ticket := t }] } }

/-- R593: a stream of a new job with the index and layout hash of a stream of an old one keeps its home copy, STEPS and
NONFINITE. [log 114 DEDUCED] -/
def adoptStreams (old news : List Nat) (s : State) : State :=
  let adopt := fun (x : Nat × Stream) =>
    match s.ta.streams.find? fun (y : Nat × Stream) => news.contains x.2.job && old.contains y.2.job
        && decide (y.2.index = x.2.index ∧ y.2.layout = x.2.layout) with
    | some y => (x.1, { x.2 with state := y.2.state, steps := y.2.steps, nonfinite := y.2.nonfinite, lastTime := y.2.lastTime })
    | none => x
  { s with ta := { s.ta with streams := s.ta.streams.map adopt } }

/-- The swap boundary has come: parting-capable in the old table and a period start of the new one; in a free-running flask
the old jobs have drained (R592). -/
def State.swapReady (s : State) (r : Reload) : Bool :=
  let x := s.flask r.flask
  let old := (s.jobsOf r.flask).filter fun j => !r.newJobs.contains j
  if x.mode = .paced then
    match x.lastBoundary, r.newJobs with
    | some b, j :: _ =>
      let im := (s.job j).image
      decide (b / max 1 (spanNs r.flask s) % max 1 im.period = im.phase)
        && (!x.inPeriod || old.all fun k => !(s.job k).live || (s.job k).image.parting.contains x.span)
    | _, _ => false
  else old.all fun k => !(s.job k).live

/-- The frames of the new jobs' segments have been cleared (R333). -/
def State.reloadCleared (s : State) (r : Reload) : Bool :=
  s.mem.maps.all fun m => match m.job with
    | some j => !r.newJobs.contains j || m.pages.all fun k => (s.page k).frames.all fun a =>
        !(s.mem.clearing.any fun c => decide (c.1 = a.1))
    | none => true

/-- Step 3 of R592. [log 114 DEDUCED] -/
def swapIn (r : Reload) (s : State) : State :=
  let f := r.flask
  let old := (s.jobsOf f).filter fun j => !r.newJobs.contains j
  let again := old.any fun j => (s.job j).repeats
  let s := adoptStreams old r.newJobs s
  let s := overList (fun j s => unloadJob j (if (s.job j).live then jobEnded j s else s)) old s
  let g := nextGen s.ex.lastGen
  let s := { s with ex := { s.ex with
    lastGen := g, issued := (g, [f]) :: s.ex.issued, reloads := s.ex.reloads.filter (· ≠ r) } }
  let s := s.setFlask f { s.flask f with generation := g, span := 0, inPeriod := (s.flask f).mode = .paced }
  let s := overList (fun j s =>
    let s := s.setJob j { s.job j with state := .ready, readyAt := s.ex.readyClock, repeats := again }
    let s := { s with ex := { s.ex with readyClock := s.ex.readyClock + 1 } }
    match s.place j with
    | some cs => let s := runJob j cs s
      s.setJob j { s.job j with begun := (s.flask f).mode = .paced }
    | none => s) r.newJobs s
  let s := if (s.flask f).mode = .paced then s.setFlaskPower f { s.flaskPower f with reserved := s.declared f } else s
  let s := serviceLog { time := s.now, kind := 9, who := f, info := g } (attn 15 0x0B 0 s)
  finish r.ticket 0 0x0B 0 (leBytes 4 g ++ r.newJobs.flatMap (leBytes 2)) s

def execReloadSwap (flask : Nat) (s : State) : Host.Outcome State Fault Refusal :=
  match s.ex.reloads.find? fun r => decide (r.flask = flask) with
  | none => next s
  | some r => if (s.flask flask).state = .active ∧ s.swapReady r ∧ s.reloadCleared r then nextMoves (swapIn r s) else next s

/-- No swap boundary came: the new jobs go, the old ones run on (R592). [log 114 DEDUCED] -/
def execReloadTimeout (flask : Nat) (s : State) : Host.Outcome State Fault Refusal :=
  match s.ex.reloads.find? fun r => decide (r.flask = flask) with
  | none => next s
  | some r =>
    let s := advance (r.since + r.timeoutMs * 1000000) s
    let s := overList unloadJob r.newJobs { s with ex := { s.ex with reloads := s.ex.reloads.filter (· ≠ r) } }
    let s := overList (fun j s => let x := s.job j
      if x.state = .draining ∧ x.stopTicket.isNone ∧ x.drainMode = 0 then s.setJob j { x with state := .running } else s)
      (s.jobsOf flask) s
    nextMoves (finish r.ticket 4 0x0B 8 [] s)

/-! ### Retirement (R594 to R597) -/

/-- The remaining dies and reserve cores carry every loaded C1 to C3 pace table without die `n`. -/
def State.canCarryWithout (s : State) (n : Nat) : Bool :=
  let lost := flaskNums.foldl (fun k f => if s.isLoaded f ∧ 1 ≤ (s.flask f).cls then
    k + ((s.flask f).committed.cores.filter fun c => decide (c.1 = n)).length else k) 0
  decide (s.coresLost + lost ≤ (dieNums.filter fun m => (s.die m).inService && decide (m ≠ n)).foldl
    (fun k m => k + (s.freeReserves m).length) 0)

/-- [log 115 DEDUCED] -/
def execRetireDie (p : Packet) (s : State) : Host.Outcome State Fault Refusal :=
  commandMoves 0x0B06 1 true p s fun s t =>
    let n := p.u8 12
    let inC3 := flaskNums.any fun f => let y := s.c3 f
      (s.flask f).state ≠ .empty && decide (y.mode ≠ .none) && [y.dieA, y.dieB, y.dieC].contains n
    if 3 < n then reserved
    else if (s.die n).out.isSome ∨ (s.svc.retiring.any fun r => decide (r.die = n)) then .reject 0x0B 0x0B
    else if inC3 then .reject 0x0B 9
    else if !s.canCarryWithout n then .reject 0x0B 0x0A
    else if !s.mayEvacuate n then .reject 3 0x0E
    else
      let holders := flaskNums.filter fun f => (s.flask f).committed.cores.any fun c => decide (c.1 = n)
      let s := overList (fun f s => let x := s.flask f
        s.setFlask f { x with shadow := { x.shadow with cores := x.shadow.cores.filter fun c => decide (c.1 ≠ n) } }) flaskNums s
      let s := overList (fun f s => s.setFlask f { s.flask f with leaveDue := ((s.flask f).leaveDue ++ [n]).dedup }) holders s
      .later { s with svc := { s.svc with retiring := s.svc.retiring ++ [{ die := n, flasks := holders, ticket := t }] } }

def execRetireSite (p : Packet) (s : State) : Host.Outcome State Fault Refusal :=
  command 0x0B07 2 true p s fun s t =>
    let n := p.u8 12
    let k := p.u8 13
    let slackOf := flaskNums.find? fun f => (s.c3 f).slackSites.contains (n, k)
    if 3 < n ∨ 143 < k then reserved
    else if s.isFused n k ∨ s.isRetired 0 n k then .reject 0x0B 0x0B
    else if slackOf.isSome ∧ s.freeReserves n = [] then .reject 0x0B 9
    else match s.holderOf n k with
      | none => ok (attn 15 0x0B 0 (retireSiteNow n k s))
      | some f => .later { retireSite n k s with svc := { s.svc with
          retiringSites := s.svc.retiringSites ++ [{ die := n, site := k, flask := f, ticket := t }] } }

/-- [log 115 DEDUCED] -/
def execReadmit (p : Packet) (s : State) : Host.Outcome State Fault Refusal :=
  command 0x0B08 8 true p s fun s _ =>
    let kind := p.u8 12
    let unit := p.u8 13
    let hit := fun (r : Retired) => decide (r.unit = unit) &&
      (decide (r.kind = kind ∧ (kind = 8 ∨ r.index = p.u32 16)) || decide (kind = 8 ∧ (r.kind = 0 ∨ r.kind = 1)))
    if 9 < kind then reserved
    else if kind = 9 then .reject 0x0B 0x0B
    else
      let gone := s.sup.record.filter hit
      let s := { s with sup := { s.sup with
        record := s.sup.record.filter fun r => !hit r, outNow := s.sup.outNow ++ gone
        recordFull := s.sup.recordFull && gone.isEmpty } }
      let s := gone.foldl (fun s r => serviceLog { time := s.now, kind := 3, who := r.unit, unit := r.index } s) s
      ok s (leBytes 2 gone.length)

/-! ### Logs and records -/

/-- Table 18.4. -/
def ServiceEntry.bytes (e : ServiceEntry) : List Byte :=
  leBytes 8 e.time ++ leBytes 1 e.kind ++ leBytes 1 e.area ++ leBytes 1 e.detail ++ leBytes 1 e.who ++ leBytes 4 e.unit
    ++ leBytes 4 e.info ++ List.replicate 12 0

/-- R597. -/
def Retired.bytes (r : Retired) : List Byte :=
  leBytes 1 r.kind ++ leBytes 1 r.unit ++ leBytes 4 r.index ++ [0, 0] ++ leBytes 8 r.time

def execReadServiceLog (p : Packet) (s : State) : Host.Outcome State Fault Refusal :=
  command 0x0B09 18 true p s fun s _ =>
    let n := p.u16 28
    let es := (s.svc.log.drop (p.u32 24)).take n
    if n = 0 ∨ 4096 < n then reserved
    else ok (s.hostWrite (p.u64 16) (es.flatMap ServiceEntry.bytes)) (leBytes 4 es.length)

def execReadRetirement (p : Packet) (s : State) : Host.Outcome State Fault Refusal :=
  command 0x0B0A 18 true p s fun s _ =>
    let n := p.u16 28
    let es := (s.sup.record.drop (p.u32 24)).take n
    if n = 0 ∨ 4096 < n then reserved
    else ok (s.hostWrite (p.u64 16) (es.flatMap Retired.bytes)) (leBytes 4 es.length ++ leBytes 4 s.sup.record.length)

def execSetDiagPort (p : Packet) (s : State) : Host.Outcome State Fault Refusal :=
  command 0x0B0B 36 true p s fun s _ =>
    let v := p.u8 12
    if 3 < v then reserved
    else if bitAt v 1 ∧ s.fuses.grade ≠ .ld600 then .reject 0x0B 0x0C
    else ok { s with svc := { s.svc with
      diagEn := bitAt v 0, diagWrite := bitAt v 1, diagPort := p.u16 14
      diagAddr := (List.range 16).map (fun k => BitVec.ofNat 8 (p.u8 (16 + k)))
      diagPeer := (List.range 16).map (fun k => BitVec.ofNat 8 (p.u8 (32 + k))) } }

def execQueryService (p : Packet) (s : State) : Host.Outcome State Fault Refusal :=
  command 0x0B0F 1 false p s fun s _ =>
    let c := p.u8 12
    if c = 0xFF then ok s ([0, 1, 2, 3].flatMap fun k => leBytes 4 (s.serviceWord k))
    else if 9 < c then reserved
    else ok s ([0, 1, 2, 3].flatMap fun k => leBytes 4 (s.fwWord c k))

/-! ### CALIBRATE_ENERGY (R598) -/

def execCalibrateEnergy (p : Packet) (s : State) : Host.Outcome State Fault Refusal :=
  command 0x0B0C 12 true p s fun s t =>
    if s.pa.mode ≠ .park ∨ s.svc.suite.isSome ∨ flaskNums.any (fun f => (s.flask f).state = .active) then .reject 0x0B 0x0D
    else .later { s with svc := { s.svc with suite := some (t, p.u64 16) } }

/-- The record that the suite writes (Table 16.9): each event measured; the leakage of each die in service at its present
temperature point, all else copied from the active bank. [log 116 DEDUCED] -/
def suiteRecord (events : List Nat) (leak : List (Nat × List Nat)) (s : State) : List Byte :=
  let coeff := (List.range 32).flatMap fun k => leBytes 4 (events.getD k 0)
  let point := fun (n : Nat) => min 15 ((((s.diePower n).hottest + 40 + 9) / 10).toNat)
  let row := fun (n i j : Nat) =>
    match leak.lookup n with
    | some l => if i = point n ∧ (s.die n).inService then l.getD j 0 else s.coeffAt (136 + 4 * ((n * 16 + i) * 8 + j))
    | none => s.coeffAt (136 + 4 * ((n * 16 + i) * 8 + j))
  let body := leBytes 4 0 ++ leBytes 4 0 ++ coeff
    ++ ((List.range 4).flatMap fun n => (List.range 16).flatMap fun i => (List.range 8).flatMap fun j => leBytes 4 (row n i j))
    ++ List.replicate 116 0
  body ++ leBytes 4 (crc32c body)

/-- `events` and `leak` are what the suite measures: FP32 values per event, and per die at each voltage. [log 116 DEDUCED] -/
def execEnergySuiteComplete (events : List Nat) (leak : List (Nat × List Nat)) (s : State) : Host.Outcome State Fault Refusal :=
  match s.svc.suite with
  | none => next s
  | some (t, a) =>
    let s := s.hostWrite a (suiteRecord events leak s)
    next (finish t 0 0x0B 0 (leBytes 4 2304) { s with svc := { s.svc with suite := none } })

/-! ### Development grade (R602, R603) -/

/-- Poisons the line at an address of a flask (Table 18.7, kind 1). -/
def poisonAt (m : Mapping) (va : Nat) (s : State) : State :=
  let x := s.page (m.pageAt va)
  poisonFrame (x.servingFrame + (va - m.va) % bytesOf m.big / 65536) (va % 65536 / 64) s

/-- [log 116 DEDUCED] -/
def execInjectFault (p : Packet) (s : State) : Host.Outcome State Fault Refusal :=
  command 0x0B0D 10 true p s fun s _ =>
    let k := p.u8 12
    let f := p.u8 13
    let c := p.u8 14
    let va := p.u48 16
    if s.fuses.grade ≠ .ld600 then .reject 0x0B 0x0C
    else if 4 < k ∨ 15 < f then reserved
    else
      let logged := serviceLog { time := s.now, kind := 0x0C, area := 0x0B, who := f, unit := k } s
      let arm := fun (i : Nat × Nat × Nat) => { logged with svc := { logged.svc with injected := logged.svc.injected ++ [i] } }
      if k = 0 then ok (arm (0, f, 0))
      else if k = 1 then
        match s.mem.maps.find? fun m => decide (m.flask = f ∧ m.va ≤ va ∧ va < m.va + m.bytes) with
        | none => .reject 3 6
        | some m => ok (poisonAt m va logged)
      else if k = 2 then
        ok (safeCause 9 0x29 none none false { logged with safe := { logged.safe with paEpochs := 0 } })
      else if k = 3 then ok (arm (3, 0, c))
      else ok (readbackError 1 logged)

/-- [log 116 DEDUCED] -/
def execSetDevTrace (p : Packet) (s : State) : Host.Outcome State Fault Refusal :=
  command 0x0B0E 1 true p s fun s _ =>
    let v := p.u8 12
    if s.fuses.grade ≠ .ld600 then .reject 0x0B 0x0C
    else if 3 < v then reserved
    else if bitAt v 0 ∧ !s.svc.traceOn ∧ s.capacity 2 < 65536 + s.quotaSum 2 then .reject 3 1
    else ok { s with svc := { s.svc with traceOn := bitAt v 0, traceStream := bitAt v 0 && bitAt v 1
                                         trace := if s.svc.traceOn ∧ bitAt v 0 then s.svc.trace else [] } }

end Sys2Proof.Machine
end

