-- ==== Sys2Proof/Machine/SpanCmds.lean ====
section
/-!
DEFINITION. Span boundaries and parting lines: delivery at boundaries, periods, commits, re-mapping, stops
(spec 01 R27 to R38, 05 R157, R165, R176 to R187, 11 R394, 15 R506, 17 R553, R573).
-/

namespace Sys2Proof.Machine

/-! ### Delivery and periods at a span boundary (R28, R165, R506) -/

/-- A result as its 32-byte header and its data stand at the boundary, for a signature: engine, image, entry, bytes. -/
structure Signed where
  engine : Nat
  image : Nat
  entry : Nat
  bytes : List Byte
deriving DecidableEq, Repr

/-- The results that wait leave at boundary `b`; `data` gives the bytes of the i-th of them. -/
def deliverWaiting (f b : Nat) (data : List (Nat × Nat × List Byte)) (s : State) : State × List Signed :=
  let x := s.flask f
  let s := s.setFlask f { x with waitingResults := [] }
  ((List.range x.waitingResults.length).zip x.waitingResults).foldl (fun (a : State × List Signed) (w : Nat × Waiting) =>
    let s := deliver { w.2.header with outputTime := b } a.1
    let h := (s.ex.results.lookup w.2.header.cls).getD w.2.header
    let bytes := match data.find? fun d => decide (d.1 = f ∧ d.2.1 = w.1) with | some d => d.2.2 | none => []
    (s, a.2 ++ [{ engine := w.2.engine, image := w.2.image, entry := w.2.entry
                  bytes := Header.bytes { h with generation := 0 } ++ bytes }])) (s, [])

/-- The signature of each engine that delivered: CRC-64 over its results in order of image hash, then entry (R506). -/
def signaturesOf (rs : List Signed) : List (Nat × Nat) :=
  (sortBy (rs.map (·.engine)).dedup fun a b => decide (a ≤ b)).map fun e =>
    let mine := sortBy (rs.filter fun r => decide (r.engine = e)) fun a b =>
      decide (a.image < b.image ∨ (a.image = b.image ∧ a.entry ≤ b.entry))
    (e, mine.foldl (fun c r => crc64 c r.bytes) 0)

/-- The signatures of a compared flask are formed and sent; a result that carries REMAPPED drops the pair (R507, R508).
[log 38 DEDUCED] -/
def signBoundary (f b : Nat) (rs : List Signed) (remapped : Bool) (s : State) : State :=
  let t := s.truss
  if !(bitAt t.compared.toNat f) ∨ !(bitAt t.pairMask f) ∨ s.safe.safeState then s
  else if remapped then dropPair 0x12 f 0 b s
  else
    let n := Tab.get 0 t.spanNums f
    ownSigs { flask := f, span := n, boundary := b, sigs := signaturesOf rs }
      { s with truss := { t with spanNums := Tab.put t.spanNums f (n + 1) } }

/-- A job of a paced flask begins a period: its pours start again, nothing of the last period stays; a job that drains to
the end of its period ends (R165, Table 5.8). [log 39 DEDUCED] -/
def jobPeriod (j : Nat) (s : State) : State :=
  let x := s.job j
  if x.state = .draining ∧ x.begun then jobEnded j s
  else if x.state ≠ .running then s
  else
    let again := fun (r : PourRun) => if r.job = some j then
      { r with next := 0, inFlight := [], own := [], outs := [], pulsed := [], iteration := if x.begun then r.iteration + 1 else r.iteration }
      else r
    let s := { s with ex := { s.ex with
      queues := s.ex.queues.map fun (y : Nat × Queue) => (y.1, { y.2 with pours := y.2.pours.map again }) } }
    s.setJob j { x with
      begun := true, iterations := if x.begun then satInc x.iterations else x.iterations
      fired := [], tokens := [], missing := [], voted := [], inFlight := [] }

/-- A boundary of one paced flask. [log 38 DEDUCED] -/
def flaskBoundary (b : Nat) (data : List (Nat × Nat × List Byte)) (f : Nat) (s : State) : State :=
  let starts := s.periodStart f
  let x := s.flask f
  let s := s.setFlask f { x with
    lastBoundary := some b, inPeriod := x.inPeriod || starts
    span := if starts then 0 else if x.inPeriod then x.span + 1 else x.span }
  let remapped := x.waitingResults.any fun w => w.header.attrs.remapped
  let (s, rs) := deliverWaiting f b data s
  let s := chaptersBoundary f (signBoundary f b rs remapped s)
  if starts then overList jobPeriod (s.jobsOf f) s else s

/-- The next boundary of 50 µs spans that has not been served. [log 38 DEDUCED] -/
def State.nextFifty (s : State) : Nat :=
  let n := (s.now + 49999) / 50000 * 50000
  if n ≤ s.safe.lastFifty then s.safe.lastFifty + 50000 else n

/-- The next boundary to fall: of a paced flask, or of 50 µs spans. [log 38 DEDUCED] -/
def State.nextEdge (s : State) : Nat := s.pacedFlasks.foldl (fun k f => min k (s.nextBoundary f)) s.nextFifty

/-- SPAN_BOUNDARY: every boundary of one instant, of the paced flasks and of Keystone's 50 µs spans.
[log 3 DESIGN CHOICE, 38 DEDUCED] -/
def execSpanBoundary (data : List (Nat × Nat × List Byte)) (s : State) : Host.Outcome State Fault Refusal :=
  if !s.lines.trigLive then next s
  else
    let b := s.nextEdge
    let fifty := decide (b = s.nextFifty)
    let due := s.pacedFlasks.filter fun f => decide (s.nextBoundary f = b)
    let s := overList (flaskBoundary b data) due (advance b s)
    nextSweep (if fifty then checkOutputs (applyClasses { s with safe := { s.safe with lastFifty := b } }) else s)

/-- A paced step has not completed at the boundary that ends its end span: it is stopped and its outputs are missing (R157). -/
def execPaceOverrun (job step : Nat) (s : State) : Host.Outcome State Fault Refusal :=
  let x := s.job job
  match x.image.steps[step]? with
  | none => next s
  | some st =>
    let waiting := decide (Tab.get 0 x.fired step ≤ x.iterations)
    if !x.live ∨ !x.begun ∨ (s.flask x.flask).mode ≠ .paced ∨ (s.flask x.flask).span ≤ st.endSpan
        ∨ !(waiting || x.inFlight.contains step) ∨ s.safe.safeState then next s
    else
      let s := if x.inFlight.contains step then s else fireStep job step st s
      let y := s.job job
      let s := s.setJob job { y with inFlight := y.inFlight.filter (· ≠ step), missing := (y.missing ++ [step]).dedup }
      let c := s.c3 x.flask
      let s := s.setC3 x.flask { c with held := c.held.filter fun h => !decide (h = (job, step)) }
      nextSweep (paceOverrun x.flask s)

/-! ### Re-mapping (R161, R187, R364, R594, R595) -/

/-- How far a reserve core is from a core it replaces: dies round the ring, then mesh hops, then die and site (R96).
[log 40 DEDUCED] -/
def coreDistance (c d : Nat × Nat) : Nat :=
  ringDistance c.1 d.1 * 1000000 + hops c.2 d.2 * 10000 + d.1 * 1000 + d.2

/-- Replaces each core in turn by the nearest reserve core that is left. [log 40 DEDUCED] -/
def replaceCores : List (Nat × Nat) → List (Nat × Nat) → List ((Nat × Nat) × Option (Nat × Nat))
  | [], _ => []
  | c :: cs, pool =>
    let best := pool.foldl (fun (a : Option (Nat × Nat)) d => match a with
      | none => some d
      | some e => if coreDistance c d < coreDistance c e then some d else some e) none
    (c, best) :: replaceCores cs (match best with | some d => pool.filter (· ≠ d) | none => pool)

/-- A reserve core becomes an active core (R18). [log 40 DEDUCED] -/
def seatCore (c : Nat × Nat) (s : State) : State :=
  let d := s.die c.1
  s.setDie c.1 { d with
    order := sortBy (d.order ++ [c.2]) fun a b => decide (a ≤ b), spares := d.spares.filter (· ≠ c.2)
    active := d.active + 1, reserve := d.reserve - 1 }

/-- Free reserve cores of the dies in service. -/
def State.reservePool (s : State) (dies : List Nat) : List (Nat × Nat) :=
  (dies.filter fun n => (s.die n).inService).flatMap fun n => (s.freeReserves n).map fun k => (n, k)

/-- A flask gives up cores and takes the replacements found; its jobs go onto what is left (R187, R231). -/
def moveCores (f : Nat) (gone : List (Nat × Nat)) (pool : List (Nat × Nat)) (s : State) : State :=
  let plan := replaceCores gone pool
  let put := fun (cs : List (Nat × Nat)) => cs.filterMap fun c => match plan.lookup c with | some r => r | none => some c
  let s := overList (fun i s => match (plan.getD i ((0, 0), none)).2 with | some c => seatCore c s | none => s)
    (List.range plan.length) s
  let x := s.flask f
  let s := s.setFlask f { x with
    committed := { x.committed with cores := put x.committed.cores }, shadow := { x.shadow with cores := put x.shadow.cores } }
  let s := overList (fun j s => let y := s.job j
    if y.cores.any gone.contains then
      s.setJob j { y with cores := put y.cores
                          remapped := y.remapped || decide ((put y.cores).length < y.image.cores.foldl (· + ·) 0) }
    else s) (s.jobsOf f) s
  { s with safe := { s.safe with copy := Tab.put s.safe.copy f (x.cls, (s.flask f).committed) } }

/-- The objects a flask holds on a die that is gone are rehomed (R161). -/
def rehomeSyncs (f : Nat) (s : State) : State :=
  overList (fun o s => let x := s.sync o
    if x.kind ≠ .free ∧ x.holder = f ∧ (x.servedByHub || !(s.die x.home).inService || (s.flask f).leaveDue.contains x.home) then
      s.setSync o { x with home := s.homeDie f, servedByHub := false } else s) (s.ex.syncs.map (·.1)) s

/-- The dies whose cores a flask leaves at this parting line: lost, retiring, or parking under a running job.
[log 41 DEDUCED] -/
def State.leaving (s : State) (f : Nat) : List Nat :=
  let x := s.flask f
  dieNums.filter fun n => x.remapDue.contains n || x.leaveDue.contains n
    || ((s.die n).parking && (s.jobsOf f).any fun j => (s.job j).cores.any fun c => decide (c.1 = n))

/-- The flask leaves lost, retiring and parking dies (R187, R569, R594, R37). A C3 flask that lost a half takes reserve cores
of die C for it. [log 41 DEDUCED] -/
def leaveDies (f : Nat) (s : State) : State :=
  let ds := s.leaving f
  if ds = [] then s
  else
    let x := s.flask f
    let y := s.c3 f
    let gone := x.committed.cores.filter fun c => ds.contains c.1
    let s := if y.mode = .simplex then s.setC3 f { y with slack := 0, slackSites := [], copying := false } else s
    let pool := s.reservePool (if x.cls = 3 ∧ y.mode = .simplex then [y.dieC] else dieNums.filter fun n => !ds.contains n)
    let short := decide (pool.length < gone.length)
    let s := moveCores f gone pool s
    let s := s.setFlask f { s.flask f with remapDue := [], leaveDue := [] }
    let s := rehomeSyncs f s
    if x.cls = 3 ∧ y.mode = .simplex ∧ short ∧ s.pa.mode = .drive then limpEntry (s.setC3 f { s.c3 f with copying := true }) else s

/-- Die C becomes the new half of a C3 flask whose copy is complete (R569, step 3). [log 41 DEDUCED] -/
def promoteHalf (f : Nat) (s : State) : State :=
  let y := s.c3 f
  if y.mode ≠ .simplex ∨ y.copying ∨ (s.flask f).remapDue ≠ [] then s
  else
    let aLost := !(s.die y.dieA).inService
    s.setC3 f { y with dieA := if aLost then y.dieC else y.dieA, dieB := if aLost then y.dieB else y.dieC
                       mode := .noSlack, simplexSince := none }

/-- A C3 flask takes its slack cores back once its die C is in service again (R37). -/
def retakeSlack (f : Nat) (s : State) : State :=
  let y := s.c3 f
  if y.mode = .noSlack ∧ (s.die y.dieC).inService ∧ y.dieC ≠ y.dieA ∧ y.dieC ≠ y.dieB ∧ 0 < s.slackNeed f
      ∧ s.slackNeed f ≤ (s.freeReserves y.dieC).length then
    let sites := ((s.freeReserves y.dieC).take (s.slackNeed f)).map fun k => (y.dieC, k)
    s.setC3 f { y with mode := .slack, slack := sites.length, slackSites := sites }
  else s

/-- A core site is retired at its flask's parting line, with a replacement (R364, R595). [log 41 DEDUCED] -/
def retireAt (f : Nat) (c : Nat × Nat) (s : State) : State :=
  let y := s.c3 f
  let s :=
    if y.slackSites.contains c then
      let new := (s.freeReserves c.1).take 1 |>.map fun k => (c.1, k)
      let sites := y.slackSites.filter (· ≠ c) ++ new
      retireSiteNow c.1 c.2 (s.setC3 f { y with slackSites := sites, slack := sites.length })
    else
      let pool := s.reservePool (if (s.flask f).cls = 3 then [c.1] else dieNums)
      retireSiteNow c.1 c.2 (moveCores f [c] pool s)
  let mine := s.svc.retiringSites.filter fun r => decide (r.die = c.1 ∧ r.site = c.2)
  let s := { s with svc := { s.svc with retiringSites := s.svc.retiringSites.filter fun r => !mine.contains r } }
  mine.foldl (fun s r => finishOk r.ticket (attn 15 0x0B 0 s)) s

/-- The sites due for retirement in a flask. -/
def retireSites (f : Nat) (s : State) : State :=
  let due := (s.flask f).retireDue
  due.foldl (fun s c => retireAt f c s) (s.setFlask f { s.flask f with retireDue := [] })

/-! ### Commits (R177 to R183, R435, R587) -/

/-- A member's part of a series: its shadow and its selection, or the new firmware bank. -/
def commitMember (kind : SeriesKind) (g f : Nat) (s : State) : State :=
  let x := s.flask f
  match kind with
  | .config =>
    let s := s.setFlask f { x with committed := x.shadow, staged := false, generation := g }
    commitSelection f (noteOverQuota f
      { s with safe := { s.safe with copy := Tab.put s.safe.copy f (x.cls, x.shadow) } })
  | .bank c =>
    let y := s.comp c
    (s.setFlask f { x with generation := g }).setComp c { y with selected := (y.selected ++ [f]).dedup }

/-- The series whose next member the flask is commits there, strictly after the member before it. [log 36 DEDUCED] -/
def commitSeries (f : Nat) (s : State) : State :=
  match s.ex.series.find? fun r => !r.stopped && decide (r.members[r.done]? = some f ∧ (r.done = 0 ∨ r.since < s.now)) with
  | none => s
  | some r =>
    let s := traceNote 4 f r.generation (commitMember r.kind r.generation f s)
    let r' := { r with done := r.done + 1, since := s.now }
    let others := s.ex.series.filter fun q => !decide (q.generation = r.generation)
    if r'.done < r.members.length then
      { s with ex := { s.ex with series := r' :: others } }
    else
      let s := { s with ex := { s.ex with series := others } }
      let s := match r.kind with | .bank c => bankDone c s | .config => s
      match r.ticket with
      | none => s
      | some t => finish t 0 (t.opcode / 256) 0 (leBytes 4 r.generation ++ leBytes 1 r'.done) s

/-- A series waits too long for its next member: it stops (R179). -/
def execSeriesTimeout (generation : Nat) (s : State) : Host.Outcome State Fault Refusal :=
  match s.ex.series.find? fun r => !r.stopped && decide (r.generation = generation) with
  | none => next s
  | some r =>
    let s := advance (r.since + r.timeoutMs * 1000000) s
    let others := s.ex.series.filter fun q => !decide (q.generation = r.generation)
    let s := { s with ex := { s.ex with series := { r with stopped := true, ticket := none } :: others } }
    let s := match r.kind with
      | .bank c => s.setComp c { s.comp c with switch := .stopped }
      | .config => s
    nextSweep (finishOpt r.ticket 4 2 0x0B (leBytes 4 r.generation ++ leBytes 1 r.done) s)

/-! ### The parting line -/

/-- The flask is at a parting line: a parting-capable boundary of its pace table, or nothing of it in flight (R28, R178).
[log 36 DEDUCED] -/
def State.atParting (s : State) (f : Nat) : Bool :=
  let x := s.flask f
  let quiet := (s.jobsOf f).all (fun j => (s.job j).inFlight.isEmpty)
    && s.ex.queues.all fun (q : Nat × Queue) => q.2.pours.all fun r => decide (r.flask ≠ f) || r.inFlight.isEmpty
  match x.state with
  | .empty | .resetting => false
  | .created | .loaded | .stopped => true
  | .active => match x.mode with
    | .paced => x.lastBoundary.isSome && (s.jobsOf f).all fun j =>
        let y := s.job j
        !(y.live && y.begun) || y.image.parting.contains x.span
    | .free => quiet
    | .tile => x.tasks.all fun t => t.core.isNone

/-- STOP_FLASK takes effect (R170): the flask's jobs are suspended, its reservation is released. -/
def stopAt (f : Nat) (s : State) : State :=
  let x := s.flask f
  if !x.stopPending ∨ x.state ≠ .active then s
  else
    let s := dropStretch f (s.setFlask f { x with state := .stopped, stopPending := false, stopTicket := none, inPeriod := false, lastBoundary := none })
    let s := overList (fun j s => s.setJob j { s.job j with suspended := true }) (s.jobsOf f) s
    let s := s.setFlaskPower f { s.flaskPower f with reserved := 0 }
    finishOpt x.stopTicket 0 2 0 [] s

/-- Everything that takes effect at a flask's parting line. [log 36 DEDUCED] -/
def partingLine (f : Nat) (s : State) : State :=
  let s := commitSeries f s
  let s := overList (fun j s => streamsParting j (applyDriftSets j s)) (s.jobsOf f) s
  let s := mapsParting f s
  let s := promoteHalf f s
  let s := retireSites f (leaveDies f s)
  let s := modeParting f (rehomeSyncs f s)
  let s := chaptersParting f (retakeSlack f s)
  dispatchTiles f (stopAt f s)

def execPartingLine (flask : Nat) (s : State) : Host.Outcome State Fault Refusal :=
  if s.lines.run = .running ∧ s.atParting flask then nextMoves (partingLine flask s) else next s

end Sys2Proof.Machine
end

