-- ==== Sys2Proof/Machine/Regs.lean ====
section
/-!
DEFINITION. The module register space (R616, Table 19.8): what each register reads as, what a read clears, what a read of a
low half latches, what a write does (R11 to R14, R617, R623).
-/

namespace Sys2Proof.Machine

/-! ### Words that no query returns -/

/-- TIER_STATUS (Table 10.14). -/
def State.tierWord (s : State) (w : Nat) : Nat :=
  let t := w / 4 + 1
  if w = 12 then
    word (([1, 2, 3].map fun t => flagAt (t - 1) (s.capacity t < s.quotaSum t))
      ++ [flagAt 3 (t3Spares ≤ s.retiredOf 9), fieldAt 16 8 (min 255 s.mem.wear)])
  else if 12 < w then 0
  else if w % 4 = 0 then s.capacity t
  else if w % 4 = 1 then s.freeUnits t
  else if w % 4 = 2 then
    (if t = 1 then 256 * s.retiredOf 5 + 0x60000 * s.retiredOf 8 else if t = 2 then 32768 * s.retiredOf 6 else 512 * s.retiredOf 9)
  else s.quotaSum t

/-- Entries held locked for a flask, over the dies that hold the cores of its jobs (R337). [log 27 DEDUCED] -/
def State.lockedEntries (s : State) (f : Nat) : Nat :=
  (s.mem.maps.filter fun m => m.flask = f && s.pageLocked m).foldl (fun k m =>
    k + m.pages.length * (match m.job with
      | some j => ((s.job j).cores.map (·.1)).dedup.length
      | none => 0)) 0

/-- FLASK_QUOTA (Table 10.13). [log 27 DEDUCED] -/
def State.quotaWord (s : State) (f w : Nat) : Nat :=
  let t := w / 4 + 1
  if w < 8 then
    (if w % 4 = 0 then s.quotaOf f t else if w % 4 = 1 then s.charge f t
     else if w % 4 = 2 then s.pinQuotaOf f t else s.pinCharge f t)
  else if w = 8 then s.quotaOf f 3
  else if w = 9 then s.charge f 3
  else if w = 10 then word ([1, 2, 3].map fun t => flagAt (t - 1) (s.overQuota f t))
  else if w = 11 then s.lockedEntries f
  else 0

/-- The flask that an event of a page is asked by (R357). -/
def PageEvent.who : PageEvent → Nat
  | .raise f _ _ _ _ _ _ => f
  | .pin f _ _ => f
  | .unpin f => f
  | .lower f _ => f
  | .rehome f _ _ _ => f

def State.moveCount (s : State) (f : Nat) : MoveCount := Tab.get MoveCount.rest s.mem.counts f
def State.setMoveCount (s : State) (f : Nat) (x : MoveCount) : State :=
  { s with mem := { s.mem with counts := Tab.put s.mem.counts f x } }

/-- MIGRATION_STATUS (Table 10.15). [log 27 DEDUCED] -/
def State.migrationWord (s : State) (f w : Nat) : Nat :=
  let c := s.moveCount f
  if w = 0 then
    fieldAt 0 16 (s.mem.pages.filter fun (x : Nat × Page) => decide (x.2.owner = f)
        && (x.2.mstate = .raising || x.2.mstate = .lowering || x.2.mstate = .rehoming)).length
      + fieldAt 16 16 (min 65535 (s.mem.pages.foldl (fun k (x : Nat × Page) =>
          k + (x.2.held.filter fun e => decide (e.who = f)).length) 0))
  else if w = 1 then c.late
  else if w = 2 then c.t0Waits
  else if w = 3 then min counterMax (c.movedBytes / 1048576)
  else if w = 4 then c.poisonHits
  else 0

/-- KV_OCCUPANCY and KV_COUNT (Table 8.10). -/
def State.kvWord (s : State) (w : Nat) : Nat :=
  if w = 0 then fieldAt 0 17 (s.ta.seqs.filter fun (x : Nat × Seq) => decide (x.2.state ≠ .free)).length
  else fieldAt 0 17 (s.ta.seqs.filter fun (x : Nat × Seq) => decide (x.2.state = .held)).length
def State.kvCountWord (s : State) (f w : Nat) : Nat :=
  let x := s.kvCount f
  if w = 0 then x.spills else if w = 1 then x.slides else if w = 2 then x.holds else x.late

/-- Groups of a flask at REFS above 1 (Table 9.9). -/
def State.sharedGroups (s : State) (f : Nat) : Nat :=
  (s.ta.groups.filter fun (x : Nat × Group) => x.2.used && decide (x.2.flask = f) && decide (1 < s.refs x.1)).length
def State.forkWord (s : State) (f w : Nat) : Nat :=
  let x := s.kvCount f
  if w = 0 then x.forks else if w = 1 then x.copies else if w = 2 then s.sharedGroups f else x.skipped

/-- ROUTE_STATUS (Table 9.10). -/
def State.routeWord (s : State) (w : Nat) : Nat :=
  let x := s.ta.route
  if w = 0 then word [fieldAt 0 2 x.mode, if x.mode = 0 then 0 else fieldAt 16 12 (x.points.length - 1)]
  else if w = 1 then x.arc / 65536
  else if w = 2 then x.reach
  else 0

/-- Timebase words (Table 11.5). -/
def State.timeWord (s : State) (w : Nat) : Nat :=
  if w = 0 then s.now % 2 ^ 32 else if w = 1 then s.now / 2 ^ 32 % 2 ^ 32
  else if w = 2 then s.tbStatus else if w = 3 then s.tbErr else if w = 4 then s.tbOffset
  else if w = 5 then fieldAt 0 16 s.tb.utcOffset + flagAt 16 s.tb.fromGptp
  else 0
def State.sourceWord (s : State) (k : Nat) : Nat :=
  let x := s.source k
  word [fieldAt 0 4 x.priority, flagAt 4 x.enable, flagAt 5 x.qualified, flagAt 6 x.eligible
    , fieldAt 16 8 x.todBad, fieldAt 24 8 x.losses]
def State.trigWord (s : State) (n w : Nat) : Nat :=
  let x := s.trig n
  if w = 0 then word [fieldAt 0 2 x.set.mode, flagAt 2 x.set.low, fieldAt 8 8 x.set.den, fieldAt 16 16 x.set.num]
  else if w = 1 then x.set.phase
  else if w = 2 then fieldAt 0 16 x.set.widthUs + flagAt 16 x.staged.isSome
  else x.fired

/-- TRUSS_CFG (Table 15.10) and PORT_STATUS (Table 15.11). -/
def State.trussCfg (s : State) (w : Nat) : Nat :=
  let t := s.truss
  if w = 0 then t.id
  else if w = 1 then word [fieldAt 0 2 t.me, fieldAt 2 2 t.portEn.toNat, fieldAt 4 2 t.noticeCh]
  else if w = 2 then fieldAt 0 29 t.noticeId
  else 0
def State.portWord (s : State) (k w : Nat) : Nat :=
  let x := s.aePort k
  if w = 0 then word [fieldAt 0 4 x.lanes, flagAt 4 x.up, fieldAt 8 2 x.peer]
  else if w = 1 then word ((List.range 8).map fun n => flagAt n (s.isRetired 4 k n))
  else if w = 2 then x.retrains
  else 0

/-- DIVERGENCE (Table 15.12). -/
def State.divergenceWord (s : State) (w : Nat) : Nat :=
  let d := s.truss.divergence
  if w = 0 then d.span % 2 ^ 32 else if w = 1 then d.span / 2 ^ 32 % 2 ^ 32
  else if w = 2 then d.boundary % 2 ^ 32 else if w = 3 then d.boundary / 2 ^ 32 % 2 ^ 32
  else if w = 4 then d.word
  else if w = 6 then d.own % 2 ^ 32 else if w = 7 then d.own / 2 ^ 32 % 2 ^ 32
  else if w = 8 then d.peer % 2 ^ 32 else if w = 9 then d.peer / 2 ^ 32 % 2 ^ 32
  else 0

/-! ### Core sites (Table 6.15, R234, R235, R623) -/

/-- ROLE of a core site. [log 21 DEDUCED] -/
def State.siteRole (s : State) (n p : Nat) : Nat :=
  let d := s.die n
  if s.isFused n p then 3
  else if s.isRetired 0 n p then 2
  else if d.rails ≠ .good then 4
  else if d.failed.contains p then 2
  else if d.order.contains p then 0
  else if d.spares.contains p then 1
  else 4

/-- The word `k` of core site `p` of die `n`. -/
def State.siteWord (s : State) (n p k : Nat) : Nat :=
  let d := s.die n
  let on := d.rails = .good
  let i := 144 * n + p
  let c := Tab.get Counts.rest s.ta.sites i
  let holder := flaskNums.find? fun f => (s.flask f).committed.cores.contains (n, p) || (s.c3 f).slackSites.contains (n, p)
  if k = 0 then
    word ([s.siteRole n p] ++ if on then
      [flagAt 3 (flaskNums.any fun f => (s.c3 f).slackSites.contains (n, p)),
       fieldAt 4 8 (if d.order.contains p then d.order.idxOf p else 0), fieldAt 12 4 (holder.getD 0), flagAt 16 holder.isSome]
      else [])
  else if !on then 0
  else if k = 1 then min counterMax c.sat else if k = 2 then min counterMax c.uf else if k = 3 then min counterMax c.nan
  else if k = 4 then (Config.beatCount n s.now).toNat % 2 ^ 32 else if k = 5 then (Config.beatCount n s.now).toNat / 2 ^ 32
  else 0

/-- Clears SAT_COUNT, UF_COUNT or NAN_COUNT of a core site (R235). -/
def clearSite (n p k : Nat) (s : State) : State :=
  let i := 144 * n + p
  let c := Tab.get Counts.rest s.ta.sites i
  let c : Counts := if k = 1 then { c with sat := 0 } else if k = 2 then { c with uf := 0 } else if k = 3 then { c with nan := 0 } else c
  { s with ta := { s.ta with sites := Tab.set Counts.rest s.ta.sites i c } }

/-! ### What reads clear -/

def clearIf (b : Bool) (v : Nat) : Nat := if b then 0 else v

def clearKv (f w : Nat) (s : State) : State :=
  let x := s.kvCount f
  s.setKvCount f { x with spills := clearIf (w = 0) x.spills, slides := clearIf (w = 1) x.slides
                          holds := clearIf (w = 2) x.holds, late := clearIf (w = 3) x.late }
def clearFork (f w : Nat) (s : State) : State :=
  let x := s.kvCount f
  s.setKvCount f { x with forks := clearIf (w = 0) x.forks, copies := clearIf (w = 1) x.copies
                          skipped := clearIf (w = 3) x.skipped }
/-- MOVED is MiB: what lies below a whole MiB is kept. [log 26 DEDUCED] -/
def clearMoves (f w : Nat) (s : State) : State :=
  let x := s.moveCount f
  s.setMoveCount f { x with late := clearIf (w = 1) x.late, t0Waits := clearIf (w = 2) x.t0Waits
                            movedBytes := if w = 3 then x.movedBytes % 1048576 else x.movedBytes
                            poisonHits := clearIf (w = 4) x.poisonHits }
def clearMap (m w : Nat) (s : State) : State :=
  let x := s.mapTable m
  s.setMapTable m { x with misses := clearIf (w = 2) x.misses, absent := clearIf (w = 3) x.absent
                           badTiles := clearIf (w = 4) x.badTiles }
def clearMemErr (k w : Nat) (s : State) : State :=
  let x := s.memSource k
  s.setMemSource k { x with corrected := clearIf (w = 0) x.corrected, uncorrected := clearIf (w = 1) x.uncorrected }
def clearStream (k w : Nat) (s : State) : State :=
  let x := s.instream k
  s.setInstream k { x with samples := clearIf (w = 1) x.samples, damaged := clearIf (w = 2) x.damaged
                           absent := clearIf (w = 3) x.absent, sat := clearIf (w = 4) x.sat, uf := clearIf (w = 5) x.uf
                           nan := clearIf (w = 6) x.nan, phyErr := clearIf (w = 7) x.phyErr }
def clearTundish (u w : Nat) (s : State) : State :=
  let x := s.tundish u
  s.setTundish u { x with overrun := clearIf (w = 2) x.overrun, skipped := clearIf (w = 3) x.skipped
                          missing := clearIf (w = 4) x.missing, concealed := clearIf (w = 5) x.concealed }
def clearSpatial (w : Nat) (s : State) : State :=
  let x := s.sp
  { s with sp := { x with poseOos := clearIf (w = 0) x.poseOos, alignFail := clearIf (w = 1) x.alignFail
                          octCoarse := clearIf (w = 2) x.octCoarse, outOfExtent := clearIf (w = 3) x.outOfExtent } }
def clearTracks (k w : Nat) (s : State) : State :=
  let x := s.trackSet k
  s.setTrackSet k { x with births := clearIf (w = 2) x.births, birthDrops := clearIf (w = 3) x.birthDrops
                           deletions := clearIf (w = 4) x.deletions, oos := clearIf (w = 5) x.oos
                           badDetections := clearIf (w = 6) x.badDetections }
/-- EXPANSIONS is thousands: what lies below a whole thousand is kept. [log 26 DEDUCED] -/
def clearPlan (f w : Nat) (s : State) : State :=
  let x := s.planCount f
  s.setPlanCount f { x with plans := clearIf (w = 0) x.plans, anytime := clearIf (w = 1) x.anytime
                            noPath := clearIf (w = 2) x.noPath
                            expansions := if w = 3 then x.expansions % 1000 else x.expansions }
def clearLoop (k w : Nat) (s : State) : State :=
  let x := s.loop k
  s.setLoop k { x with samples := clearIf (w = 1) x.samples, stale := clearIf (w = 2) x.stale
                       clamped := clearIf (w = 3) x.clamped, bumps := clearIf (w = 4) x.bumps
                       lateTx := clearIf (w = 5) x.lateTx }
def clearTrips (w : Nat) (s : State) : State :=
  { s with ctl := { s.ctl with trips := clearIf (w = 1) s.ctl.trips } }
def clearQp (p w : Nat) (s : State) : State :=
  let x := s.qp p
  s.setQp p { x with solves := clearIf (w = 5) x.solves, failures := clearIf (w = 6) x.failures
                     shifted := clearIf (w = 7) x.shifted }
/-- TOD_BAD and LOSSES lie in one word. -/
def clearSource (k : Nat) (s : State) : State := s.setSource k { s.source k with todBad := 0, losses := 0 }
def clearTrig (n w : Nat) (s : State) : State :=
  s.setTrig n { s.trig n with fired := clearIf (w = 3) (s.trig n).fired }
def clearDiePower (n w : Nat) (s : State) : State :=
  s.setDiePower n { s.diePower n with meteredEpochs := clearIf (w = 4) (s.diePower n).meteredEpochs }
/-- BALLAST is mJ: what lies below a whole mJ is kept. [log 26 DEDUCED] -/
def clearFlaskPower (f w : Nat) (s : State) : State :=
  let x := s.flaskPower f
  s.setFlaskPower f { x with ballast := if w = 5 then x.ballast % 1000000000 else x.ballast
                             waits := clearIf (w = 6) x.waits }
def clearC3 (f w : Nat) (s : State) : State :=
  let x := s.c3 f
  s.setC3 f { x with votes := clearIf (w = 1) x.votes, voteFails := clearIf (w = 2) x.voteFails
                     tests := clearIf (w = 3) x.tests, testFails := clearIf (w = 4) x.testFails }
def clearClass (c w : Nat) (s : State) : State :=
  let x := s.rclass c
  s.setRclass c { x with delivered := clearIf (w = 3) x.delivered, failures := clearIf (w = 4) x.failures
                         worstAge := clearIf (w = 6) x.worstAge }
def clearErrSource (k w : Nat) (s : State) : State :=
  let x := s.errSource k
  let x : ErrSource := { x with events := clearIf (w = 0) x.events, lasting := clearIf (w = 1) x.lasting }
  { s with safe := { s.safe with sources := s.safe.sources.set k x } }
def clearPort (k w : Nat) (s : State) : State :=
  s.setAePort k { s.aePort k with retrains := clearIf (w = 2) (s.aePort k).retrains }
def clearLockstep (w : Nat) (s : State) : State :=
  { s with truss := { s.truss with spans := clearIf (w = 1) s.truss.spans, drops := clearIf (w = 2) s.truss.drops } }
def clearService (w : Nat) (s : State) : State :=
  let v := s.svc
  { s with svc := { v with diagFrames := clearIf (w = 3) v.diagFrames, diagRefused := clearIf (w = 4) v.diagRefused
                           traceDrops := clearIf (w = 5) v.traceDrops } }

/-! ### The map of the register space (Table 19.8) -/

/-- One block of Table 19.8: `count` groups of `stride` bytes from `base`; what word `w` of group `i` reads as, which words are
low halves of 64-bit registers, what a read clears. -/
structure RegBlock where
  base : Nat
  stride : Nat
  count : Nat := 1
  read : State → Nat → Nat → Nat
  low : List Nat := []
  clear : Nat → Nat → State → State := fun _ _ s => s

/-- Host queues, execution, memory. -/
def regsA : List RegBlock :=
  [ { base := 0, stride := 4, read := fun s _ _ => s.moduleId }
  , { base := 0x110000, stride := 0x28, read := fun s _ w => s.ringWord 0 (4 * w), low := [0, 2, 4]
      clear := fun _ w s => if w = 9 then s.setCtx 0 { s.ctx 0 with dropped := 0 } else s }
  , { base := 0x120000, stride := 4, count := 1024, read := fun s c _ => s.contextStatus c }
  , { base := 0x130000, stride := 12, read := fun s _ w =>
        if w = 0 then s.causeWord.toNat else if w = 1 then s.host.mask.toNat else s.hostifStatus }
  , { base := 0x200000, stride := 0x20, count := 16, read := fun s f w => if w < 4 then s.flaskWord f w (s.flask f).committed else 0 }
  , { base := 0x201000, stride := 0x40, count := 16, read := fun s f w => Tab.get 0 (s.flask f).committed.bw w }
  , { base := 0x202000, stride := 8, read := fun s _ w => if w = 0 then s.ex.lastGen else s.commitStatus }
  , { base := 0x202008, stride := 4, read := fun s _ _ => s.ex.stallMs }
  , { base := 0x203000, stride := 4, read := fun s _ _ => fieldAt 0 15 s.ta.streams.length + fieldAt 16 15 s.ta.streamPeak
      clear := fun _ _ s => { s with ta := { s.ta with streamPeak := 0 } } }
  , { base := 0x208000, stride := 8, count := 16384, low := [0]
      read := fun s o w => if w = 0 then s.syncState o % 2 ^ 32 else s.syncState o / 2 ^ 32 }
  , { base := 0x300000, stride := 0x40, count := 16, read := fun s f w => s.quotaWord f w }
  , { base := 0x301000, stride := 0x34, read := fun s _ w => s.tierWord w }
  , { base := 0x302000, stride := 0x20, count := 16, read := fun s f w => s.migrationWord f w, clear := clearMoves }
  , { base := 0x304000, stride := 0x10, count := 1024, read := fun s c w => if w < 3 then s.ctxQuotaOf c (w + 1) else 0 }
  , { base := 0x308000, stride := 8, read := fun s _ w => s.kvWord w }
  , { base := 0x308100, stride := 0x10, count := 16, read := fun s f w => s.kvCountWord f w, clear := clearKv }
  , { base := 0x309000, stride := 4, read := fun s _ _ => fieldAt 0 15 s.families.length + fieldAt 16 15 s.ta.familyPeak
      clear := fun _ _ s => { s with ta := { s.ta with familyPeak := 0 } } }
  , { base := 0x309100, stride := 0x10, count := 16, read := fun s f w => s.forkWord f w, clear := clearFork }
  , { base := 0x30A000, stride := 0x40, count := 16, read := fun s m w => (s.mapTable m).statusWord w, clear := clearMap }
  , { base := 0x30A800, stride := 12, read := fun s _ w => s.routeWord w }
  , { base := 0x30B000, stride := 4, count := 5
      read := fun s k _ => fieldAt 0 8 (s.memSource k).threshold + fieldAt 8 24 (s.memSource k).windowMs }
  , { base := 0x30B100, stride := 8, count := 5, clear := clearMemErr
      read := fun s k w => if w = 0 then (s.memSource k).corrected else (s.memSource k).uncorrected }
  , { base := 0x30C000, stride := 8, read := fun s _ w => fieldAt 0 25 (if w = 0 then s.xlatUsed else s.mem.xlatPeak)
      clear := fun _ w s => { s with mem := { s.mem with xlatPeak := clearIf (w = 1) s.mem.xlatPeak } } } ]

/-- Ingest, Spatial Engine, Control Engine, time. -/
def regsB : List RegBlock :=
  [ { base := 0x401000, stride := 0x20, count := 128, read := fun s k w => s.streamWord k w, clear := clearStream }
  , { base := 0x402000, stride := 0x20, count := 16, read := fun s u w => s.tundishWord u w, clear := clearTundish }
  , { base := 0x403000, stride := 0x10, read := fun s _ w => s.codecWord w
      clear := fun _ w s => { s with ing := { s.ing with encDrops := clearIf (w = 3) s.ing.encDrops } } }
  , { base := 0x500000, stride := 0x0C, read := fun s _ w => s.spatialWord w }
  , { base := 0x500040, stride := 0x10, read := fun s _ w => s.spatialCount w, clear := fun _ w s => clearSpatial w s }
  , { base := 0x500100, stride := 0x40, low := [0]
      read := fun s _ w => match s.ego with
        | some p => leNat ((p.bytes.drop (4 * w)).take 4)
        | none => 0 }
  , { base := 0x501000, stride := 0x20, count := 8, read := fun s k w => s.trackSetWord k w, clear := clearTracks }
  , { base := 0x502000, stride := 0x10, count := 16, read := fun s f w => s.planWord f w, clear := clearPlan }
  , { base := 0x600000, stride := 0x20, count := 128, read := fun s k w => s.loopWord k w, clear := clearLoop }
  , { base := 0x601000, stride := 0x0C, read := fun s _ w => s.tripWord w, clear := fun _ w s => clearTrips w s }
  , { base := 0x602000, stride := 0x10, count := 16, read := fun s t w => s.traceWord t w }
  , { base := 0x603000, stride := 0x40, count := 8, read := fun s p w => s.qpWord p w, clear := clearQp }
  , { base := 0x604000, stride := 4, read := fun s _ _ => s.solverStore }
  , { base := 0x700000, stride := 0x18, low := [0], read := fun s _ w => s.timeWord w }
  , { base := 0x700020, stride := 8, read := fun s _ w => if w = 0 then (s.calendarAt s.now).1 else (s.calendarAt s.now).2 }
  , { base := 0x700100, stride := 4, count := 10, read := fun s k _ => s.sourceWord k, clear := fun k _ s => clearSource k s }
  , { base := 0x700200, stride := 0x10, count := 24, read := fun s n w => s.trigWord n w, clear := clearTrig } ]

/-- Power, Keystone, trusses, service, compute die windows. -/
def regsC : List RegBlock :=
  [ { base := 0x800000, stride := 0x18, read := fun s _ w => s.powerStatus w }
  , { base := 0x800100, stride := 0x20, count := 4, read := fun s n w => s.diePowerWord n w, clear := clearDiePower }
  , { base := 0x800400, stride := 0x20, count := 16, low := [3], read := fun s f w => s.flaskPowerWord f w, clear := clearFlaskPower }
  , { base := 0x801000, stride := 4, read := fun s _ _ => s.railStatus }
  , { base := 0x801010, stride := 4, count := 4, read := fun s n _ => s.phaseStatus n }
  , { base := 0x801020, stride := 4, read := fun s _ _ => s.startStatus }
  , { base := 0x801030, stride := 4, count := 4, read := fun s n _ => s.coreCount n }
  , { base := 0x801040, stride := 4, read := fun s _ _ => s.sup.resetCause.toNat
      clear := fun _ _ s => { s with sup := { s.sup with resetCause := 0 } } }
  , { base := 0x802000, stride := 0x18, read := fun s _ w => s.thermalWord w }
  , { base := 0x803000, stride := 0x10, low := [2], read := fun s _ w => s.energyWord w }
  , { base := 0x900000, stride := 0x0C, read := fun s _ w => s.safetyStatus w }
  , { base := 0x900010, stride := 0x10, low := [2], read := fun s _ w => s.safeCauseWord w }
  , { base := 0x900100, stride := 8, read := fun s _ w => if w = 0 then s.signalStatus else s.signalFault }
  , { base := 0x900200, stride := 0x20, count := 16, read := fun s f w => s.c3Word f w, clear := clearC3 }
  , { base := 0x901000, stride := 0x20, count := 256, read := fun s c w => s.classWord c w, clear := clearClass }
  , { base := 0x903000, stride := 4, count := 5
      read := fun s k _ => fieldAt 0 8 (s.errSource k).threshold + fieldAt 8 24 (s.errSource k).windowMs }
  , { base := 0x903100, stride := 8, count := 5, clear := clearErrSource
      read := fun s k w => if w = 0 then (s.errSource k).events else (s.errSource k).lasting }
  , { base := 0xA00000, stride := 0x0C, read := fun s _ w => s.trussCfg w }
  , { base := 0xA00010, stride := 8, read := fun s _ w => s.trussStatus w
      clear := fun _ w s => { s with truss := { s.truss with stretchChanges := clearIf (w = 1) s.truss.stretchChanges } } }
  , { base := 0xA00020, stride := 0x10, count := 2, read := fun s k w => s.portWord k w, clear := clearPort }
  , { base := 0xA00100, stride := 0x10, count := 4, read := fun s m w => s.memberWord m w }
  , { base := 0xA00200, stride := 8, low := [0]
      read := fun s _ w => if w = 0 then moduleDigest s % 2 ^ 32 else moduleDigest s / 2 ^ 32 % 2 ^ 32 }
  , { base := 0xA00300, stride := 0x0C, read := fun s _ w => s.lockstepWord w, clear := fun _ w s => clearLockstep w s }
  , { base := 0xA00320, stride := 0x28, low := [0, 2, 6, 8], read := fun s _ w => s.divergenceWord w }
  , { base := 0xB00000, stride := 0x10, count := 10, read := fun s k w => s.fwWord k w }
  , { base := 0xB00100, stride := 0x18, read := fun s _ w => s.serviceWord w, clear := fun _ w s => clearService w s } ]
  ++ dieNums.map fun n =>
    { base := 0x1010000 + 0x400000 * n, stride := 0x20, count := 144, low := [4]
      read := fun s p k => s.siteWord n p k
      clear := fun p k s => if (s.die n).rails = .good then clearSite n p k s else s }

def regs : List RegBlock := regsA ++ regsB ++ regsC

/-- The block, group and word of an offset; none where no table defines it, the mailbox among them (R616). -/
def regAt (off : Nat) : Option (RegBlock × Nat × Nat) :=
  if off % 4 ≠ 0 then none
  else (regs.find? fun r => decide (r.base ≤ off ∧ off < r.base + r.stride * r.count)).map fun r =>
    (r, (off - r.base) / r.stride, (off - r.base) % r.stride / 4)

/-- What the register at an offset holds; 0 where there is none (R616). [log 29 DEDUCED] -/
def State.regWord (s : State) (off : Nat) : Nat :=
  match regAt off with
  | some (r, i, w) => r.read s i w
  | none => 0

/-- A read's effect on an RC field (R11, R13). [log 26 DEDUCED] -/
def clearReg (off : Nat) (s : State) : State :=
  match regAt off with
  | some (r, i, w) => r.clear i w s
  | none => s

/-- The offset is the low half of a 64-bit register (R14). -/
def isLow (off : Nat) : Bool :=
  match regAt off with
  | some (r, _, w) => r.low.contains w
  | none => false

/-- The offsets that a read of a low half latches: its high half; with TB_NOW the calendar (R387), with the TIME of EGO_POSE
the whole record (R453). [log 25 DEDUCED] -/
def latchedBy (off : Nat) : List Nat :=
  if !isLow off then []
  else if off = 0x700000 then [0x700004, 0x700020, 0x700024]
  else if off = 0x500100 then (List.range 15).map fun k => 0x500104 + 4 * k
  else [off + 4]

/-- Reads of these offsets return what a low-half read has latched. -/
def isLatched (off : Nat) : Bool :=
  isLow (off - 4) || off = 0x700020 || off = 0x700024 || decide (0x500104 ≤ off ∧ off < 0x500140)

/-- One word read through a port with its own latches (R14, R601): the word, and the latches after it. -/
def readWith (fn off : Nat) (value : Nat → Nat) (l : Tab Nat) : Nat × Tab Nat :=
  let key := fun o => fn * 2 ^ 32 + o
  if isLatched off then (Tab.get 0 l (key off), l)
  else (value off, (latchedBy off).foldl (fun l o => Tab.set 0 l (key o) (value o)) l)

/-! ### Writes -/

/-- Takes a 64-bit ring base of an anchored context at the write of its high half; reserved low bits read 0, and the set keeps
its value while ENABLE is 1 (R14, Table 4.11). [log 25 DEDUCED] -/
def commitBase (c w v : Nat) (s : State) : State :=
  let x := s.ctx c
  if x.enable then s
  else if w = 0 then s.setCtx c { x with ring := { x.ring with sqBase := v / 4096 * 4096 } }
  else if w = 2 then s.setCtx c { x with ring := { x.ring with cqBase := v / 4096 * 4096 } }
  else s.setCtx c { x with ring := { x.ring with mirror := v / 8 * 8 } }

/-- The low half that a write of a high half completes: the one held, or the register's own. [log 25 DEDUCED] -/
def State.heldLow (s : State) (fn c w : Nat) : Nat :=
  ((s.host.hold.find? fun (x : Nat × Nat) => decide (x.1 = fn * 2 ^ 32 + w)).map (·.2)).getD (s.ringWord c (4 * w))

/-- A write of a word of a function's anchored ring set (R116, Table 4.11). [log 25 DEDUCED] -/
def writeRing (fn w : Nat) (value : Word) (s : State) : State :=
  match s.anchorOf fn with
  | none => s
  | some c =>
    if w = 6 then writeRingCtrl c value.toNat s
    else if w = 0 ∨ w = 2 ∨ w = 4 then
      if (s.ctx c).enable then s
      else { s with host := { s.host with hold := Tab.put s.host.hold (fn * 2 ^ 32 + w) value.toNat } }
    else if w = 1 ∨ w = 3 ∨ w = 5 then
      let v := s.heldLow fn c (w - 1) + 2 ^ 32 * value.toNat
      let s := { s with host := { s.host with hold := Tab.del s.host.hold (fn * 2 ^ 32 + (w - 1)) } }
      commitBase c (w - 1) v s
    else s

/-- A write of the physical function to the module register space: doorbells, ring set, ATTN_MASK, STALL_MS and the W1C
registers; every other register ignores it (R11, Table 19.8). [log 29 DEDUCED] -/
def writeReg (off : Nat) (value : Word) (s : State) : State :=
  if off % 4 ≠ 0 then s
  else if 0x100000 ≤ off ∧ off < 0x110000 then
    let c := (off - 0x100000) / 0x40
    if off % 0x40 = 0 then writeSqTail 0 c value.toNat s
    else if off % 0x40 = 4 then writeCqHead 0 c value.toNat s
    else s
  else if 0x110000 ≤ off ∧ off < 0x110028 then writeRing 0 ((off - 0x110000) / 4) value s
  else if off = 0x130000 then clearAttnCause value s
  else if off = 0x130004 then { s with host := { s.host with mask := value.setWidth 16 ||| 4 } }
  else if off = 0x202008 then writeStallMs value.toNat s
  else if 0x402000 ≤ off ∧ off < 0x402200 ∧ off % 0x20 = 0 then clearTundishStatus ((off - 0x402000) / 0x20) value.toNat s
  else if off = 0x801020 then clearStartStatus value s
  else if off = 0x802014 then clearWarn value s
  else if off = 0x900104 then clearSignalFault value s
  else if off = 0xA00010 then clearStretchLate value s
  else s

/-- A write of a virtual function to its BAR0 (Table 4.10). [log 29 DEDUCED] -/
def writeVf (fn off : Nat) (value : Word) (s : State) : State :=
  if off % 4 ≠ 0 then s
  else if off < 0x10000 then
    if off % 0x40 = 0 then writeSqTail fn (off / 0x40) value.toNat s
    else if off % 0x40 = 4 then writeCqHead fn (off / 0x40) value.toNat s
    else s
  else if off < 0x10028 then writeRing fn ((off - 0x10000) / 4) value s
  else s

/-- What a virtual function's BAR0 reads as (Table 4.10, Table 4.15). -/
def State.vfWord (s : State) (fn off : Nat) : Nat :=
  if off % 4 ≠ 0 then 0
  else if 0x10000 ≤ off ∧ off < 0x10028 then
    match s.anchorOf fn with
    | some c => s.ringWord c (off - 0x10000)
    | none => 0
  else if off = 0x10040 then s.fnInfo fn
  else if off = 0x10044 then s.fnAreas fn
  else 0

end Sys2Proof.Machine
end

