-- ==== Sys2Proof/Machine/RegCmds.lean ====
section
/-!
DEFINITION. The meanings of register accesses that have no row in another chapter, and of the requests of the diagnostic port
(R11 to R14, R235, R600, R601, R617).
-/

namespace Sys2Proof.Machine

/-! ### Register accesses -/

/-- The word that an access returns. -/
def returnWord (v : Nat) (s : State) : State := { s with host := { s.host with readData := v } }

/-- A read of the physical function: the word, what it latches, what it clears (R11, R14). -/
def readPf (off : Nat) (s : State) : State :=
  let r := readWith 0 off s.regWord s.host.latch
  clearReg off (returnWord r.1 { s with host := { s.host with latch := r.2 } })

/-- A read of the low half of a base of a virtual function's ring set (Table 4.10). -/
def readVf (fn off : Nat) (s : State) : State :=
  let low := off = 0x10000 ∨ off = 0x10008 ∨ off = 0x10010
  let l := if low then Tab.set 0 s.host.latch (fn * 2 ^ 32 + off + 4) (s.vfWord fn (off + 4)) else s.host.latch
  returnWord (s.vfWord fn off) { s with host := { s.host with latch := l } }

/-- The offset of word `word` of a core site's registers (Table 6.15). -/
def siteOffset (die site word : Nat) : Nat := 0x1010000 + 0x400000 * die + 0x20 * site + 4 * word

def execConversionCountRead (die site word : Nat) (s : State) : Host.Outcome State Fault Refusal :=
  if s.pfServed ∧ die < 4 ∧ site < 144 ∧ 1 ≤ word ∧ word ≤ 3 then next (readPf (siteOffset die site word) s) else next s

/-- [log 26 DEDUCED] -/
def execRcCounterRead (offset : Nat) (s : State) : Host.Outcome State Fault Refusal :=
  if s.pfServed then next (readPf offset s) else next s

/-- [log 25 DEDUCED] -/
def execLowHalfRead (fn offset : Nat) (s : State) : Host.Outcome State Fault Refusal :=
  if !s.barServed fn then next s
  else if fn = 0 then next (readPf offset s)
  else next (readVf fn offset s)

/-- [log 25 DEDUCED] -/
def execHighHalfWrite (fn offset : Nat) (value : Word) (s : State) : Host.Outcome State Fault Refusal :=
  if !s.barServed fn then next s
  else if fn = 0 then next (writeReg offset value s)
  else next (writeVf fn offset value s)

/-- [log 29 DEDUCED] -/
def execRegisterWrite (fn offset : Nat) (value : Word) (s : State) : Host.Outcome State Fault Refusal :=
  if s.barServed fn then next (if fn = 0 then writeReg offset value s else writeVf fn offset value s) else next s

/-- R617: such a read returns 0 and touches nothing; such a write is ignored. [log 29 DEDUCED] -/
def execUnalignedAccess (offset bytes : Nat) (write : Bool) (s : State) : Host.Outcome State Fault Refusal :=
  if (bytes < 4 ∨ offset % 4 ≠ 0) ∧ !write then next (returnWord 0 s) else next s

/-! ### The diagnostic port (R600, R601, Table 18.5) -/

/-- The service answers this peer on this port: enabled, its link up, from step 12 of Table 3.3. [log 28 DEDUCED] -/
def State.diagServed (s : State) (peer : List Byte) (port : Nat) : Bool :=
  s.svc.diagEn && (s.port 6).up && s.sup.steps.getLsbD 12 && decide (peer = s.svc.diagPeer) && decide (port = s.svc.diagPort)

/-- A response: counted, and counted again where it carries STATUS 1 or 2 (Table 18.9). [log 28 DEDUCED] -/
def diagAnswer (service status seq : Nat) (data : List Nat) (s : State) : State :=
  let v := s.svc
  { s with svc := { v with
      diagReplies := v.diagReplies ++ [{ service := service, status := status, seq := seq, data := data }]
      diagFrames := satInc v.diagFrames
      diagRefused := if status = 0 then v.diagRefused else satInc v.diagRefused } }

/-- Words read one after the other through the port's own latches; no RC field clears (R601). -/
def State.diagRead (s : State) : Nat → Nat → Tab Nat → List Nat × Tab Nat
  | 0, _, l => ([], l)
  | n + 1, off, l =>
    let r := readWith 0 off s.regWord l
    let t := s.diagRead n (off + 4) r.2
    (r.1 :: t.1, t.2)

/-- Offset and count are in words (R617). [log 28 DEDUCED] -/
def execReadWords (peer : List Byte) (port seq offset count : Nat) (s : State) : Host.Outcome State Fault Refusal :=
  if !s.diagServed peer port then next s
  else if 256 < count then next (diagAnswer 1 1 seq [] s)
  else
    let r := s.diagRead count (4 * offset) s.host.diagLatch
    next (diagAnswer 1 0 seq r.1 { s with host := { s.host with diagLatch := r.2 } })

/-- Words written one after the other. -/
def diagWrites : Nat → List Word → State → State
  | _, [], s => s
  | off, w :: ws, s => diagWrites (off + 4) ws (writeReg off w s)

/-- WRITE_WORDS is accepted on FK4-600-LD, with WRITE set, in Depot and Park while ARMED is 0 (Table 18.6). -/
def State.diagMayWrite (s : State) : Bool :=
  s.svc.diagWrite && (s.pa.mode = .depot || s.pa.mode = .park) && !s.safe.armed

/-- [log 28 DEDUCED] -/
def execWriteWords (peer : List Byte) (port seq offset : Nat) (words : List Word) (s : State) :
    Host.Outcome State Fault Refusal :=
  if !s.diagServed peer port then next s
  else if s.fuses.grade ≠ .ld600 then next (diagAnswer 0x10 2 seq [] s)
  else if 256 < words.length ∨ !s.diagMayWrite then next (diagAnswer 0x10 1 seq [] s)
  else next (diagAnswer 0x10 0 seq [] (diagWrites (4 * offset) words s))

/-- Answers with entries of a log; a request whose data would exceed 1,024 bytes is refused (R600). [log 28 DEDUCED] -/
def diagEntries (service seq : Nat) (bytes : List Byte) (s : State) : State :=
  if 1024 < bytes.length then diagAnswer service 1 seq [] s
  else diagAnswer service 0 seq (bytes.map (·.toNat)) s

def execDiagReadServiceLog (peer : List Byte) (port seq first count : Nat) (s : State) : Host.Outcome State Fault Refusal :=
  if !s.diagServed peer port then next s
  else if 32 < count then next (diagAnswer 2 1 seq [] s)
  else next (diagEntries 2 seq (((s.svc.log.drop first).take count).flatMap ServiceEntry.bytes) s)

def execDiagReadSafetyLog (peer : List Byte) (port seq first count : Nat) (s : State) : Host.Outcome State Fault Refusal :=
  if !s.diagServed peer port then next s
  else next (diagEntries 3 seq (safetyBytes ((s.safe.log.drop first).take count)) s)

def execDiagReadRetirement (peer : List Byte) (port seq first count : Nat) (s : State) : Host.Outcome State Fault Refusal :=
  if !s.diagServed peer port then next s
  else if 64 < count then next (diagAnswer 4 1 seq [] s)
  else next (diagEntries 4 seq (((s.sup.record.drop first).take count).flatMap Retired.bytes) s)

end Sys2Proof.Machine
end

