-- ==== Sys2Proof/Machine/StreamCmds.lean ====
section
/-!
DEFINITION. The meanings of the drift and stream commands (spec 06_core_arithmetic.md Table 6.16, 07 Table 7.11).
-/

namespace Sys2Proof.Machine

def execQueryDrift (p : Packet) (s : State) : Host.Outcome State Fault Refusal :=
  command 0x0240 4 false p s fun s t =>
    let j := p.u16 12
    let i := p.u16 14
    if 4096 ≤ j then reserved
    else if !s.jobNamed t j then notPermitted
    else if (s.driftDecl j i).isNone then .reject 2 0x14
    else ok s (leBytes 8 (s.drift j i).word)

/-- A SET_DRIFT packet breaks a range of R236. -/
def driftInvalid (p : Packet) : Bool :=
  let e := twosVal 8 (p.u8 16)
  let lo := twosVal 8 (p.u8 17)
  let hi := twosVal 8 (p.u8 18)
  decide (hi < lo ∨ e < lo ∨ hi < e ∨ e = -128 ∨ lo = -128 ∨ hi = -128)
    || decide (4095 < p.u16 20) || decide (4095 < p.u16 22) || decide (15 < p.u8 24)

def execSetDrift (p : Packet) (s : State) : Host.Outcome State Fault Refusal :=
  command 0x0241 13 false p s fun s t =>
    let j := p.u16 12
    let i := p.u16 14
    let x := s.job j
    if 4096 ≤ j then reserved
    else if !s.jobNamed t j then notPermitted
    else if (s.driftDecl j i).isNone then .reject 2 0x14
    else if driftInvalid p then .reject 2 0x15
    else if x.state = .ended ∨ x.state = .faulted then .reject 2 0x0E
    else
      let d : Drift := { exp := twosVal 8 (p.u8 16), minExp := twosVal 8 (p.u8 17), maxExp := twosVal 8 (p.u8 18)
                         satLimit := p.u16 20, ufLimit := p.u16 22, hold := p.u8 24 }
      .later { s with ta := { s.ta with driftSets := s.ta.driftSets ++ [(j, i, d, some t)] } }

/-- The stream that a command names: a detail code where it is refused. -/
def State.namedStream (s : State) (t : Ticket) (p : Packet) : Except Answer Nat :=
  let j := p.u16 12
  if 4096 ≤ j then .error reserved
  else if !s.jobNamed t j then .error notPermitted
  else match s.streamOf j (p.u16 14) with
    | none => .error (.reject 2 0x1A)
    | some k => .ok k

def execQueryStream (p : Packet) (s : State) : Host.Outcome State Fault Refusal :=
  command 0x0250 4 false p s fun s t =>
    match s.namedStream t p with
    | .error a => a
    | .ok k =>
      let x := s.stream k
      ok s (leBytes 8 x.steps ++ leBytes 8 x.lastTime ++ leBytes 1 (flagAt 0 x.nonfinite + fieldAt 1 3 x.tier) ++ [0, 0, 0]
        ++ leBytes 4 x.state.length)

/-- A command waits for the parting line of the stream's flask (R262 to R264). -/
def queueStream (k : Nat) (o : StreamOp) (s : State) : State :=
  s.setStream k { s.stream k with ops := (s.stream k).ops ++ [o] }

/-- [log 52 DEDUCED] -/
def execResetStream (p : Packet) (s : State) : Host.Outcome State Fault Refusal :=
  command 0x0251 4 false p s fun s t =>
    match s.namedStream t p with
    | .error a => a
    | .ok k => .later (queueStream k (.reset t) s)

/-- A flask in which an export acts at take-up (R262). -/
def FlaskState.still : FlaskState → Bool
  | .created => true | .loaded => true | .stopped => true
  | _ => false

/-- [log 52 DEDUCED] -/
def execExportStream (p : Packet) (s : State) : Host.Outcome State Fault Refusal :=
  command 0x0252 28 false p s fun s t =>
    match s.namedStream t p with
    | .error a => a
    | .ok k =>
      let n := 64 + (s.stream k).state.length
      if 1 < p.u8 16 then reserved
      else if p.u64 32 < n then .reject 2 0x19
      else if p.u8 16 = 1 ∧ (s.accessFault t.ctx (p.u64 24) n true).isSome then .reject 3 6
      else if (s.flask (s.job (p.u16 12)).flask).state.still ∧ (s.stream k).ops = [] then
        let c := s.capsule k
        ok (putBytes t.ctx (p.u8 16 = 1) (p.u64 24) c s) (leBytes 8 c.length ++ leBytes 8 (s.stream k).steps)
      else .later (queueStream k (.exporting t (p.u8 16 = 1) (p.u64 24)) s)

/-- [log 52 DEDUCED] -/
def execImportStream (p : Packet) (s : State) : Host.Outcome State Fault Refusal :=
  command 0x0253 20 false p s fun s t =>
    match s.namedStream t p with
    | .error a => a
    | .ok k =>
      let x := s.stream k
      let inModule := decide (p.u8 16 = 1)
      if 1 < p.u8 16 ∨ 1 < p.u8 17 then reserved
      else if p.u8 16 = 1 ∧ (s.accessFault t.ctx (p.u64 24) 64 false).isSome then .reject 3 6
      else
        let head := s.getBytes t.ctx inModule (p.u64 24) 64
        let len := fieldOf head 32 8
        if 2 ^ 26 < len then .reject 2 0x16
        else if inModule ∧ (s.accessFault t.ctx (p.u64 24) (64 + len) false).isSome then .reject 3 6
        else
          let body := s.getBytes t.ctx inModule (p.u64 24 + 64) len
          let digestOk := decide (fieldOf head 2 2 = moduleDigest s % 65536)
          if crc32c (head.take 60 ++ body) ≠ fieldOf head 60 4 then .reject 2 0x17
          else if fieldOf head 8 8 ≠ x.layout ∨ len ≠ x.state.length then .reject 2 0x16
          else if !digestOk ∧ p.u8 17 = 0 then .reject 2 0x18
          else if (s.flask (s.job (p.u16 12)).flask).cls = 3 ∧ (!digestOk ∨ !bitAt (fieldOf head 40 1) 1) then .reject 2 0x18
          else .later (queueStream k (.importing t (fieldOf head 16 8) (bitAt (fieldOf head 40 1) 0) (!digestOk) body) s)

end Sys2Proof.Machine
end

