-- ==== Sys2Proof/Machine/TimeCmds.lean ====
section
/-!
DEFINITION. The commands of area 0x07, the time source, trigger and Ethernet link events (spec 11_time_and_triggers.md,
R624).
-/

namespace Sys2Proof.Machine

def execQueryTime (p : Packet) (s : State) : Host.Outcome State Fault Refusal :=
  command 0x0701 0 false p s fun s _ =>
    ok s (leBytes 8 s.now ++ leBytes 4 s.tbStatus ++ leBytes 4 s.tbErr ++ leBytes 4 s.tbOffset)

/-- Codes of a log Sync interval from −5 to 0. -/
def logSyncOk (v : Nat) : Bool := v = 0 || decide (0xB ≤ v ∧ v ≤ 0xF)


/-- SET_SOURCE names an option outside Table 11.2 or a link that is not enabled (R397). [log 69 DEDUCED] -/
def State.sourceInvalid (s : State) (p : Packet) : Bool :=
  let k := p.u8 12
  decide (9 < k)
    || (decide (k ≤ 6) && (decide (127 < p.u8 14) || !logSyncOk (p.u8 15 / 16)
          || (!bitAt (p.u8 15) 0 && !(s.port k).enable)
          || (bitAt (p.u8 13) 0 && (List.range 7).any fun j => j ≠ k && (s.source j).enable
                && decide ((s.source j).domain ≠ p.u8 14))))
    || (decide (k = 7) && decide (1 < p.u8 16 ∨ 3 < p.u8 17 ∨ 2 ^ 29 ≤ p.u32 20))

def execSetSource (p : Packet) (s : State) : Host.Outcome State Fault Refusal :=
  command 0x0702 12 true p s fun s _ =>
    let k := p.u8 12
    let gptp := k ≤ 6
    if bitsOf (p.u8 13) 3 1 ≠ 0 ∨ (gptp ∧ bitsOf (p.u8 15) 3 1 ≠ 0) then reserved
    else if s.sourceInvalid p then .reject 7 4
    else
      let master := gptp ∧ bitAt (p.u8 15) 0
      let en := bitAt (p.u8 13) 0 && !(decide master)
      let x := s.source k
      let x := { x with priority := p.u8 13 / 16, enable := en }
      let x := if gptp then { x with master := decide master, domain := p.u8 14, logSync := p.u8 15 / 16 } else x
      let x := if k = 7 then { x with labelCan := p.u8 16 = 1, canChannel := p.u8 17, canId := p.u32 20 } else x
      let s := s.setSource k x
      ok (if en then s else loseSource k s)

def execSetUtcOffset (p : Packet) (s : State) : Host.Outcome State Fault Refusal :=
  command 0x0703 8 true p s fun s _ =>
    let leap := p.u8 14
    let d : DateTime := { year := p.u16 16, month := p.u8 18, day := p.u8 19 }
    if 2 < leap then reserved
    else if leap ≠ 0 ∧ s.impossible d then .reject 7 1
    else if leap ≠ 0 ∧ (d.day ≠ daysIn d.year d.month
        ∨ 86400 * (dayNumber d.year d.month d.day + 1) + p.u16 12 ≤ s.now / 1000000000) then .reject 7 6
    else
      let t := s.tb
      ok (followUtc { s with tb := { t with hostUtc := p.u16 12, leap := leap
                                            leapDay := if leap = 0 then (0, 0, 0) else (d.year, d.month, d.day) } })

/-- Calendar fields of a command (R397). -/
def Packet.date (p : Packet) : DateTime :=
  { year := p.u16 12, month := p.u8 14, day := p.u8 15, hour := p.u8 16, minute := p.u8 17, second := p.u8 18
    ns := p.u32 20 }

def execSetCalendar (p : Packet) (s : State) : Host.Outcome State Fault Refusal :=
  command 0x0704 12 true p s fun s _ =>
    let v := s.taiOf (Packet.date p)
    if s.tb.state ≠ .seeded then .reject 7 3
    else if s.impossible (Packet.date p) then .reject 7 1
    else if v < s.now ∨ s.pacedActive then .reject 7 2
    else
      let d : Int := v - s.now
      let s := shiftSources d { s with now := v }
      ok { s with tb := { s.tb with seedErr := counterMax, since := v } } (leBytes 8 v)

/-- A label arrives (R383). [log 69 DEDUCED] -/
def takeLabel (d : DateTime) (traceable : Bool) (s : State) : State :=
  { s with tb := { s.tb with label := some ⟨s.now, s.taiOf d, traceable⟩ } }

def execSetPpsTod (p : Packet) (s : State) : Host.Outcome State Fault Refusal :=
  command 0x0705 13 true p s fun s _ =>
    if 1 < p.u8 24 then reserved
    else if s.impossible (Packet.date p) then .reject 7 1
    else ok (takeLabel (Packet.date p) (p.u8 24 = 1) s)

/-- A setting breaks R392. -/
def State.trigInvalid (s : State) (x : TrigSet) : Bool :=
  if x.mode = 1 then
    decide (x.num < 1 ∨ 10000 < x.num ∨ x.den < 1 ∨ 255 < x.den ∨ 10000 * x.den < x.num
      ∨ x.block ≤ x.phase * x.num ∨ x.block / max 1 x.num ≤ x.widthUs * 1000)
  else x.mode = 2 && decide (x.shotAt < s.now + 1000000)

def execSetTrigger (p : Packet) (s : State) : Host.Outcome State Fault Refusal :=
  command 0x0706 28 true p s fun s _ =>
    let n := p.u8 12
    let x : TrigSet := { mode := p.u8 13, low := p.u8 14 = 1, num := p.u16 16, den := p.u8 18, phase := p.u32 20
                         widthUs := p.u16 24, shotAt := p.u64 32 }
    if 23 < n ∨ 2 < x.mode ∨ 1 < p.u8 14 then reserved
    else if s.trigInvalid x then .reject 7 5
    else if x.mode = 1 then
      ok (s.setTrig n { s.trig n with staged := some (x, (s.now / max 1 x.block + 1) * x.block) })
    else ok (s.setTrig n { s.trig n with set := x, staged := none })

/-! ### Events of the sources -/

/-- A gPTP message of a port: a Sync with its Follow_Up, with what the grandmaster announces, or a completed link delay
measurement. -/
def execGptpMessage (port : Nat) (msg : Gptp) (s : State) : Host.Outcome State Fault Refusal :=
  let x := s.source port
  if 6 < port ∨ x.master ∨ !x.enable ∨ !(s.port port).up then next s
  else match msg with
    | .delay => next (s.setSource port { x with delayOk := true })
    | .sync domain offset clockClass traceable utc leap err =>
      if domain ≠ x.domain then next s
      else if x.qualified ∧ 1000000 < (offset - x.offset).natAbs then next (loseSource port s)
      else
        let tr := traceable && decide (clockClass = 6 ∨ clockClass = 7)
        let recent := (offset :: x.recent).take 8
        let s := s.setSource port { x with offset := offset, traceable := tr, utc := utc, leap := leap, err := err
                                           recent := recent }
        let near := recent.length = 8 ∧ recent.all fun a => recent.all fun b => decide ((a - b).natAbs ≤ 1000)
        let s := if near ∧ x.delayOk then qualify port s else s
        let s := if s.tb.source = port ∧ leap ≠ 0 then
          let today := dateOf ((s.now / 1000000000 - s.tb.utcOffset) / 86400)
          { s with tb := { s.tb with leap := leap, leapDay := today } } else s
        next (noteTraceable port x.traceable (trackPhase port s))

/-- A PPS_IN edge at a timebase count (R60, R383). -/
def execPpsInEdge (time : Nat) (s : State) : Host.Outcome State Fault Refusal :=
  if s.lines.run ≠ .startUp ∧ s.lines.run ≠ .running then next s
  else
    let s := advance time s
    let t := s.tb
    let x := s.source 7
    let label := t.label.filter fun l => decide (l.arrived + 100000000 ≤ s.now)
    let apart := match t.lastEdge with
      | some e => decide (((s.now : Int) - e - 1000000000).natAbs ≤ 100000)
      | none => false
    let s := { s with lines := { s.lines with ppsSeen := true }
                      tb := { t with lastEdge := some s.now, label := if label.isSome then none else t.label } }
    match label with
    | none => next (loseSource 7 s)
    | some l =>
      let s := s.setSource 7 { x with offset := (l.tai : Int) - s.now, traceable := l.traceable }
      let s := if apart then qualify 7 s else if x.qualified then loseSource 7 s else s
      next (noteTraceable 7 x.traceable (trackPhase 7 s))

/-- No PPS_IN edge for 1.1 s (R376, Table 2.9). -/
def execPpsLost (s : State) : Host.Outcome State Fault Refusal :=
  match s.tb.lastEdge with
  | none => next s
  | some e =>
    let s := advance (e + 1100000000) s
    let s := { s with lines := { s.lines with ppsSeen := false }, tb := { s.tb with lastEdge := none } }
    let s := if s.tb.source = 7 then setFault 5 s else s
    next (loseSource 7 s)

/-- A label by CAN XL (R383). -/
def execPpsTodLabelFrame (channel id year month day hour minute second ns : Nat) (traceable : Bool) (s : State) :
    Host.Outcome State Fault Refusal :=
  let x := s.source 7
  let d : DateTime := ⟨year, month, day, hour, minute, second, ns⟩
  if !x.labelCan ∨ channel ≠ x.canChannel ∨ id ≠ x.canId then next s
  else if s.impossible d then
    let s := s.setSource 7 { x with todBad := min 255 (x.todBad + 1) }
    next { s with tb := { s.tb with label := none } }
  else next (takeLabel d traceable s)

def execSourceQualificationLost (source : Nat) (s : State) : Host.Outcome State Fault Refusal := next (loseSource source s)

def execSourceEligible (source : Nat) (s : State) : Host.Outcome State Fault Refusal :=
  let x := s.source source
  if !x.qualified ∨ x.eligible ∨ !x.enable then next s
  else
    let s := advance (x.since + 2000000000) s
    next (sourceEligible source (s.setSource source { x with eligible := true }))

/-- The phase offset has been removed at no more than 50 ppm (R379). [log 69 DEDUCED] -/
def execSlewComplete (s : State) : Host.Outcome State Fault Refusal :=
  let t := s.tb
  if t.state ≠ .slewing then next s
  else
    let s := shiftSources t.offset (advance (t.since + 20000 * t.offset.natAbs) s)
    next { s with tb := { s.tb with state := .locked, offset := 0 } }

/-- An announced leap second has passed (R390). -/
def execLeapSecond (s : State) : Host.Outcome State Fault Refusal :=
  let t := s.tb
  if t.leap = 0 then next s
  else
    let up := t.leap = 1
    let s1 := advance ((if up then s.leapEnd + 1 else s.leapEnd - 1) * 1000000000) s
    let move := fun (n : Nat) => if up then n + 1 else n - 1
    next { s1 with tb := { t with leap := 0, leapDay := (0, 0, 0), utcOffset := move t.utcOffset, hostUtc := move t.hostUtc } }

/-! ### Triggers -/

/-- A TRIG line fires at its instant (R391); lines follow the timebase from step 8 of start-up (R59).
[log 3 DESIGN CHOICE] -/
def execTriggerPulse (line : Nat) (s : State) : Host.Outcome State Fault Refusal :=
  let x := s.trig line
  let fire := fun (at_ : Nat) (set : TrigSet) =>
    let s := (advance at_ s).setTrig line { x with set := set, fired := satInc x.fired, lastAt := at_ }
    next { s with lines := { s.lines with trigPulses := Tab.put s.lines.trigPulses line
                                            (Tab.get 0 s.lines.trigPulses line + 1) } }
  if !s.lines.trigLive then next s
  else if x.set.mode = 1 then fire (x.set.after (max (s.now - 1) x.lastAt)) x.set
  else if x.set.mode = 2 then fire x.set.shotAt { x.set with mode := 0 }
  else next s

def execTriggerSettingEffect (line : Nat) (s : State) : Host.Outcome State Fault Refusal :=
  let x := s.trig line
  match x.staged with
  | none => next s
  | some (set, t) => next ((advance t s).setTrig line { x with set := set, staged := none })

/-- PPS_OUT rises at a TAI second (R393). -/
def execPpsOutSecond (s : State) : Host.Outcome State Fault Refusal :=
  if !s.lines.trigLive then next s
  else
    let s := { s with now := (s.now / 1000000000 + 1) * 1000000000 }
    next { s with lines := { s.lines with ppsOutEdges := s.lines.ppsOutEdges + 1 } }

/-! ### Ethernet links (R624) -/

/-- [log 70 DEDUCED] -/
def execConfigurePort (p : Packet) (s : State) : Host.Outcome State Fault Refusal :=
  command 0x060F 2 true p s fun s t =>
    let k := p.u8 12
    let v := p.u8 13
    let rate := bitsOf v 3 2
    if 15 < v then reserved
    else if 6 < k ∨ rate = 3 ∨ (3 < k ∧ rate ≠ 0) then .reject 6 0x11
    else
      let old := s.port k
      let s := s.setPort k { old with enable := bitAt v 0, master := bitAt v 1, rate := rate, up := false
                                      ticket := if bitAt v 0 then some t else none }
      let s := loseSource k (finishOpt old.ticket 0 6 0 [0] s)
      if bitAt v 0 then .later s else ok s [0]

/-- [log 70 DEDUCED] -/
def execEthernetLinkUp (port : Nat) (s : State) : Host.Outcome State Fault Refusal :=
  let x := s.port port
  if !x.enable ∨ x.up then next s
  else next (finishOpt x.ticket 0 6 0 [1] (s.setPort port { x with up := true, ticket := none }))

/-- A link drops or does not train: its sources lose qualification; a waiting CONFIGURE_PORT ends with the link down. -/
def execEthernetLinkDown (port : Nat) (s : State) : Host.Outcome State Fault Refusal :=
  let x := s.port port
  if !x.enable then next s
  else next (loseSource port (finishOpt x.ticket 0 6 0 [0] (s.setPort port { x with up := false, ticket := none })))

end Sys2Proof.Machine
end

