-- ==== Sys2Proof/Machine/Dispatch.lean ====
section
/-! DEFINITION. The dispatch of commands to their meanings: one arm per constructor of Instr. -/

namespace Sys2Proof.Machine

def exec (i : Instr) (s : State) : Host.Outcome State Fault Refusal :=
  match i with
  | .nop p => Sys2Proof.Machine.execNop p s
  | .getIdentity p => Sys2Proof.Machine.execGetIdentity p s
  | .readAttention p => Sys2Proof.Machine.execReadAttention p s
  | .ackAttention p => Sys2Proof.Machine.execAckAttention p s
  | .setAttnMask p => Sys2Proof.Machine.execSetAttnMask p s
  | .openContext p => Sys2Proof.Machine.execOpenContext p s
  | .closeContext p => Sys2Proof.Machine.execCloseContext p s
  | .attachContext p => Sys2Proof.Machine.execAttachContext p s
  | .queryContext p => Sys2Proof.Machine.execQueryContext p s
  | .grantFunction p => Sys2Proof.Machine.execGrantFunction p s
  | .revokeFunction p => Sys2Proof.Machine.execRevokeFunction p s
  | .queryOccupancy p => Sys2Proof.Machine.execQueryOccupancy p s
  | .undefinedOpcodePacket opcode p => Sys2Proof.Machine.execUndefinedOpcodePacket opcode p s
  | .createFlask p => Sys2Proof.Machine.execCreateFlask p s
  | .removeFlask p => Sys2Proof.Machine.execRemoveFlask p s
  | .stageFlask p => Sys2Proof.Machine.execStageFlask p s
  | .commitConfig p => Sys2Proof.Machine.execCommitConfig p s
  | .admitTenant p => Sys2Proof.Machine.execAdmitTenant p s
  | .releaseTenant p => Sys2Proof.Machine.execReleaseTenant p s
  | .resetFlask p => Sys2Proof.Machine.execResetFlask p s
  | .queryFlask p => Sys2Proof.Machine.execQueryFlask p s
  | .startFlask p => Sys2Proof.Machine.execStartFlask p s
  | .stopFlask p => Sys2Proof.Machine.execStopFlask p s
  | .loadPourImage p image => Sys2Proof.Machine.execLoadPourImage p image s
  | .startJob p => Sys2Proof.Machine.execStartJob p s
  | .stopJob p => Sys2Proof.Machine.execStopJob p s
  | .queryJob p => Sys2Proof.Machine.execQueryJob p s
  | .unloadJob p => Sys2Proof.Machine.execUnloadJob p s
  | .createSync p => Sys2Proof.Machine.execCreateSync p s
  | .destroySync p => Sys2Proof.Machine.execDestroySync p s
  | .signalSync p => Sys2Proof.Machine.execSignalSync p s
  | .querySync p => Sys2Proof.Machine.execQuerySync p s
  | .submitPour p params results => Sys2Proof.Machine.execSubmitPour p params results s
  | .loadTileProgram p => Sys2Proof.Machine.execLoadTileProgram p s
  | .submitTiles p tasks => Sys2Proof.Machine.execSubmitTiles p tasks s
  | .queryDrift p => Sys2Proof.Machine.execQueryDrift p s
  | .setDrift p => Sys2Proof.Machine.execSetDrift p s
  | .queryStream p => Sys2Proof.Machine.execQueryStream p s
  | .resetStream p => Sys2Proof.Machine.execResetStream p s
  | .exportStream p => Sys2Proof.Machine.execExportStream p s
  | .importStream p => Sys2Proof.Machine.execImportStream p s
  | .allocate p => Sys2Proof.Machine.execAllocate p s
  | .release p => Sys2Proof.Machine.execRelease p s
  | .shareMemory p => Sys2Proof.Machine.execShareMemory p s
  | .pin p => Sys2Proof.Machine.execPin p s
  | .unpin p => Sys2Proof.Machine.execUnpin p s
  | .move p => Sys2Proof.Machine.execMove p s
  | .queryTranslation p => Sys2Proof.Machine.execQueryTranslation p s
  | .setContextQuota p => Sys2Proof.Machine.execSetContextQuota p s
  | .queryMemory p => Sys2Proof.Machine.execQueryMemory p s
  | .setErrorPolicy p => Sys2Proof.Machine.execSetErrorPolicy p s
  | .evacuateStack p => Sys2Proof.Machine.execEvacuateStack p s
  | .createSequence p => Sys2Proof.Machine.execCreateSequence p s
  | .destroySequence p => Sys2Proof.Machine.execDestroySequence p s
  | .querySequence p => Sys2Proof.Machine.execQuerySequence p s
  | .trimSequence p => Sys2Proof.Machine.execTrimSequence p s
  | .forkSequence p => Sys2Proof.Machine.execForkSequence p s
  | .destroyFamily p => Sys2Proof.Machine.execDestroyFamily p s
  | .queryFamily p => Sys2Proof.Machine.execQueryFamily p s
  | .createMapTable p => Sys2Proof.Machine.execCreateMapTable p s
  | .writeMapTiles p => Sys2Proof.Machine.execWriteMapTiles p s
  | .switchMapVersion p => Sys2Proof.Machine.execSwitchMapVersion p s
  | .setRoute p => Sys2Proof.Machine.execSetRoute p s
  | .queryMap p => Sys2Proof.Machine.execQueryMap p s
  | .destroyMapTable p => Sys2Proof.Machine.execDestroyMapTable p s
  | .createTundish p => Sys2Proof.Machine.execCreateTundish p s
  | .destroyTundish p => Sys2Proof.Machine.execDestroyTundish p s
  | .configureStream p point => Sys2Proof.Machine.execConfigureStream p point s
  | .loadRemap p => Sys2Proof.Machine.execLoadRemap p s
  | .queryIngest p => Sys2Proof.Machine.execQueryIngest p s
  | .queryTundish p => Sys2Proof.Machine.execQueryTundish p s
  | .openDecode p => Sys2Proof.Machine.execOpenDecode p s
  | .openEncode p => Sys2Proof.Machine.execOpenEncode p s
  | .closeSession p => Sys2Proof.Machine.execCloseSession p s
  | .querySession p => Sys2Proof.Machine.execQuerySession p s
  | .loadCalibration p => Sys2Proof.Machine.execLoadCalibration p s
  | .switchCalibration p => Sys2Proof.Machine.execSwitchCalibration p s
  | .createProjection p desc => Sys2Proof.Machine.execCreateProjection p desc s
  | .destroyProjection p => Sys2Proof.Machine.execDestroyProjection p s
  | .createTrackSet p params => Sys2Proof.Machine.execCreateTrackSet p params s
  | .destroyTrackSet p => Sys2Proof.Machine.execDestroyTrackSet p s
  | .setTrackParams p params => Sys2Proof.Machine.execSetTrackParams p params s
  | .loadLattice p => Sys2Proof.Machine.execLoadLattice p s
  | .switchLattice p => Sys2Proof.Machine.execSwitchLattice p s
  | .querySpatial p => Sys2Proof.Machine.execQuerySpatial p s
  | .configureLoop p => Sys2Proof.Machine.execConfigureLoop p s
  | .setLoopCoeff p => Sys2Proof.Machine.execSetLoopCoeff p s
  | .openLoop p => Sys2Proof.Machine.execOpenLoop p s
  | .closeLoop p => Sys2Proof.Machine.execCloseLoop p s
  | .setSignal p => Sys2Proof.Machine.execSetSignal p s
  | .setManual p => Sys2Proof.Machine.execSetManual p s
  | .tripLoops p => Sys2Proof.Machine.execTripLoops p s
  | .clearTrip p => Sys2Proof.Machine.execClearTrip p s
  | .loadMaps p => Sys2Proof.Machine.execLoadMaps p s
  | .setGateList p gates => Sys2Proof.Machine.execSetGateList p gates s
  | .loadFfTable p => Sys2Proof.Machine.execLoadFfTable p s
  | .armTrace p => Sys2Proof.Machine.execArmTrace p s
  | .readTrace p => Sys2Proof.Machine.execReadTrace p s
  | .queryLoop p => Sys2Proof.Machine.execQueryLoop p s
  | .createQp p desc => Sys2Proof.Machine.execCreateQp p desc s
  | .destroyQp p => Sys2Proof.Machine.execDestroyQp p s
  | .queryQp p => Sys2Proof.Machine.execQueryQp p s
  | .configurePort p => Sys2Proof.Machine.execConfigurePort p s
  | .queryTime p => Sys2Proof.Machine.execQueryTime p s
  | .setSource p => Sys2Proof.Machine.execSetSource p s
  | .setUtcOffset p => Sys2Proof.Machine.execSetUtcOffset p s
  | .setCalendar p => Sys2Proof.Machine.execSetCalendar p s
  | .setPpsTod p => Sys2Proof.Machine.execSetPpsTod p s
  | .setTrigger p => Sys2Proof.Machine.execSetTrigger p s
  | .setMode p => Sys2Proof.Machine.execSetMode p s
  | .queryPower p => Sys2Proof.Machine.execQueryPower p s
  | .setPowerPolicy p => Sys2Proof.Machine.execSetPowerPolicy p s
  | .setFlaskPower p => Sys2Proof.Machine.execSetFlaskPower p s
  | .queryEnergy p => Sys2Proof.Machine.execQueryEnergy p s
  | .loadEnergyCoeff p => Sys2Proof.Machine.execLoadEnergyCoeff p s
  | .readVoltageTable p => Sys2Proof.Machine.execReadVoltageTable p s
  | .enterStandby p => Sys2Proof.Machine.execEnterStandby p s
  | .resetModule p => Sys2Proof.Machine.execResetModule p s
  | .resetDie p => Sys2Proof.Machine.execResetDie p s
  | .armSafeOut p => Sys2Proof.Machine.execArmSafeOut p s
  | .setResultClass p => Sys2Proof.Machine.execSetResultClass p s
  | .queryResultClass p => Sys2Proof.Machine.execQueryResultClass p s
  | .setSafetyNotice p => Sys2Proof.Machine.execSetSafetyNotice p s
  | .setSafetyErrPolicy p => Sys2Proof.Machine.execSetSafetyErrPolicy p s
  | .querySafety p => Sys2Proof.Machine.execQuerySafety p s
  | .enterSafeState p => Sys2Proof.Machine.execEnterSafeState p s
  | .setC3Layout p => Sys2Proof.Machine.execSetC3Layout p s
  | .revokeFlask p => Sys2Proof.Machine.execRevokeFlask p s
  | .setSafetyTimes p => Sys2Proof.Machine.execSetSafetyTimes p s
  | .readSafetyLog p => Sys2Proof.Machine.execReadSafetyLog p s
  | .setTruss p => Sys2Proof.Machine.execSetTruss p s
  | .queryTruss p => Sys2Proof.Machine.execQueryTruss p s
  | .pairModules p => Sys2Proof.Machine.execPairModules p s
  | .unpair p => Sys2Proof.Machine.execUnpair p s
  | .leaveTruss p => Sys2Proof.Machine.execLeaveTruss p s
  | .readDivergence p => Sys2Proof.Machine.execReadDivergence p s
  | .trussAperture p => Sys2Proof.Machine.execTrussAperture p s
  | .trussCopy p answer => Sys2Proof.Machine.execTrussCopy p answer s
  | .writeImage p image => Sys2Proof.Machine.execWriteImage p image s
  | .activateBank p => Sys2Proof.Machine.execActivateBank p s
  | .confirmBank p => Sys2Proof.Machine.execConfirmBank p s
  | .commitSecurityVersion p => Sys2Proof.Machine.execCommitSecurityVersion p s
  | .reloadFlask p images => Sys2Proof.Machine.execReloadFlask p images s
  | .retireDie p => Sys2Proof.Machine.execRetireDie p s
  | .retireSite p => Sys2Proof.Machine.execRetireSite p s
  | .readmit p => Sys2Proof.Machine.execReadmit p s
  | .readServiceLog p => Sys2Proof.Machine.execReadServiceLog p s
  | .readRetirement p => Sys2Proof.Machine.execReadRetirement p s
  | .setDiagPort p => Sys2Proof.Machine.execSetDiagPort p s
  | .calibrateEnergy p => Sys2Proof.Machine.execCalibrateEnergy p s
  | .injectFault p => Sys2Proof.Machine.execInjectFault p s
  | .setDevTrace p => Sys2Proof.Machine.execSetDevTrace p s
  | .queryService p => Sys2Proof.Machine.execQueryService p s
  | .sqTail fn ctx value => Sys2Proof.Machine.execSqTail fn ctx value s
  | .cqHead fn ctx value => Sys2Proof.Machine.execCqHead fn ctx value s
  | .enable fn value => Sys2Proof.Machine.execEnable fn value s
  | .signalFaultClear value => Sys2Proof.Machine.execSignalFaultClear value s
  | .attnCauseClear value => Sys2Proof.Machine.execAttnCauseClear value s
  | .startStatusClear value => Sys2Proof.Machine.execStartStatusClear value s
  | .stretchLateClear value => Sys2Proof.Machine.execStretchLateClear value s
  | .tundishStatusClear tundish value => Sys2Proof.Machine.execTundishStatusClear tundish value s
  | .warnClear value => Sys2Proof.Machine.execWarnClear value s
  | .stallMs value => Sys2Proof.Machine.execStallMs value s
  | .resetCauseRead => Sys2Proof.Machine.execResetCauseRead s
  | .droppedRead fn => Sys2Proof.Machine.execDroppedRead fn s
  | .conversionCountRead die site word => Sys2Proof.Machine.execConversionCountRead die site word s
  | .rcCounterRead offset => Sys2Proof.Machine.execRcCounterRead offset s
  | .lowHalfRead fn offset => Sys2Proof.Machine.execLowHalfRead fn offset s
  | .highHalfWrite fn offset value => Sys2Proof.Machine.execHighHalfWrite fn offset value s
  | .registerWrite fn offset value => Sys2Proof.Machine.execRegisterWrite fn offset value s
  | .unalignedAccess offset bytes write => Sys2Proof.Machine.execUnalignedAccess offset bytes write s
  | .smbusBlockRead command => Sys2Proof.Machine.execSmbusBlockRead command s
  | .smbusWrite command data => Sys2Proof.Machine.execSmbusWrite command data s
  | .alertResponse => Sys2Proof.Machine.execAlertResponse s
  | .readWords peer port seq offset count => Sys2Proof.Machine.execReadWords peer port seq offset count s
  | .writeWords peer port seq offset words => Sys2Proof.Machine.execWriteWords peer port seq offset words s
  | .diagReadServiceLog peer port seq first count => Sys2Proof.Machine.execDiagReadServiceLog peer port seq first count s
  | .diagReadSafetyLog peer port seq first count => Sys2Proof.Machine.execDiagReadSafetyLog peer port seq first count s
  | .diagReadRetirement peer port seq first count => Sys2Proof.Machine.execDiagReadRetirement peer port seq first count s
  | .coldStart straps ksOk ksOtherOk rtc => Sys2Proof.Machine.execColdStart straps ksOk ksOtherOk rtc s
  | .kaLoss => Sys2Proof.Machine.execKaLoss s
  | .keystoneLost => Sys2Proof.Machine.execKeystoneLost s
  | .kaDip => Sys2Proof.Machine.execKaDip s
  | .kaOutOfRange inBand => Sys2Proof.Machine.execKaOutOfRange inBand s
  | .wakeAccepted => Sys2Proof.Machine.execWakeAccepted s
  | .wakeFall => Sys2Proof.Machine.execWakeFall s
  | .startUp boot railsGood hubGood => Sys2Proof.Machine.execStartUp boot railsGood hubGood s
  | .bistPass1Complete die failing => Sys2Proof.Machine.execBistPass1Complete die failing s
  | .hostRdyRise speed width => Sys2Proof.Machine.execHostRdyRise speed width s
  | .fullCompute failing => Sys2Proof.Machine.execFullCompute failing s
  | .railSoftStartTimeout rail => Sys2Proof.Machine.execRailSoftStartTimeout rail s
  | .railRetry rail good => Sys2Proof.Machine.execRailRetry rail good s
  | .ibcRegulationTimeout ibc => Sys2Proof.Machine.execIbcRegulationTimeout ibc s
  | .openPhase die phase => Sys2Proof.Machine.execOpenPhase die phase s
  | .senseLocalisation die phase => Sys2Proof.Machine.execSenseLocalisation die phase s
  | .railUndervoltage rail => Sys2Proof.Machine.execRailUndervoltage rail s
  | .vinLoss => Sys2Proof.Machine.execVinLoss s
  | .vinExtendedRange => Sys2Proof.Machine.execVinExtendedRange s
  | .vinLowExt => Sys2Proof.Machine.execVinLowExt s
  | .vinCapLift => Sys2Proof.Machine.execVinCapLift s
  | .standbyReached => Sys2Proof.Machine.execStandbyReached s
  | .moduleResetBegin boot => Sys2Proof.Machine.execModuleResetBegin boot s
  | .mpHeartbeatMissed => Sys2Proof.Machine.execMpHeartbeatMissed s
  | .paHeartbeatMissed => Sys2Proof.Machine.execPaHeartbeatMissed s
  | .dieResetComplete die test => Sys2Proof.Machine.execDieResetComplete die test s
  | .pciePerstNAssert => Sys2Proof.Machine.execPciePerstNAssert s
  | .pciePerstNRelease => Sys2Proof.Machine.execPciePerstNRelease s
  | .linkDown => Sys2Proof.Machine.execLinkDown s
  | .functionLevelReset fn => Sys2Proof.Machine.execFunctionLevelReset fn s
  | .flrComplete fn => Sys2Proof.Machine.execFlrComplete fn s
  | .d3hot fn => Sys2Proof.Machine.execD3hot fn s
  | .hostDmaFailure ctx seq => Sys2Proof.Machine.execHostDmaFailure ctx seq s
  | .interimReply ctx seq => Sys2Proof.Machine.execInterimReply ctx seq s
  | .msixInterrupt ctx => Sys2Proof.Machine.execMsixInterrupt ctx s
  | .tripInputAssert line => Sys2Proof.Machine.execTripInputAssert line s
  | .tripInputDeassert line => Sys2Proof.Machine.execTripInputDeassert line s
  | .safeOutReadbackError line => Sys2Proof.Machine.execSafeOutReadbackError line s
  | .ppsInEdge time => Sys2Proof.Machine.execPpsInEdge time s
  | .ppsLost => Sys2Proof.Machine.execPpsLost s
  | .ppsTodLabelFrame channel id year month day hour minute second ns traceable => Sys2Proof.Machine.execPpsTodLabelFrame channel id year month day hour minute second ns traceable s
  | .gptpMessage port msg => Sys2Proof.Machine.execGptpMessage port msg s
  | .sourceQualificationLost source => Sys2Proof.Machine.execSourceQualificationLost source s
  | .sourceEligible source => Sys2Proof.Machine.execSourceEligible source s
  | .slewComplete => Sys2Proof.Machine.execSlewComplete s
  | .leapSecond => Sys2Proof.Machine.execLeapSecond s
  | .triggerPulse line => Sys2Proof.Machine.execTriggerPulse line s
  | .triggerSettingEffect line => Sys2Proof.Machine.execTriggerSettingEffect line s
  | .ppsOutSecond => Sys2Proof.Machine.execPpsOutSecond s
  | .spanBoundary data => Sys2Proof.Machine.execSpanBoundary data s
  | .paceOverrun job step => Sys2Proof.Machine.execPaceOverrun job step s
  | .partingLine flask => Sys2Proof.Machine.execPartingLine flask s
  | .seriesTimeout generation => Sys2Proof.Machine.execSeriesTimeout generation s
  | .reloadSwap flask => Sys2Proof.Machine.execReloadSwap flask s
  | .reloadTimeout flask => Sys2Proof.Machine.execReloadTimeout flask s
  | .jobPlacement flask => Sys2Proof.Machine.execJobPlacement flask s
  | .entryIssue engine queue => Sys2Proof.Machine.execEntryIssue engine queue s
  | .coreStepFire job step hit => Sys2Proof.Machine.execCoreStepFire job step hit s
  | .entryComplete engine queue entry agree unit => Sys2Proof.Machine.execEntryComplete engine queue entry agree unit s
  | .jobStall job => Sys2Proof.Machine.execJobStall job s
  | .flaskResetComplete flask => Sys2Proof.Machine.execFlaskResetComplete flask s
  | .revocationConfirm flask block => Sys2Proof.Machine.execRevocationConfirm flask block s
  | .revokeTimeout flask block => Sys2Proof.Machine.execRevokeTimeout flask block s
  | .nopEntry engine queue entry => Sys2Proof.Machine.execNopEntry engine queue entry s
  | .conv queue entry core rec_ ep ts => Sys2Proof.Machine.execConv queue entry core rec_ ep ts s
  | .dwconv queue entry core rec_ ep ts => Sys2Proof.Machine.execDwconv queue entry core rec_ ep ts s
  | .s2c queue entry rec_ ts => Sys2Proof.Machine.execS2c queue entry rec_ ts s
  | .c2s queue entry rec_ ts => Sys2Proof.Machine.execC2s queue entry rec_ ts s
  | .recur queue entry core rec_ ts row => Sys2Proof.Machine.execRecur queue entry core rec_ ts row s
  | .ssmStep queue entry core rec_ ts row => Sys2Proof.Machine.execSsmStep queue entry core rec_ ts row s
  | .scan queue entry core rec_ ts row => Sys2Proof.Machine.execScan queue entry core rec_ ts row s
  | .kvAppend queue entry core rec_ ts => Sys2Proof.Machine.execKvAppend queue entry core rec_ ts s
  | .attend queue entry core rec_ ts => Sys2Proof.Machine.execAttend queue entry core rec_ ts s
  | .attendPacked queue entry core rec_ ts => Sys2Proof.Machine.execAttendPacked queue entry core rec_ ts s
  | .kvFork queue entry => Sys2Proof.Machine.execKvFork queue entry s
  | .sample queue entry rec_ ts => Sys2Proof.Machine.execSample queue entry rec_ ts s
  | .vqEncode queue entry rows entries width ts => Sys2Proof.Machine.execVqEncode queue entry rows entries width ts s
  | .codeGather queue entry rows entries width ts => Sys2Proof.Machine.execCodeGather queue entry rows entries width ts s
  | .tableGather queue entry rec_ => Sys2Proof.Machine.execTableGather queue entry rec_ s
  | .bevLift queue entry core table chans pitch ts => Sys2Proof.Machine.execBevLift queue entry core table chans pitch ts s
  | .gradW queue entry core k n split ts => Sys2Proof.Machine.execGradW queue entry core k n split ts s
  | .attendGrad queue entry core rec_ ts => Sys2Proof.Machine.execAttendGrad queue entry core rec_ ts s
  | .optStep queue entry rec_ => Sys2Proof.Machine.execOptStep queue entry rec_ s
  | .quantize queue entry core k n ts => Sys2Proof.Machine.execQuantize queue entry core k n ts s
  | .copy queue entry bytes => Sys2Proof.Machine.execCopy queue entry bytes s
  | .fill queue entry bytes pattern => Sys2Proof.Machine.execFill queue entry bytes pattern s
  | .raise queue entry pages tier stack place => Sys2Proof.Machine.execRaise queue entry pages tier stack place s
  | .lower queue entry pages tier => Sys2Proof.Machine.execLower queue entry pages tier s
  | .rehome queue entry pages tier stack => Sys2Proof.Machine.execRehome queue entry pages tier stack s
  | .migrationCopyComplete page => Sys2Proof.Machine.execMigrationCopyComplete page s
  | .frameClearComplete frame => Sys2Proof.Machine.execFrameClearComplete frame s
  | .memoryError source unit uncorrectable frame line reader => Sys2Proof.Machine.execMemoryError source unit uncorrectable frame line reader s
  | .errorCounterLeak kind source unit => Sys2Proof.Machine.execErrorCounterLeak kind source unit s
  | .scrubPass store => Sys2Proof.Machine.execScrubPass store s
  | .relocationComplete page => Sys2Proof.Machine.execRelocationComplete page s
  | .takeBatch queue entry tundish early => Sys2Proof.Machine.execTakeBatch queue entry tundish early s
  | .decodeAu queue entry session time au => Sys2Proof.Machine.execDecodeAu queue entry session time au s
  | .flush queue entry session => Sys2Proof.Machine.execFlush queue entry session s
  | .posePush queue entry extrapUs => Sys2Proof.Machine.execPosePush queue entry extrapUs s
  | .alignPoints queue entry slot => Sys2Proof.Machine.execAlignPoints queue entry slot s
  | .trackUpdate queue entry set most => Sys2Proof.Machine.execTrackUpdate queue entry set most s
  | .costmapBuild queue entry rec_ => Sys2Proof.Machine.execCostmapBuild queue entry rec_ s
  | .octreeBuild queue entry rec_ => Sys2Proof.Machine.execOctreeBuild queue entry rec_ s
  | .plan queue entry rec_ => Sys2Proof.Machine.execPlan queue entry rec_ s
  | .publishTraj queue entry slot => Sys2Proof.Machine.execPublishTraj queue entry slot s
  | .qpUpdate queue entry problem => Sys2Proof.Machine.execQpUpdate queue entry problem s
  | .qpSolve queue entry problem stopAfter => Sys2Proof.Machine.execQpSolve queue entry problem stopAfter s
  | .csi2FrameStart stream time => Sys2Proof.Machine.execCsi2FrameStart stream time s
  | .csi2Line stream line => Sys2Proof.Machine.execCsi2Line stream line s
  | .csi2FrameEnd stream phyErr => Sys2Proof.Machine.execCsi2FrameEnd stream phyErr s
  | .pointPacket stream time data phyErr => Sys2Proof.Machine.execPointPacket stream time data phyErr s
  | .tundishClose tundish ref => Sys2Proof.Machine.execTundishClose tundish ref s
  | .tundishWarn tundish ref => Sys2Proof.Machine.execTundishWarn tundish ref s
  | .encodeAuComplete session irap room data => Sys2Proof.Machine.execEncodeAuComplete session irap room data s
  | .receiveFrame medium port vlan id mac time payload => Sys2Proof.Machine.execReceiveFrame medium port vlan id mac time payload s
  | .loopSample channel => Sys2Proof.Machine.execLoopSample channel s
  | .loopOutputInstant channel => Sys2Proof.Machine.execLoopOutputInstant channel s
  | .ffTableSwitch table => Sys2Proof.Machine.execFfTableSwitch table s
  | .gateCycleStart port => Sys2Proof.Machine.execGateCycleStart port s
  | .routePrefetchTick => Sys2Proof.Machine.execRoutePrefetchTick s
  | .tileBlockFetched table key good => Sys2Proof.Machine.execTileBlockFetched table key good s
  | .radiusMode radius => Sys2Proof.Machine.execRadiusMode radius s
  | .projectionBuildComplete => Sys2Proof.Machine.execProjectionBuildComplete s
  | .imageWriteComplete component => Sys2Proof.Machine.execImageWriteComplete component s
  | .keystoneRestart verifies passes => Sys2Proof.Machine.execKeystoneRestart verifies passes s
  | .epochStart r => Sys2Proof.Machine.execEpochStart r s
  | .thermalLimit group => Sys2Proof.Machine.execThermalLimit group s
  | .stretchRequestFall => Sys2Proof.Machine.execStretchRequestFall s
  | .modelDrift => Sys2Proof.Machine.execModelDrift s
  | .coeffBankSwitch => Sys2Proof.Machine.execCoeffBankSwitch s
  | .stretchNotice member request time => Sys2Proof.Machine.execStretchNotice member request time s
  | .stretchBoundary flask => Sys2Proof.Machine.execStretchBoundary flask s
  | .hello port member trussId moduleId hops => Sys2Proof.Machine.execHello port member trussId moduleId hops s
  | .helloTimeout member => Sys2Proof.Machine.execHelloTimeout member s
  | .helloSend => Sys2Proof.Machine.execHelloSend s
  | .leaveMessage member => Sys2Proof.Machine.execLeaveMessage member s
  | .timeMessage port offset tbState traceable err => Sys2Proof.Machine.execTimeMessage port offset tbState traceable err s
  | .timeFollowTimeout => Sys2Proof.Machine.execTimeFollowTimeout s
  | .configurationDigest member digest => Sys2Proof.Machine.execConfigurationDigest member digest s
  | .configurationDigestSend => Sys2Proof.Machine.execConfigurationDigestSend s
  | .signatureMessage member flask span sigs => Sys2Proof.Machine.execSignatureMessage member flask span sigs s
  | .signatureTimeout flask span => Sys2Proof.Machine.execSignatureTimeout flask span s
  | .pairTimeout => Sys2Proof.Machine.execPairTimeout s
  | .comparisonStart flask => Sys2Proof.Machine.execComparisonStart flask s
  | .aetheolinkLaneFailure port lane => Sys2Proof.Machine.execAetheolinkLaneFailure port lane s
  | .retrainComplete port => Sys2Proof.Machine.execRetrainComplete port s
  | .apertureWrite member aperture offset bytes => Sys2Proof.Machine.execApertureWrite member aperture offset bytes s
  | .safeStateNotice => Sys2Proof.Machine.execSafeStateNotice s
  | .keystoneHalfMismatch => Sys2Proof.Machine.execKeystoneHalfMismatch s
  | .partitionAudit tags => Sys2Proof.Machine.execPartitionAudit tags s
  | .translationAudit read => Sys2Proof.Machine.execTranslationAudit read s
  | .duplexCheck flask job step d => Sys2Proof.Machine.execDuplexCheck flask job step d s
  | .slackRerunComplete flask job step sig => Sys2Proof.Machine.execSlackRerunComplete flask job step sig s
  | .slackWindowEnd flask job step => Sys2Proof.Machine.execSlackWindowEnd flask job step s
  | .checkerTest flask checker found => Sys2Proof.Machine.execCheckerTest flask checker found s
  | .eoiExpiry flask => Sys2Proof.Machine.execEoiExpiry flask s
  | .resultStale cls => Sys2Proof.Machine.execResultStale cls s
  | .clockFault hub => Sys2Proof.Machine.execClockFault hub s
  | .viaductLaneFailure link lane => Sys2Proof.Machine.execViaductLaneFailure link lane s
  | .ethernetLinkUp port => Sys2Proof.Machine.execEthernetLinkUp port s
  | .ethernetLinkDown port => Sys2Proof.Machine.execEthernetLinkDown port s
  | .ibcRegulationLoss ibc => Sys2Proof.Machine.execIbcRegulationLoss ibc s
  | .tileTaskComplete flask core => Sys2Proof.Machine.execTileTaskComplete flask core s
  | .transmitFrameSent map => Sys2Proof.Machine.execTransmitFrameSent map s
  | .sriovVfEnable numVf => Sys2Proof.Machine.execSriovVfEnable numVf s
  | .pcieLinkDegraded speed width => Sys2Proof.Machine.execPcieLinkDegraded speed width s
  | .energySuiteComplete events leak => Sys2Proof.Machine.execEnergySuiteComplete events leak s
  | .qpSymbolicFactorComplete problem => Sys2Proof.Machine.execQpSymbolicFactorComplete problem s
  | .mapTileWriteComplete table => Sys2Proof.Machine.execMapTileWriteComplete table s

end Sys2Proof.Machine
end

