-- ==== Sys2Proof/WellFormed.lean ====
section
/-!
DEFINITION. Which commands are well formed: operands that name a numbered unit of the block lie in the range the spec gives
the unit. A command outside them cannot arise; its meaning leaves the state as it is or refuses it as the spec says.
-/

namespace Sys2Proof

/-- A packet of 64 bytes in the ring of one of 1,024 contexts (Table 4.3, R114). -/
def Packet.wf (p : Packet) : Bool := decide (p.ring < 1024) && decide (p.params.length ≤ 52)

/-- One of 1,024 contexts (R114). -/
def ctxOk (c : Nat) : Bool := decide (c < 1024)
/-- The physical function, 0, or one of 255 virtual functions (Table 4.13). -/
def fnOk (f : Nat) : Bool := decide (f < 256)
/-- One of 16 flasks (chapter 1). [log 35 DEDUCED] -/
def flaskOk (f : Nat) : Bool := decide (f < 16)
/-- One of 16 tundishes (R413). -/
def tundishOk (u : Nat) : Bool := decide (u < 16)
/-- One of 4 members of a truss (R495). -/
def memberOk (m : Nat) : Bool := decide (m < 4)
/-- One of 4 stacks (chapter 1). -/
def stackOk (n : Nat) : Bool := decide (n < 4)

/-- The command is well formed. [log 117 DESIGN CHOICE] -/
def Instr.wf (i : Instr) : Bool :=
  match i with
  | .nop p => p.wf
  | .getIdentity p => p.wf
  | .readAttention p => p.wf
  | .ackAttention p => p.wf
  | .setAttnMask p => p.wf
  | .openContext p => p.wf
  | .closeContext p => p.wf
  | .attachContext p => p.wf
  | .queryContext p => p.wf
  | .grantFunction p => p.wf
  | .revokeFunction p => p.wf
  | .queryOccupancy p => p.wf
  | .undefinedOpcodePacket _ p => p.wf
  | .createFlask p => p.wf
  | .removeFlask p => p.wf
  | .stageFlask p => p.wf
  | .commitConfig p => p.wf
  | .admitTenant p => p.wf
  | .releaseTenant p => p.wf
  | .resetFlask p => p.wf
  | .queryFlask p => p.wf
  | .startFlask p => p.wf
  | .stopFlask p => p.wf
  | .loadPourImage p _ => p.wf
  | .startJob p => p.wf
  | .stopJob p => p.wf
  | .queryJob p => p.wf
  | .unloadJob p => p.wf
  | .createSync p => p.wf
  | .destroySync p => p.wf
  | .signalSync p => p.wf
  | .querySync p => p.wf
  | .submitPour p _ _ => p.wf
  | .loadTileProgram p => p.wf
  | .submitTiles p _ => p.wf
  | .queryDrift p => p.wf
  | .setDrift p => p.wf
  | .queryStream p => p.wf
  | .resetStream p => p.wf
  | .exportStream p => p.wf
  | .importStream p => p.wf
  | .allocate p => p.wf
  | .release p => p.wf
  | .shareMemory p => p.wf
  | .pin p => p.wf
  | .unpin p => p.wf
  | .move p => p.wf
  | .queryTranslation p => p.wf
  | .setContextQuota p => p.wf
  | .queryMemory p => p.wf
  | .setErrorPolicy p => p.wf
  | .evacuateStack p => p.wf
  | .createSequence p => p.wf
  | .destroySequence p => p.wf
  | .querySequence p => p.wf
  | .trimSequence p => p.wf
  | .forkSequence p => p.wf
  | .destroyFamily p => p.wf
  | .queryFamily p => p.wf
  | .createMapTable p => p.wf
  | .writeMapTiles p => p.wf
  | .switchMapVersion p => p.wf
  | .setRoute p => p.wf
  | .queryMap p => p.wf
  | .destroyMapTable p => p.wf
  | .createTundish p => p.wf
  | .destroyTundish p => p.wf
  | .configureStream p _ => p.wf
  | .loadRemap p => p.wf
  | .queryIngest p => p.wf
  | .queryTundish p => p.wf
  | .openDecode p => p.wf
  | .openEncode p => p.wf
  | .closeSession p => p.wf
  | .querySession p => p.wf
  | .loadCalibration p => p.wf
  | .switchCalibration p => p.wf
  | .createProjection p _ => p.wf
  | .destroyProjection p => p.wf
  | .createTrackSet p _ => p.wf
  | .destroyTrackSet p => p.wf
  | .setTrackParams p _ => p.wf
  | .loadLattice p => p.wf
  | .switchLattice p => p.wf
  | .querySpatial p => p.wf
  | .configureLoop p => p.wf
  | .setLoopCoeff p => p.wf
  | .openLoop p => p.wf
  | .closeLoop p => p.wf
  | .setSignal p => p.wf
  | .setManual p => p.wf
  | .tripLoops p => p.wf
  | .clearTrip p => p.wf
  | .loadMaps p => p.wf
  | .setGateList p _ => p.wf
  | .loadFfTable p => p.wf
  | .armTrace p => p.wf
  | .readTrace p => p.wf
  | .queryLoop p => p.wf
  | .createQp p _ => p.wf
  | .destroyQp p => p.wf
  | .queryQp p => p.wf
  | .configurePort p => p.wf
  | .queryTime p => p.wf
  | .setSource p => p.wf
  | .setUtcOffset p => p.wf
  | .setCalendar p => p.wf
  | .setPpsTod p => p.wf
  | .setTrigger p => p.wf
  | .setMode p => p.wf
  | .queryPower p => p.wf
  | .setPowerPolicy p => p.wf
  | .setFlaskPower p => p.wf
  | .queryEnergy p => p.wf
  | .loadEnergyCoeff p => p.wf
  | .readVoltageTable p => p.wf
  | .enterStandby p => p.wf
  | .resetModule p => p.wf
  | .resetDie p => p.wf
  | .armSafeOut p => p.wf
  | .setResultClass p => p.wf
  | .queryResultClass p => p.wf
  | .setSafetyNotice p => p.wf
  | .setSafetyErrPolicy p => p.wf
  | .querySafety p => p.wf
  | .enterSafeState p => p.wf
  | .setC3Layout p => p.wf
  | .revokeFlask p => p.wf
  | .setSafetyTimes p => p.wf
  | .readSafetyLog p => p.wf
  | .setTruss p => p.wf
  | .queryTruss p => p.wf
  | .pairModules p => p.wf
  | .unpair p => p.wf
  | .leaveTruss p => p.wf
  | .readDivergence p => p.wf
  | .trussAperture p => p.wf
  | .trussCopy p _ => p.wf
  | .writeImage p _ => p.wf
  | .activateBank p => p.wf
  | .confirmBank p => p.wf
  | .commitSecurityVersion p => p.wf
  | .reloadFlask p _ => p.wf
  | .retireDie p => p.wf
  | .retireSite p => p.wf
  | .readmit p => p.wf
  | .readServiceLog p => p.wf
  | .readRetirement p => p.wf
  | .setDiagPort p => p.wf
  | .calibrateEnergy p => p.wf
  | .injectFault p => p.wf
  | .setDevTrace p => p.wf
  | .queryService p => p.wf
  | .sqTail fn ctx _ => fnOk fn && ctxOk ctx
  | .cqHead fn ctx _ => fnOk fn && ctxOk ctx
  | .enable fn _ => fnOk fn
  | .signalFaultClear _ => true
  | .attnCauseClear _ => true
  | .startStatusClear _ => true
  | .stretchLateClear _ => true
  | .tundishStatusClear tundish _ => tundishOk tundish
  | .warnClear _ => true
  | .stallMs _ => true
  | .resetCauseRead => true
  | .droppedRead fn => fnOk fn
  | .conversionCountRead _ _ _ => true
  | .rcCounterRead _ => true
  | .lowHalfRead fn _ => fnOk fn
  | .highHalfWrite fn _ _ => fnOk fn
  | .registerWrite fn _ _ => fnOk fn
  | .unalignedAccess _ _ _ => true
  | .smbusBlockRead _ => true
  | .smbusWrite _ _ => true
  | .alertResponse => true
  | .readWords _ _ _ _ _ => true
  | .writeWords _ _ _ _ _ => true
  | .diagReadServiceLog _ _ _ _ _ => true
  | .diagReadSafetyLog _ _ _ _ _ => true
  | .diagReadRetirement _ _ _ _ _ => true
  | .coldStart _ _ _ _ => true
  | .kaLoss => true
  | .keystoneLost => true
  | .kaDip => true
  | .kaOutOfRange _ => true
  | .wakeAccepted => true
  | .wakeFall => true
  | .startUp _ _ _ => true
  | .bistPass1Complete _ _ => true
  | .hostRdyRise _ _ => true
  | .fullCompute _ => true
  | .railSoftStartTimeout _ => true
  | .railRetry _ _ => true
  | .ibcRegulationTimeout _ => true
  | .openPhase _ _ => true
  | .senseLocalisation _ _ => true
  | .railUndervoltage _ => true
  | .vinLoss => true
  | .vinExtendedRange => true
  | .vinLowExt => true
  | .vinCapLift => true
  | .standbyReached => true
  | .moduleResetBegin _ => true
  | .mpHeartbeatMissed => true
  | .paHeartbeatMissed => true
  | .dieResetComplete _ _ => true
  | .pciePerstNAssert => true
  | .pciePerstNRelease => true
  | .linkDown => true
  | .functionLevelReset fn => fnOk fn
  | .flrComplete fn => fnOk fn
  | .d3hot fn => fnOk fn
  | .hostDmaFailure ctx _ => ctxOk ctx
  | .interimReply ctx _ => ctxOk ctx
  | .msixInterrupt ctx => ctxOk ctx
  | .tripInputAssert _ => true
  | .tripInputDeassert _ => true
  | .safeOutReadbackError _ => true
  | .ppsInEdge _ => true
  | .ppsLost => true
  | .ppsTodLabelFrame _ _ _ _ _ _ _ _ _ _ => true
  | .gptpMessage _ _ => true
  | .sourceQualificationLost _ => true
  | .sourceEligible _ => true
  | .slewComplete => true
  | .leapSecond => true
  | .triggerPulse _ => true
  | .triggerSettingEffect _ => true
  | .ppsOutSecond => true
  | .spanBoundary _ => true
  | .paceOverrun _ _ => true
  | .partingLine flask => flaskOk flask
  | .seriesTimeout _ => true
  | .reloadSwap flask => flaskOk flask
  | .reloadTimeout flask => flaskOk flask
  | .jobPlacement flask => flaskOk flask
  | .entryIssue _ _ => true
  | .coreStepFire _ _ _ => true
  | .entryComplete _ _ _ _ _ => true
  | .jobStall _ => true
  | .flaskResetComplete flask => flaskOk flask
  | .revocationConfirm flask _ => flaskOk flask
  | .revokeTimeout flask _ => flaskOk flask
  | .nopEntry _ _ _ => true
  | .conv _ _ _ _ _ _ => true
  | .dwconv _ _ _ _ _ _ => true
  | .s2c _ _ _ _ => true
  | .c2s _ _ _ _ => true
  | .recur _ _ _ _ _ _ => true
  | .ssmStep _ _ _ _ _ _ => true
  | .scan _ _ _ _ _ _ => true
  | .kvAppend _ _ _ _ _ => true
  | .attend _ _ _ _ _ => true
  | .attendPacked _ _ _ _ _ => true
  | .kvFork _ _ => true
  | .sample _ _ _ _ => true
  | .vqEncode _ _ _ _ _ _ => true
  | .codeGather _ _ _ _ _ _ => true
  | .tableGather _ _ _ => true
  | .bevLift _ _ _ _ _ _ _ => true
  | .gradW _ _ _ _ _ _ _ => true
  | .attendGrad _ _ _ _ _ => true
  | .optStep _ _ _ => true
  | .quantize _ _ _ _ _ _ => true
  | .copy _ _ _ => true
  | .fill _ _ _ _ => true
  | .raise _ _ _ _ stack _ => stackOk stack
  | .lower _ _ _ _ => true
  | .rehome _ _ _ _ stack => stackOk stack
  | .migrationCopyComplete _ => true
  | .frameClearComplete _ => true
  | .memoryError _ _ _ _ _ _ => true
  | .errorCounterLeak _ _ _ => true
  | .scrubPass _ => true
  | .relocationComplete _ => true
  | .takeBatch _ _ tundish _ => tundishOk tundish
  | .decodeAu _ _ _ _ _ => true
  | .flush _ _ _ => true
  | .posePush _ _ _ => true
  | .alignPoints _ _ _ => true
  | .trackUpdate _ _ _ _ => true
  | .costmapBuild _ _ _ => true
  | .octreeBuild _ _ _ => true
  | .plan _ _ _ => true
  | .publishTraj _ _ _ => true
  | .qpUpdate _ _ _ => true
  | .qpSolve _ _ _ _ => true
  | .csi2FrameStart _ _ => true
  | .csi2Line _ _ => true
  | .csi2FrameEnd _ _ => true
  | .pointPacket _ _ _ _ => true
  | .tundishClose tundish _ => tundishOk tundish
  | .tundishWarn tundish _ => tundishOk tundish
  | .encodeAuComplete _ _ _ _ => true
  | .receiveFrame _ _ _ _ _ _ _ => true
  | .loopSample _ => true
  | .loopOutputInstant _ => true
  | .ffTableSwitch _ => true
  | .gateCycleStart _ => true
  | .routePrefetchTick => true
  | .tileBlockFetched _ _ _ => true
  | .radiusMode _ => true
  | .projectionBuildComplete => true
  | .imageWriteComplete _ => true
  | .keystoneRestart _ _ => true
  | .epochStart _ => true
  | .thermalLimit _ => true
  | .stretchRequestFall => true
  | .modelDrift => true
  | .coeffBankSwitch => true
  | .stretchNotice member _ _ => memberOk member
  | .stretchBoundary flask => flaskOk flask
  | .hello _ member _ _ _ => memberOk member
  | .helloTimeout member => memberOk member
  | .helloSend => true
  | .leaveMessage member => memberOk member
  | .timeMessage _ _ _ _ _ => true
  | .timeFollowTimeout => true
  | .configurationDigest member _ => memberOk member
  | .configurationDigestSend => true
  | .signatureMessage member flask _ _ => memberOk member && flaskOk flask
  | .signatureTimeout flask _ => flaskOk flask
  | .pairTimeout => true
  | .comparisonStart flask => flaskOk flask
  | .aetheolinkLaneFailure _ _ => true
  | .retrainComplete _ => true
  | .apertureWrite member _ _ _ => memberOk member
  | .safeStateNotice => true
  | .keystoneHalfMismatch => true
  | .partitionAudit _ => true
  | .translationAudit _ => true
  | .duplexCheck flask _ _ _ => flaskOk flask
  | .slackRerunComplete flask _ _ _ => flaskOk flask
  | .slackWindowEnd flask _ _ => flaskOk flask
  | .checkerTest flask _ _ => flaskOk flask
  | .eoiExpiry flask => flaskOk flask
  | .resultStale _ => true
  | .clockFault _ => true
  | .viaductLaneFailure _ _ => true
  | .ethernetLinkUp _ => true
  | .ethernetLinkDown _ => true
  | .ibcRegulationLoss _ => true
  | .tileTaskComplete flask _ => flaskOk flask
  | .transmitFrameSent _ => true
  | .sriovVfEnable _ => true
  | .pcieLinkDegraded _ _ => true
  | .energySuiteComplete _ _ => true
  | .qpSymbolicFactorComplete _ => true
  | .mapTileWriteComplete _ => true

end Sys2Proof
end

