-- ==== Sys2Proof/Safety.lean ====
section
/-!
DEFINITION. The terms that the claims use: a packet that is accepted, the state after its take-up, its replies; what every step
keeps.
-/

namespace Sys2Proof.Machine

/-- The packet at the SQ head of its ring may be taken up and passes every check of Table 4.4 (R121, R127). -/
abbrev State.accepts (s : State) (p : Packet) (opcode least : Nat) (pfOnly : Bool) : Prop :=
  s.host.hostRdy = true ∧ (s.ctx p.ring).mayTake (p.flags.getLsbD 0) = true
    ∧ s.packetCheck p opcode true least pfOnly = none

/-- The state after the final reply of a packet, the block's lines at their levels (R124, R142). -/
def answered (p : Packet) (cls area detail : Nat) (ret : List Byte) (s : State) : State :=
  settle (replyTo p cls area detail ret s)

/-- The state after the take-up of a packet whose final reply comes later (R125). -/
def awaiting (t : Ticket) (s : State) : State := settle (waitReply t s)

/-- What Chapter 19 fixes of a command packet of a defined opcode: the opcode, its minimum PARAM_LEN, whether only the
privileged physical function may send it; and the packet. -/
structure PacketRow where
  opcode : Nat
  least : Nat
  pfOnly : Bool
  packet : Packet
deriving DecidableEq, Repr

/-- The rows that are command packets of a defined opcode. -/
def packetRow : Instr → Option PacketRow
-- the packets
  | .nop p => some ⟨0x0000, 0, false, p⟩
  | .getIdentity p => some ⟨0x0001, 0, false, p⟩
  | .readAttention p => some ⟨0x0002, 0, true, p⟩
  | .ackAttention p => some ⟨0x0003, 4, true, p⟩
  | .setAttnMask p => some ⟨0x0004, 4, true, p⟩
  | .openContext p => some ⟨0x0101, 30, false, p⟩
  | .closeContext p => some ⟨0x0102, 3, false, p⟩
  | .attachContext p => some ⟨0x0103, 30, false, p⟩
  | .queryContext p => some ⟨0x0104, 2, false, p⟩
  | .grantFunction p => some ⟨0x0105, 6, true, p⟩
  | .revokeFunction p => some ⟨0x0106, 2, true, p⟩
  | .queryOccupancy p => some ⟨0x0107, 0, false, p⟩
  | .createFlask p => some ⟨0x0201, 7, true, p⟩
  | .removeFlask p => some ⟨0x0202, 2, true, p⟩
  | .stageFlask p => some ⟨0x0203, 12, true, p⟩
  | .commitConfig p => some ⟨0x0204, 24, true, p⟩
  | .admitTenant p => some ⟨0x0205, 4, true, p⟩
  | .releaseTenant p => some ⟨0x0206, 5, true, p⟩
  | .resetFlask p => some ⟨0x0207, 1, true, p⟩
  | .queryFlask p => some ⟨0x0208, 2, false, p⟩
  | .startFlask p => some ⟨0x0209, 1, true, p⟩
  | .stopFlask p => some ⟨0x020A, 1, true, p⟩
  | .loadPourImage p _ => some ⟨0x0210, 16, false, p⟩
  | .startJob p => some ⟨0x0211, 3, false, p⟩
  | .stopJob p => some ⟨0x0212, 3, false, p⟩
  | .queryJob p => some ⟨0x0213, 2, false, p⟩
  | .unloadJob p => some ⟨0x0214, 2, false, p⟩
  | .createSync p => some ⟨0x0220, 12, false, p⟩
  | .destroySync p => some ⟨0x0221, 2, false, p⟩
  | .signalSync p => some ⟨0x0222, 8, false, p⟩
  | .querySync p => some ⟨0x0223, 2, false, p⟩
  | .submitPour p _ _ => some ⟨0x0230, 24, false, p⟩
  | .loadTileProgram p => some ⟨0x0231, 16, false, p⟩
  | .submitTiles p _ => some ⟨0x0232, 16, false, p⟩
  | .queryDrift p => some ⟨0x0240, 4, false, p⟩
  | .setDrift p => some ⟨0x0241, 13, false, p⟩
  | .queryStream p => some ⟨0x0250, 4, false, p⟩
  | .resetStream p => some ⟨0x0251, 4, false, p⟩
  | .exportStream p => some ⟨0x0252, 28, false, p⟩
  | .importStream p => some ⟨0x0253, 20, false, p⟩
  | .allocate p => some ⟨0x0301, 18, false, p⟩
  | .release p => some ⟨0x0302, 20, false, p⟩
  | .shareMemory p => some ⟨0x0303, 28, true, p⟩
  | .pin p => some ⟨0x0304, 20, false, p⟩
  | .unpin p => some ⟨0x0305, 20, false, p⟩
  | .move p => some ⟨0x0306, 20, false, p⟩
  | .queryTranslation p => some ⟨0x0307, 10, false, p⟩
  | .setContextQuota p => some ⟨0x0308, 8, true, p⟩
  | .queryMemory p => some ⟨0x0309, 4, false, p⟩
  | .setErrorPolicy p => some ⟨0x030A, 8, true, p⟩
  | .evacuateStack p => some ⟨0x030B, 1, true, p⟩
  | .createSequence p => some ⟨0x0320, 16, false, p⟩
  | .destroySequence p => some ⟨0x0321, 2, false, p⟩
  | .querySequence p => some ⟨0x0322, 2, false, p⟩
  | .trimSequence p => some ⟨0x0323, 8, false, p⟩
  | .forkSequence p => some ⟨0x0324, 18, false, p⟩
  | .destroyFamily p => some ⟨0x0325, 2, false, p⟩
  | .queryFamily p => some ⟨0x0326, 2, false, p⟩
  | .createMapTable p => some ⟨0x0330, 28, true, p⟩
  | .writeMapTiles p => some ⟨0x0331, 16, true, p⟩
  | .switchMapVersion p => some ⟨0x0332, 1, true, p⟩
  | .setRoute p => some ⟨0x0333, 22, true, p⟩
  | .queryMap p => some ⟨0x0334, 1, false, p⟩
  | .destroyMapTable p => some ⟨0x0335, 1, true, p⟩
  | .createTundish p => some ⟨0x0401, 36, false, p⟩
  | .destroyTundish p => some ⟨0x0402, 1, false, p⟩
  | .configureStream p _ => some ⟨0x0403, 12, false, p⟩
  | .loadRemap p => some ⟨0x0404, 16, false, p⟩
  | .queryIngest p => some ⟨0x0405, 1, false, p⟩
  | .queryTundish p => some ⟨0x0406, 1, false, p⟩
  | .openDecode p => some ⟨0x0410, 10, false, p⟩
  | .openEncode p => some ⟨0x0411, 34, false, p⟩
  | .closeSession p => some ⟨0x0412, 4, false, p⟩
  | .querySession p => some ⟨0x0413, 4, false, p⟩
  | .loadCalibration p => some ⟨0x0501, 12, true, p⟩
  | .switchCalibration p => some ⟨0x0502, 24, true, p⟩
  | .createProjection p _ => some ⟨0x0503, 12, false, p⟩
  | .destroyProjection p => some ⟨0x0504, 1, false, p⟩
  | .createTrackSet p _ => some ⟨0x0505, 12, false, p⟩
  | .destroyTrackSet p => some ⟨0x0506, 1, false, p⟩
  | .setTrackParams p _ => some ⟨0x0507, 12, false, p⟩
  | .loadLattice p => some ⟨0x0508, 16, false, p⟩
  | .switchLattice p => some ⟨0x0509, 1, false, p⟩
  | .querySpatial p => some ⟨0x050A, 2, false, p⟩
  | .configureLoop p => some ⟨0x0601, 20, false, p⟩
  | .setLoopCoeff p => some ⟨0x0602, 12, false, p⟩
  | .openLoop p => some ⟨0x0603, 1, false, p⟩
  | .closeLoop p => some ⟨0x0604, 2, false, p⟩
  | .setSignal p => some ⟨0x0605, 12, true, p⟩
  | .setManual p => some ⟨0x0606, 12, false, p⟩
  | .tripLoops p => some ⟨0x0607, 0, true, p⟩
  | .clearTrip p => some ⟨0x0608, 0, true, p⟩
  | .loadMaps p => some ⟨0x0609, 20, true, p⟩
  | .setGateList p _ => some ⟨0x060A, 12, true, p⟩
  | .loadFfTable p => some ⟨0x060B, 12, false, p⟩
  | .armTrace p => some ⟨0x060C, 12, false, p⟩
  | .readTrace p => some ⟨0x060D, 16, false, p⟩
  | .queryLoop p => some ⟨0x060E, 1, false, p⟩
  | .createQp p _ => some ⟨0x0620, 12, false, p⟩
  | .destroyQp p => some ⟨0x0621, 1, false, p⟩
  | .queryQp p => some ⟨0x0622, 1, false, p⟩
  | .configurePort p => some ⟨0x060F, 2, true, p⟩
  | .queryTime p => some ⟨0x0701, 0, false, p⟩
  | .setSource p => some ⟨0x0702, 12, true, p⟩
  | .setUtcOffset p => some ⟨0x0703, 8, true, p⟩
  | .setCalendar p => some ⟨0x0704, 12, true, p⟩
  | .setPpsTod p => some ⟨0x0705, 13, true, p⟩
  | .setTrigger p => some ⟨0x0706, 28, true, p⟩
  | .setMode p => some ⟨0x0801, 1, true, p⟩
  | .queryPower p => some ⟨0x0802, 0, false, p⟩
  | .setPowerPolicy p => some ⟨0x0803, 4, true, p⟩
  | .setFlaskPower p => some ⟨0x0804, 6, true, p⟩
  | .queryEnergy p => some ⟨0x0805, 4, false, p⟩
  | .loadEnergyCoeff p => some ⟨0x0806, 16, true, p⟩
  | .readVoltageTable p => some ⟨0x0807, 12, true, p⟩
  | .enterStandby p => some ⟨0x0840, 0, true, p⟩
  | .resetModule p => some ⟨0x0841, 1, true, p⟩
  | .resetDie p => some ⟨0x0842, 1, true, p⟩
  | .armSafeOut p => some ⟨0x0901, 1, true, p⟩
  | .setResultClass p => some ⟨0x0902, 16, true, p⟩
  | .queryResultClass p => some ⟨0x0903, 1, false, p⟩
  | .setSafetyNotice p => some ⟨0x0904, 8, true, p⟩
  | .setSafetyErrPolicy p => some ⟨0x0905, 8, true, p⟩
  | .querySafety p => some ⟨0x0906, 0, false, p⟩
  | .enterSafeState p => some ⟨0x0907, 1, true, p⟩
  | .setC3Layout p => some ⟨0x0908, 4, true, p⟩
  | .revokeFlask p => some ⟨0x0909, 1, true, p⟩
  | .setSafetyTimes p => some ⟨0x090A, 6, true, p⟩
  | .readSafetyLog p => some ⟨0x090B, 12, false, p⟩
  | .setTruss p => some ⟨0x0A01, 12, true, p⟩
  | .queryTruss p => some ⟨0x0A02, 1, false, p⟩
  | .pairModules p => some ⟨0x0A03, 4, true, p⟩
  | .unpair p => some ⟨0x0A04, 0, true, p⟩
  | .leaveTruss p => some ⟨0x0A06, 0, true, p⟩
  | .readDivergence p => some ⟨0x0A05, 0, true, p⟩
  | .trussAperture p => some ⟨0x0A10, 20, false, p⟩
  | .trussCopy p _ => some ⟨0x0A11, 28, false, p⟩
  | .writeImage p _ => some ⟨0x0B01, 16, true, p⟩
  | .activateBank p => some ⟨0x0B02, 24, true, p⟩
  | .confirmBank p => some ⟨0x0B03, 1, true, p⟩
  | .commitSecurityVersion p => some ⟨0x0B04, 1, true, p⟩
  | .reloadFlask p _ => some ⟨0x0B05, 24, true, p⟩
  | .retireDie p => some ⟨0x0B06, 1, true, p⟩
  | .retireSite p => some ⟨0x0B07, 2, true, p⟩
  | .readmit p => some ⟨0x0B08, 8, true, p⟩
  | .readServiceLog p => some ⟨0x0B09, 18, true, p⟩
  | .readRetirement p => some ⟨0x0B0A, 18, true, p⟩
  | .setDiagPort p => some ⟨0x0B0B, 36, true, p⟩
  | .calibrateEnergy p => some ⟨0x0B0C, 12, true, p⟩
  | .injectFault p => some ⟨0x0B0D, 10, true, p⟩
  | .setDevTrace p => some ⟨0x0B0E, 1, true, p⟩
  | .queryService p => some ⟨0x0B0F, 1, false, p⟩
-- end of the packets
  | _ => none

/-- The packet waits: HOST_RDY is low, or R127 does not let the next packet of the ring be taken up. -/
abbrev State.waits (s : State) (p : Packet) : Prop :=
  s.host.hostRdy = false ∨ (s.ctx p.ring).mayTake (p.flags.getLsbD 0) = false

/-- The module is starting or running (Table 2.10). -/
abbrev State.upRun (s : State) : Prop := s.lines.run = .startUp ∨ s.lines.run = .running

/-- HOST_ATTN_N and MGMT_ALERT_N stand at the levels that the causes and SIGNAL_FAULT give them (R64, R65, R69, R142). -/
abbrev State.linesFollow (s : State) : Prop :=
  s.host.attnLine = ((s.attnPending && s.host.hostRdy) || s.lines.lockdown)
    ∧ (s.lines.alert = true → s.lines.fault ≠ 0)

end Sys2Proof.Machine
end

