-- ==== Sys2Proof/Certificates/Slice0/Obligations.lean ====
section
/-!
DEFINITION. The statements for the provers, chapter by chapter of the spec.
-/

open Sys2Proof Sys2Proof.Machine

/-- For every command c, state s and queue rest: step of s with c at the front of its queue is exec of c on s with the rest as
its queue; and on an empty queue the block idles (the model's choice, log entry 2): step answers s itself. -/
def Obligations.StepRunsFrontCommand : Prop :=
  (∀ (c : Instr) (s : State) (rest : List Instr),
      step { s with pending := c :: rest } = exec c { s with pending := rest })
  ∧ ∀ s : State, s.pending = [] → step s = .next s

/-- After reset the module is in Standby with KA in range and both safety outputs commanded invalid; SIGNAL_FAULT, ATTN_CAUSE,
START_STATUS and RESET_CAUSE read 0, ATTN_MASK 0xFFFF; the attention log is empty; context 0 is DETACHED and anchored, every
other context FREE with expected sequence number 1; every flask is EMPTY, every job and synchronisation object free, all dies'
rails off; HOST_RDY is low, HOST_ATTN_N and MGMT_ALERT_N released; no memory is listed and no command waits. -/
def Obligations.ResetState : Prop :=
  let s := State.reset
  s.lines.run = .standby ∧ s.lines.kaInRange = true ∧ s.lines.safeCmd = false ∧ s.safe.outValid = false
  ∧ s.signalFault = 0 ∧ s.causeWord = 0 ∧ s.host.mask = 0xFFFF ∧ s.host.log = [] ∧ s.startStatus = 0
  ∧ s.sup.resetCause = 0
  ∧ s.signalStatus = 0x1200
  ∧ (s.ctx 0).state = .detached ∧ (s.ctx 0).anchored = true
  ∧ (∀ c, c ≠ 0 → s.ctx c = Ctx.rest) ∧ Ctx.rest.state = .free ∧ Ctx.rest.expSeq = 1
  ∧ (∀ f, (s.flask f).state = .empty) ∧ (∀ j, (s.job j).used = false) ∧ (∀ o, (s.sync o).kind = .free)
  ∧ (∀ n, (s.die n).rails = .off)
  ∧ s.host.hostRdy = false ∧ s.host.attnLine = false ∧ s.lines.alert = false
  ∧ s.hostMem = [] ∧ s.pending = []

/-- The invariant that every step keeps (EveryStepKeepsTheLines) holds in the state after reset. -/
def Obligations.ResetLinesFollow : Prop := State.reset.linesFollow

/-- For every state in which HOST_ATTN_N stands at the level of the pending causes (asserted exactly while a cause of ATTN_CAUSE
that ATTN_MASK lets through is pending and HOST_RDY is high, or the hub supervisor holds the module), and MGMT_ALERT_N is
asserted only while a bit of SIGNAL_FAULT is set: whatever command stands at the front of the queue, the state after the step
has both properties again. No command leaves HOST_ATTN_N released over a pending cause, or asserted over none. -/
def Obligations.EveryStepKeepsTheLines : Prop :=
  ∀ s t : State, s.linesFollow → step s = .next t → t.linesFollow

/-- For every command and every state, exec answers a next state (never a fault, never a refusal), and in that state HOST_ATTN_N
and MGMT_ALERT_N follow the causes and SIGNAL_FAULT, whatever they did before. -/
def Obligations.NoCommandStops : Prop :=
  ∀ (c : Instr) (s : State), ∃ t, exec c s = .next t ∧ t.linesFollow

/-- For each of the 152 rows that are command packets of a defined opcode: while HOST_RDY is low, or the ring's context may not
take up its next packet (it is not OPEN, its ring is empty, 128 packets are in flight, FENCE waits, or U + V + 2 exceeds
N - 1), the packet changes nothing; only the lines are brought to the level of what they follow. -/
def Obligations.PacketWaits : Prop :=
  ∀ (i : Instr) (r : PacketRow) (s : State), packetRow i = some r → s.waits r.packet → exec i s = .next (settle s)

/-- For each of the 152 rows that are command packets of a defined opcode, and for a packet of an undefined opcode: a packet that
is taken up and fails a check of Table 4.4 with detail d has no effect but its take-up and its reply: the SQ head moves on by
one; the expected sequence number rises by one unless the check is that of CONTEXT or SEQ; the reply is of class REJECTED, area
0x01, detail d, with the opcode, the flags, the expected sequence number after the check and the ring's context. -/
def Obligations.PacketRefusedByChecks : Prop :=
  (∀ (i : Instr) (r : PacketRow) (s : State) (d : Nat), packetRow i = some r →
      s.host.hostRdy = true → (s.ctx r.packet.ring).mayTake (r.packet.flags.getLsbD 0) = true →
      s.packetCheck r.packet r.opcode true r.least r.pfOnly = some d →
      exec i s = .next (settle (refuseTaken r.packet r.opcode d s)))
  ∧ (∀ (op : Nat) (p : Packet) (s : State) (d : Nat),
      s.host.hostRdy = true → (s.ctx p.ring).mayTake (p.flags.getLsbD 0) = true →
      s.packetCheck p op false 0 false = some d →
      exec (.undefinedOpcodePacket op p) s = .next (settle (refuseTaken p op d s)))
  ∧ ∀ (op d : Nat) (p : Packet) (s : State), (s.ctx p.ring).state = .opened →
      let x := s.ctx p.ring
      let seq := if d = 4 ∨ d = 5 ∨ d = 6 then x.expSeq else x.expSeq + 1
      let y : Ctx := { x with sqHead := (x.sqHead + 1) % 2 ^ x.ring.sqOrder, expSeq := seq }
      refuseTaken p op d s =
        post p.ring p.seq (p.flags.getLsbD 1) 3 1 d
          (leBytes 2 op ++ leBytes 1 p.flags.toNat ++ [0] ++ leBytes 4 seq.toNat ++ leBytes 2 p.ring)
          { s.setCtx p.ring y with host := { (s.setCtx p.ring y).host with taken := s.host.taken + 1 } }

/-- While a context hears replies (its rings are attached and it is OPEN or CLOSING), a reply of sequence number q, class, area,
detail and return values r is written as 32 bytes at CQ base + 32 times the CQ tail: bytes 0-3 q, 4 the class, 5 the area, 6 the
detail, 7 zero, then r and zeros. The CQ tail moves on by one modulo the ring's size, the mirror's count rises by one and its
8 bytes hold SQ head, the new CQ tail and the count; an interrupt is due unless the packet was QUIET. A context that hears no
reply and is not FREE counts it in DROPPED, and host memory is unchanged. Every other context is unchanged either way. -/
def Obligations.ReplyGoesToTheRing : Prop :=
  ∀ (c : Nat) (q : BitVec 32) (quiet : Bool) (cls area detail : Nat) (r : List Byte) (s : State),
    let x := s.ctx c
    let t := post c q quiet cls area detail r s
    (x.hearing = true →
      t.hostMem = Memory.write
          (Memory.write s.hostMem (x.ring.cqBase + 32 * x.cqTail)
            ((leBytes 4 q.toNat ++ leBytes 1 cls ++ leBytes 1 area ++ leBytes 1 detail ++ [0] ++ r
              ++ List.replicate 24 0).take 32))
          x.ring.mirror
          (leBytes 2 x.sqHead ++ leBytes 2 ((x.cqTail + 1) % 2 ^ x.ring.cqOrder) ++ leBytes 4 (x.mirrorCount + 1).toNat)
      ∧ t.ctx c = { x with cqTail := (x.cqTail + 1) % 2 ^ x.ring.cqOrder, mirrorCount := x.mirrorCount + 1,
                           irqPending := x.irqPending || !quiet })
    ∧ (x.hearing = false → x.state ≠ .free → t.hostMem = s.hostMem ∧ t.ctx c = { x with dropped := satInc x.dropped })
    ∧ (x.state = .free → t = s)
    ∧ (∀ k, k ≠ c → t.ctx k = s.ctx k)
    ∧ t = { s with host := { s.host with ctxs := t.host.ctxs }, hostMem := t.hostMem }

/-- An event with cause bit b, area a and detail d sets bit b of ATTN_CAUSE and leaves the others; the attention log gets one
entry (time, b, a, d, no context) at its end; with 64 entries the oldest goes and OVERFLOW is set; nothing else changes. A line
event sets its bit of SIGNAL_FAULT, asserts MGMT_ALERT_N if the bit was clear, and enters the log as cause 1. A write of 1 to a
bit of ATTN_CAUSE or SIGNAL_FAULT clears it, a write of 0 leaves it. -/
def Obligations.EventsAreRecorded : Prop :=
  (∀ (b a d : Nat) (s : State), b < 16 →
      let e : AttnEntry := ⟨s.now, b, a, d, 0x3FF, 0⟩
      let t := attn b a d s
      t.host.cause = s.host.cause ||| BitVec.ofNat 16 (2 ^ b)
      ∧ (s.host.log.length < 64 → t.host.log = s.host.log ++ [e] ∧ t.host.overflow = s.host.overflow)
      ∧ (64 ≤ s.host.log.length → t.host.log = s.host.log.drop 1 ++ [e] ∧ t.host.overflow = true)
      ∧ t = { s with host := { s.host with cause := t.host.cause, log := t.host.log, overflow := t.host.overflow } })
  ∧ (∀ (b : Nat) (s : State), b < 8 →
      let t := setFault b s
      t.lines.fault = s.lines.fault ||| BitVec.ofNat 8 (2 ^ b)
      ∧ t.lines.alert = (s.lines.alert || !s.lines.fault.getLsbD b)
      ∧ t.host.cause = s.host.cause
      ∧ (s.host.log.length < 64 → t.host.log = s.host.log ++ [⟨s.now, 1, 0, b, 0x3FF, 0⟩])
      ∧ t = { s with lines := { s.lines with fault := t.lines.fault, alert := t.lines.alert },
                     host := { s.host with log := t.host.log, overflow := t.host.overflow } })
  ∧ (∀ (v : Word) (s : State) (b : Nat), b < 16 →
      (clearAttnCause v s).host.cause.getLsbD b = (s.host.cause.getLsbD b && !v.getLsbD b))
  ∧ ∀ (v : Word) (s : State) (b : Nat), b < 8 →
      (clearSignalFault v s).lines.fault.getLsbD b = (s.lines.fault.getLsbD b && !v.getLsbD b)

/-- WAKE accepted sets WAKE; a fall clears it and, while starting or running, sets WAKE_FALL; a KA dip sets KA_DIP; KA entering or
leaving its 58 V to 60 V band sets KA_IN_RANGE; VIN in its extended range while up sets VIN_RANGE; an accepted trip input sets
TRIP_x and TRIP_x_SEEN and, outside Standby, trips the loops with its own source; its release clears TRIP_x. A write of
SIGNAL_FAULT, ATTN_CAUSE or START_STATUS, and the read of RESET_CAUSE, clear what they name, for the physical function while its
BAR is served. A sideband read returns the word of Table 2.7 and a write through it changes nothing; the Alert Response returns
the module's address and releases MGMT_ALERT_N. Each clause gives the whole next state: nothing else changes but the levels that
settle brings HOST_ATTN_N and MGMT_ALERT_N to. -/
def Obligations.LineEventsTakeEffect : Prop :=
  (∀ s : State, s.lines.run ≠ .off →
    exec .wakeAccepted s = .next (settle { s with lines := { s.lines with wake := true } }))
  ∧ (∀ s : State, s.upRun →
    exec .wakeFall s = .next (settle (setFault 4 { s with lines := { s.lines with wake := false } })))
  ∧ (∀ s : State, ¬ s.upRun → exec .wakeFall s = .next (settle { s with lines := { s.lines with wake := false } }))
  ∧ (∀ s : State, s.lines.run ≠ .off → exec .kaDip s = .next (settle (setFault 7 s)))
  ∧ (∀ (s : State) (b : Bool), s.lines.run ≠ .off →
    exec (.kaOutOfRange b) s = .next (settle { s with lines := { s.lines with kaInRange := !b } }))
  ∧ (∀ s : State, s.upRun → exec .vinExtendedRange s = .next (settle (setFault 6 s)))
  ∧ (∀ s : State, s.lines.run = .standby →
    exec (.tripInputAssert 0) s = .next (settle (setFault 2 { s with lines := { s.lines with tripA := true } }))
    ∧ exec (.tripInputAssert 1) s = .next (settle (setFault 3 { s with lines := { s.lines with tripB := true } })))
  ∧ (∀ s : State, s.upRun →
    exec (.tripInputAssert 0) s = .next (settle (tripBy 0 (setFault 2 { s with lines := { s.lines with tripA := true } })))
    ∧ exec (.tripInputAssert 1) s = .next (settle (tripBy 1 (setFault 3 { s with lines := { s.lines with tripB := true } }))))
  ∧ (∀ s : State, s.lines.run ≠ .off →
    exec (.tripInputDeassert 0) s = .next (settle { s with lines := { s.lines with tripA := false } })
    ∧ exec (.tripInputDeassert 1) s = .next (settle { s with lines := { s.lines with tripB := false } }))
  ∧ (∀ (s : State) (v : Word), s.pfServed = true →
    exec (.signalFaultClear v) s
      = .next (settle { s with lines := { s.lines with fault := s.lines.fault &&& ~~~(v.setWidth 8) } })
    ∧ exec (.attnCauseClear v) s
      = .next (settle { s with host := { s.host with cause := s.host.cause &&& ~~~(v.setWidth 16) } })
    ∧ exec (.startStatusClear v) s = .next (settle { s with sup := { s.sup with
        bankFallback := s.sup.bankFallback && !v.getLsbD 6, hubLocked := s.sup.hubLocked && !v.getLsbD 7,
        mpImageFail := s.sup.mpImageFail && !v.getLsbD 8 } })
    ∧ exec .resetCauseRead s = .next (settle { s with
        host := { s.host with readData := s.sup.resetCause.toNat }, sup := { s.sup with resetCause := 0 } }))
  ∧ (∀ (s : State) (c : Nat), s.sidebandLive = true →
    let w := if c = 0 then s.moduleId else if c = 1 then s.signalStatus else if c = 2 then s.signalFault else 0
    exec (.smbusBlockRead c) s
      = .next (settle { s with lines := { s.lines with sideband := s.lines.sideband ++ [(c, BitVec.ofNat 32 w)] } }))
  ∧ (∀ (s : State) (c : Nat) (d : List Byte), exec (.smbusWrite c d) s = .next (settle s))
  ∧ ∀ s : State, s.sidebandLive = true → s.lines.alert = true →
    exec .alertResponse s = .next (settle { s with lines := { s.lines with
      alert := false, alertReplies := s.lines.alertReplies ++ [0x58 + s.lines.mgmtAddr] } })

/-- A readback error while the outputs are commanded valid sets SAFE_x_RB_ERR, drives both outputs invalid and is a cause of the
safe state (area 0x09, SAFE_OUT_READBACK), so the safe state holds afterwards; while they are commanded invalid it sets its bit
and sends the safe-state notice on every configured channel, and the outputs stay invalid. When the halves of Keystone disagree,
both outputs are driven invalid and the self-test verdict is lost. -/
def Obligations.SafetyOutputErrors : Prop :=
  (∀ (s : State) (k : Nat), k < 2 → s.lines.run ≠ .off → s.lines.safeCmd = true →
    let l := if k = 0 then { s.lines with safeAWrong := true } else { s.lines with safeBWrong := true }
    let s1 := setFault k { s with lines := l }
    exec (.safeOutReadbackError k) s = .next (settle (safeCause 9 0x30 none none false (lastingFault 9 0x30 0 k
      { s1 with lines := { s1.lines with safeCmd := false }, safe := { s1.safe with outValid := false } }))))
  ∧ (∀ (s : State) (k : Nat), k < 2 → s.lines.run ≠ .off → s.lines.safeCmd = false →
    ∃ t, exec (.safeOutReadbackError k) s = .next t ∧ t.lines.safeCmd = false ∧ t.lines.fault.getLsbD k = true
      ∧ t.safe.notices.length = s.safe.notices.length + s.safe.noticeChannels.length
      ∧ t.safe.safeState = s.safe.safeState ∧ t.pa = s.pa ∧ t.ex = s.ex ∧ t.sup = s.sup)
  ∧ ∀ s : State, exec .keystoneHalfMismatch s = .next (settle { s with
      lines := { s.lines with keystoneStopped := true, safeCmd := false }
      safe := { s.safe with outValid := false, selfTestOk := false } })

/-- A cold start from Off reaches Standby with SIGNAL_FAULT and RESET_CAUSE clear and COLD to be written at the next start; the
retirement record, the fuses and T3 stay. Loss of KA in Standby turns the module off; while it is up the hub supervisor holds it:
HOST_RDY low, both outputs invalid, HOST_ATTN_N asserted; loss of Keystone while up likewise. Loss of VIN while up ends in Standby
(Off where KA is gone and the module is held) with the flasks, jobs and contexts of the run gone, the outputs invalid, a power-loss
record written, VIN_CYCLE and VIN_LOST to be written at the next start, and SIGNAL_FAULT, the retirement record, the fuses and the
bank records kept. VIN low for 100 ms, or an IBC that stops, caps the budget at 250 W and raises POWER; Drive gives way to Limp. The
cap lifts once both IBCs regulate. -/
def Obligations.SupplyEvents : Prop :=
  (∀ (s : State) (straps : Nat) (b : Bool) (rtc : Option Nat), s.lines.run = .off →
    ∃ t, exec (.coldStart straps true b rtc) s = .next t ∧ t.lines.run = .standby ∧ t.lines.fault = 0
      ∧ t.lines.mgmtAddr = straps % 4 ∧ t.sup.resetCause = 0 ∧ t.sup.nextCause = 1 ∧ t.sup.record = s.sup.record
      ∧ t.fuses = { s.fuses with addrStraps := straps % 4 } ∧ t.mem = s.mem ∧ t.svc.log = s.svc.log)
  ∧ (∀ s : State, s.lines.run = .standby →
    ∃ t, exec .kaLoss s = .next t ∧ t.lines.run = .off ∧ t.lines.kaInRange = false ∧ t.lines.safeCmd = false
      ∧ t.ex = s.ex ∧ t.mem = s.mem)
  ∧ (∀ s : State, s.upRun →
    (∃ t, exec .kaLoss s = .next t ∧ t.lines.lockdown = true ∧ t.host.hostRdy = false ∧ t.lines.safeCmd = false
      ∧ t.safe.outValid = false ∧ t.host.attnLine = true)
    ∧ ∃ t, exec .keystoneLost s = .next t ∧ t.lines.lockdown = true ∧ t.host.hostRdy = false ∧ t.lines.safeCmd = false
      ∧ t.safe.outValid = false ∧ t.host.attnLine = true)
  ∧ (∀ s : State, s.upRun →
    ∃ t, exec .vinLoss s = .next t
      ∧ t.lines.run = (if s.sup.kaCycled && s.lines.lockdown then RunState.off else RunState.standby)
      ∧ t.ex = {} ∧ t.host.hostRdy = false ∧ t.host.ctxs = HostIf.atReset.ctxs ∧ t.lines.safeCmd = false
      ∧ t.safe.outValid = false ∧ t.safe.safeState = false ∧ t.sup.powerLossRecords = s.sup.powerLossRecords + 1
      ∧ t.sup.nextCause = s.sup.nextCause ||| 0x102 ∧ t.lines.fault = s.lines.fault ∧ t.sup.record = s.sup.record
      ∧ t.fuses = s.fuses ∧ t.pa.mode = .none ∧ t.truss = {} ∧ t.ctl = {} ∧ t.ing = {} ∧ t.sp = {})
  ∧ (∀ s : State, s.upRun → s.sup.vinLowExt = false → s.pa.mode ≠ .drive →
    exec .vinLowExt s = .next (settle (refreshSupply (attn 7 8 0x45 { s with sup := { s.sup with vinLowExt := true } }))))
  ∧ (∀ s : State, s.upRun → s.sup.vinLowExt = false → s.pa.mode = .drive →
    exec .vinLowExt s
      = .next (settle (limpEntry (refreshSupply (attn 7 8 0x45 { s with sup := { s.sup with vinLowExt := true } })))))
  ∧ (∀ s : State, s.sup.ibcA = true → s.sup.ibcB = true →
    exec .vinCapLift s = .next (settle (refreshSupply { s with sup := { s.sup with vinLowExt := false } })))
  ∧ (∀ s : State, s.lines.run = .startUp → s.pa.mode ≠ .drive → s.sup.ibcA = true → s.sup.ibcB = true →
    exec (.ibcRegulationTimeout 0) s
      = .next (settle (refreshSupply (attn 7 8 0x43 { s with sup := { s.sup with ibcA := false } })))
    ∧ exec (.ibcRegulationLoss 1) s
      = .next (settle (refreshSupply (attn 7 8 0x43 { s with sup := { s.sup with ibcB := false } }))))
  ∧ ∀ (s : State) (w : Nat), { s with pa := { s.pa with supplyW := w } } = refreshSupply s →
    (s.sup.vinLowExt = true ∨ s.sup.ibcA ≠ s.sup.ibcB) → w ≤ 250

/-- A soft start that fails counts an attempt; after four the retry locks the rail out: die rails leave the die absent with its
rails locked, hub rails turn every compute-path rail off, set HUB_LOCKED and leave the module starting with HOST_RDY as it was. A
good retry brings die rails up. Undervoltage of a die's rails loses the die without retry, and the die that was up is absent
afterwards; of the hub rails it enters the safe state until VIN is removed. An open phase is removed, entered in the retirement
record and reported as a lasting fault; a die left with fewer than 8 phases is lost. A sense-failed phase sets SENSE_FAIL; with no
phase found the input sensor is declared failed. A viaduct lane that fails is retired and raises LINK; the fifth of a link is a
lasting fault. -/
def Obligations.RailAndPhaseFaults : Prop :=
  (∀ (s : State) (n : Nat), n < 4 → (s.die n).rails = .softStart → (s.die n).attempts < 4 →
    exec (.railSoftStartTimeout (.die n)) s
      = .next (settle (s.setDie n { s.die n with attempts := (s.die n).attempts + 1 })))
  ∧ (∀ s : State, s.lines.run = .startUp → s.sup.hubOk = false → s.sup.hubAttempts < 4 →
    exec (.railSoftStartTimeout .hub) s
      = .next (settle { s with sup := { s.sup with hubAttempts := s.sup.hubAttempts + 1 } }))
  ∧ (∀ (s : State) (n : Nat), n < 4 → (s.die n).rails = .softStart → 0 < (s.die n).attempts → (s.die n).attempts < 4 →
    exec (.railRetry (.die n) true) s = .next (settle (dieSteps (s.setDie n { s.die n with rails := .good }))))
  ∧ (∀ (s : State) (n : Nat) (good : Bool), n < 4 → (s.die n).rails = .softStart → 4 ≤ (s.die n).attempts →
    (s.die n).resetting = false → (s.die n).out = none →
    ∃ t, exec (.railRetry (.die n) good) s = .next t ∧ (t.die n).rails = .locked ∧ (t.die n).out = some .lockout
      ∧ t.ex = s.ex ∧ t.pa = s.pa)
  ∧ (∀ (s : State) (good : Bool), s.lines.run = .startUp → s.sup.hubOk = false → 4 ≤ s.sup.hubAttempts →
    ∃ t, exec (.railRetry .hub good) s = .next t ∧ t.sup.hubLocked = true ∧ t.sup.hubOk = false ∧ t.sup.dies = []
      ∧ t.sup.ibcA = false ∧ t.sup.ibcB = false ∧ t.lines.run = .startUp ∧ t.host.hostRdy = s.host.hostRdy
      ∧ t.sup.record = s.sup.record)
  ∧ (∀ (s : State) (n : Nat), n < 4 → (s.die n).rails = .good →
    exec (.railUndervoltage (.die n)) s = .next (settle (dieLost n .undervoltage s)))
  ∧ (∀ s : State, s.sup.hubOk = true →
    exec (.railUndervoltage .hub) s
      = .next (settle (safeCause 9 0x2F none none true { s with sup := { s.sup with hubOk := false } })))
  ∧ (∀ (s : State) (n k : Nat), n < 4 → k < 16 → (s.die n).rails = .good → (s.die n).removed.getLsbD k = false →
    exec (.openPhase n k) s = .next (settle (
      let s1 := lastingFault 8 0 n k (retire 1 n k
        (s.setDie n { s.die n with removed := (s.die n).removed ||| BitVec.ofNat 16 (2 ^ k) }))
      if (s1.die n).phases < 8 then dieLost n .phases s1 else s1)))
  ∧ (∀ (s : State) (n k : Nat), n < 4 → k < 16 → (s.die n).rails = .good → (s.die n).removed.getLsbD k = false →
    (s.die n).senseFail = 0 →
    exec (.senseLocalisation n (some k)) s = .next (settle (lastingFault 8 0 n k (retire 1 n (16 + k)
      (s.setDie n { s.die n with senseFail := BitVec.ofNat 16 (2 ^ k) })))))
  ∧ (∀ (s : State) (n : Nat),
    exec (.senseLocalisation n none) s
      = .next (settle (refreshSupply (lastingFault 8 0 0xFF 0 { s with sup := { s.sup with inputSensorFailed := true } }))))
  ∧ ∀ (s : State) (link lane : Nat), link < 8 → s.isRetired 3 link lane = false →
    let k := Tab.get 0 s.sup.laneFails link + 1
    let s1 := attn 11 0 0 (retire 3 link lane { s with sup := { s.sup with laneFails := Tab.set 0 s.sup.laneFails link k } })
    exec (.viaductLaneFailure link lane) s = .next (settle (if k = 5 then lastingFault 0 0 link lane s1 else s1))

/-- START_UP in Standby, with WAKE accepted, KA in range, VIN good, no hold of the supervisor, and Keystone's self-test passed,
begins a start: the module is in Start-up, VIN_GOOD reads 1, and RESET_CAUSE is written afresh but for its DIE_RESET bits. BIST pass
1 of a die with good rails fixes its early cores: at most 32 passing sites of rows 0 to 2 that are no default reserve sites.
HOST_RDY rises at step 12 with the link in L0; the first rise of a start puts the module in Depot with early compute. FULL_COMPUTE
sets FULL, ends early compute and raises its cause. -/
def Obligations.StartUpSequence : Prop :=
  (∀ (s : State) (boot : Boot) (good : List Nat) (hub : Bool), s.lines.run = .standby → s.lines.kaInRange = true →
    s.lines.wake = true → s.lines.lockdown = false → s.lines.keystoneStopped = false → s.keystoneRestarting = false →
    s.safe.selfTestOk = true →
    ∃ t, exec (.startUp boot good hub) s = .next t ∧ t.lines.run = .startUp ∧ t.lines.vinGood = true
      ∧ t.sup.resetCause = (s.sup.resetCause &&& 0x0F0) ||| s.sup.nextCause ∧ t.sup.nextCause = 0
      ∧ t.lines.fault = s.lines.fault ∧ t.sup.record = s.sup.record ∧ t.fuses = s.fuses)
  ∧ (∀ (s : State) (n : Nat) (failing : List Nat), n < 4 → (s.die n).out = none → (s.die n).bist1 = false →
    (s.die n).rails = .good → (s.die n).parked = false → (s.die n).resetting = false → s.upRun →
    ∃ t, exec (.bistPass1Complete n failing) s = .next t ∧ (t.die n).bist1 = true
      ∧ (t.die n).early = (t.die n).order.length ∧ (t.die n).early ≤ 32
      ∧ (∀ p ∈ (t.die n).order, p < 36 ∧ p ∉ failing ∧ isReserveSite p = false))
  ∧ (∀ (s : State) (speed width : Nat), s.lines.run = .startUp → s.lines.lockdown = false → s.host.perst = false →
    s.sup.resetDue = none → s.sup.hubOk = true → s.sup.steps.getLsbD 7 = true → s.sup.steps.getLsbD 8 = true →
    s.sup.steps.getLsbD 11 = true → 1 ≤ speed → speed ≤ 6 →
    ∃ t, exec (.hostRdyRise speed width) s = .next t ∧ t.host.hostRdy = true ∧ t.host.linkUp = true
      ∧ t.host.linkSpeed = speed ∧ t.host.linkWidth = width ∧ t.lines.run = .running ∧ t.pa.mode = .depot
      ∧ t.sup.early = !s.sup.full ∧ t.ex = s.ex ∧ t.host.ctxs = s.host.ctxs)
  ∧ ∀ (s : State) (failing : List (Nat × Nat)), s.lines.run = .running → s.sup.full = false →
    s.sup.steps &&& 0x1FFE = 0x1FFE →
    ∃ t, exec (.fullCompute failing) s = .next t ∧ t.sup.full = true ∧ t.sup.early = false
      ∧ t.host.cause.getLsbD 0 = true ∧ t.ex = s.ex ∧ t.fuses = s.fuses

/-- ENTER_STANDBY in Park or Depot is answered OK and the power-down begins; STANDBY_REACHED then leaves Standby with every flask,
job and context gone and STANDBY_CMD to be written at the next start. RESET_MODULE with 0xA5 in Park or Depot is answered OK and
the reset is due; the reset clears flasks, jobs and contexts, writes MODULE_CMD (MP_HEARTBEAT after a missed heartbeat) and starts
again from step 7, keeping SIGNAL_FAULT, the retirement record and the fuses. A missed heartbeat in Drive, Limp or Robot first
enters the safe state; so does a missed heartbeat of the Power Arbiter, which resets nothing. RESET_DIE of a die that holds no job
and no frame in use is accepted, its reply to come; the die then soft-starts afresh. DIE_RESET_COMPLETE ends it, raises DIE_CHANGE
and answers. -/
def Obligations.StandbyAndResets : Prop :=
  (∀ (s : State) (p : Packet), s.accepts p 0x0840 0 true → s.pa.mode = .park ∨ s.pa.mode = .depot →
    exec (.enterStandby p) s = .next (answered p 0 8 0 []
      { s.taken p with sup := { s.sup with enteringStandby := true } }))
  ∧ (∀ s : State, s.sup.enteringStandby = true →
    ∃ t, exec .standbyReached s = .next t ∧ t.lines.run = .standby ∧ t.ex = {} ∧ t.host.hostRdy = false
      ∧ t.host.ctxs = HostIf.atReset.ctxs ∧ t.sup.nextCause = s.sup.nextCause ||| 0x202
      ∧ t.sup.powerLossRecords = s.sup.powerLossRecords + 1 ∧ t.lines.fault = s.lines.fault ∧ t.sup.record = s.sup.record
      ∧ t.fuses = s.fuses ∧ t.pa.mode = .none)
  ∧ (∀ (s : State) (p : Packet), s.accepts p 0x0841 1 true → p.u8 12 = 0xA5 → s.pa.mode = .park ∨ s.pa.mode = .depot →
    exec (.resetModule p) s = .next (answered p 0 8 0 []
      { s.taken p with sup := { s.sup with resetDue := some true } }))
  ∧ (∀ (s : State) (boot : Boot) (b : Bool), s.sup.resetDue = some b →
    ∃ t, exec (.moduleResetBegin boot) s = .next t ∧ t.lines.run = .startUp ∧ t.host.hostRdy = false ∧ t.ex = {}
      ∧ t.host.ctxs = HostIf.atReset.ctxs
      ∧ t.sup.resetCause = (s.sup.resetCause &&& 0x0F0) ||| (if b then 4 else 8)
      ∧ t.sup.resetDue = none ∧ t.lines.fault = s.lines.fault ∧ t.fuses = s.fuses ∧ t.sup.record = s.sup.record
      ∧ t.safe.safeState = (s.safe.safeState && s.safe.powerCycle))
  ∧ (∀ s : State, s.lines.run = .running →
    let s1 := { s with safe := { s.safe with mpAlive := false } }
    let s2 := if s.pa.mode = .drive ∨ s.pa.mode = .limp ∨ s.pa.mode = .robot then safeCause 9 0x29 none none false s1 else s1
    exec .mpHeartbeatMissed s = .next (settle { s2 with sup := { s2.sup with resetDue := some false } }))
  ∧ (∀ s : State, s.lines.run = .running →
    exec .paHeartbeatMissed s
      = .next (settle (safeCause 9 0x29 none none false { s with safe := { s.safe with paEpochs := 0 } })))
  ∧ (∀ (s : State) (p : Packet), s.accepts p 0x0842 1 true → p.u8 12 < 4 →
    (s.die (p.u8 12)).resetting = false → (s.die (p.u8 12)).parked = false → (s.die (p.u8 12)).parking = false →
    (s.die (p.u8 12)).out = none → (s.taken p).dieIdle (p.u8 12) = true →
    exec (.resetDie p) s = .next (awaiting (s.ticketOf p 0x0842)
      (let n := p.u8 12
       let s1 := memStackCleared n (s.taken p)
       s1.setDie n { s.die n with resetting := true, resetTicket := some (s.ticketOf p 0x0842), rails := .softStart,
                                  attempts := 0, bist1 := false, failed := [], out := none,
                                  short := false, active := 0, reserve := 0, early := 0, order := [], spares := [] })))
  ∧ ∀ (s : State) (n : Nat) (test : DieTest) (t : Ticket), n < 4 → (s.die n).resetting = true →
    (s.die n).resetTicket = some t → test.railsLock = true →
    ∃ s1, exec (.dieResetComplete n test) s = .next (settle (sweepClosing (finish t 4 8 0x44 [] (memReturnHomes n (attn 4 8 0 s1)))))
      ∧ (s1.die n).resetting = false ∧ (s1.die n).rails = .locked ∧ (s1.die n).out = some .lockout
      ∧ s1.sup.resetCause = s.sup.resetCause ||| BitVec.ofNat 10 (2 ^ (4 + n)) ∧ s1.ex = s.ex ∧ s1.host = s.host

/-- An accepted packet of each of these commands is answered at once, and its next state is the state after take-up with this
effect and no other: NOP none; GET_IDENTITY none, returning MODULE_ID, the versions of the Management Processor's and Keystone's
firmware and START_STATUS; READ_ATTENTION removes the oldest log entry and clears OVERFLOW, returning ATTN_CAUSE, ATTN_MASK, the
entry, the entries remaining with OVERFLOW as bit 7, and the context; ACK_ATTENTION clears the cause bits named and returns
ATTN_CAUSE, where bits 31:16 of the word are 0; SET_ATTN_MASK sets the mask with bit 2 held at 1; QUERY_OCCUPANCY none. A packet
of an undefined opcode that passes every earlier check is refused with BAD_OPCODE. -/
def Obligations.IdentityAndAttentionCommands : Prop :=
  (∀ (s : State) (p : Packet), s.accepts p 0x0000 0 false →
    exec (.nop p) s = .next (answered p 0 0 0 [] (s.taken p)))
  ∧ (∀ (s : State) (p : Packet), s.accepts p 0x0001 0 false →
    exec (.getIdentity p) s = .next (answered p 0 0 0
      (leBytes 4 s.moduleId ++ leBytes 4 (s.runningVersion 1) ++ leBytes 4 (s.runningVersion 0) ++ leBytes 4 s.startStatus)
      (s.taken p)))
  ∧ (∀ (s : State) (p : Packet) (e : AttnEntry) (rest : List AttnEntry), s.accepts p 0x0002 0 true → s.host.log = e :: rest →
    exec (.readAttention p) s = .next (answered p 0 0 0
      (leBytes 4 s.causeWord.toNat ++ leBytes 4 s.host.mask.toNat
        ++ (leBytes 8 e.time ++ leBytes 1 e.cause ++ leBytes 1 e.area ++ leBytes 1 e.detail)
        ++ leBytes 1 (rest.length + if s.host.overflow then 128 else 0) ++ leBytes 2 e.ctx)
      { s.taken p with host := { (s.taken p).host with log := rest, overflow := false } }))
  ∧ (∀ (s : State) (p : Packet), s.accepts p 0x0002 0 true → s.host.log = [] →
    exec (.readAttention p) s = .next (answered p 0 0 0
      (leBytes 4 s.causeWord.toNat ++ leBytes 4 s.host.mask.toNat ++ (leBytes 8 0 ++ [0xFF, 0, 0])
        ++ leBytes 1 (if s.host.overflow then 128 else 0) ++ leBytes 2 0x3FF)
      { s.taken p with host := { (s.taken p).host with log := [], overflow := false } }))
  ∧ (∀ (s : State) (p : Packet), s.accepts p 0x0003 4 true → p.u32 12 < 65536 →
    let t := { s.taken p with host := { (s.taken p).host with cause := s.host.cause &&& ~~~(BitVec.ofNat 16 (p.u32 12)) } }
    exec (.ackAttention p) s = .next (answered p 0 0 0 (leBytes 4 t.causeWord.toNat) t))
  ∧ (∀ (s : State) (p : Packet), s.accepts p 0x0004 4 true → p.u32 12 < 65536 →
    let m := BitVec.ofNat 16 (p.u32 12) ||| 4
    exec (.setAttnMask p) s = .next (answered p 0 0 0 (leBytes 4 m.toNat)
      { s.taken p with host := { (s.taken p).host with mask := m } }))
  ∧ (∀ (s : State) (p : Packet), s.accepts p 0x0107 0 false → ∃ ret, ret.length = 16
    ∧ exec (.queryOccupancy p) s = .next (answered p 0 1 0 ret (s.taken p)))
  ∧ ∀ (s : State) (p : Packet) (op : Nat), s.host.hostRdy = true → (s.ctx p.ring).mayTake (p.flags.getLsbD 0) = true →
    p.context.toNat = p.ring → p.seq = (s.ctx p.ring).expSeq → p.byte3 = 0 → p.flags.toNat < 4 → p.ring < 1024 →
    exec (.undefinedOpcodePacket op p) s = .next (settle (refuseTaken p op 1 s))

/-- OPEN_CONTEXT with a valid ring set, room in the allowance and a FREE context opens the lowest-numbered FREE context c for the
sender with indices 0 and expected sequence number 1, and returns c. CLOSE_CONTEXT without force of another idle, OPEN context of
the sender's that has nothing in flight frees it. ATTACH_CONTEXT with a valid ring set brings a DETACHED or HALTED context of the
sender to OPEN. QUERY_CONTEXT returns CONTEXT_STATUS, the expected sequence number, DROPPED and the event word, and clears the last
two. The first GRANT_FUNCTION of an enabled virtual function binds the lowest-numbered FREE context, DETACHED and anchored, and
returns it; REVOKE_FUNCTION with force 0 of a function whose contexts own no job and no tenancy ends with the grant cleared once all
its contexts drain at once. -/
def Obligations.ContextCommands : Prop :=
  (∀ (s : State) (p : Packet) (c : Nat), s.accepts p 0x0101 30 false → p.zeros 12 4 = true →
    let t := s.taken p
    let f := (t.ctx p.ring).fn
    ringOk f (ringParams p) = true → (t.ctxsOf f).length < t.allowanceOf f → t.freeCtx = some c →
    exec (.openContext p) s = .next (answered p 0 1 0 (leBytes 2 c)
      (openRings c (ringParams p) (t.setCtx c { Ctx.rest with fn := f }))))
  ∧ (∀ (s : State) (p : Packet), s.accepts p 0x0102 3 false → p.u16 12 < 1024 → p.u8 14 = 0 → p.u16 12 ≠ p.ring →
    let x := s.ctx (p.u16 12)
    (s.taken p).ctx (p.u16 12) = x → x.fn = ((s.taken p).ctx p.ring).fn → x.anchored = false → x.state = .opened →
    x.inFlight = [] → (s.taken p).ctxBusy (p.u16 12) = false →
    exec (.closeContext p) s = .next (answered p 0 1 0 []
      (freeContext (p.u16 12) ((s.taken p).setCtx (p.u16 12)
        { x with state := .closing, closer := some (s.ticketOf p 0x0102) }))))
  ∧ (∀ (s : State) (p : Packet), s.accepts p 0x0103 30 false → p.u16 12 < 1024 →
    let x := (s.taken p).ctx (p.u16 12)
    x.fn = ((s.taken p).ctx p.ring).fn → x.anchored = false → x.state = .detached ∨ x.state = .halted →
    ringOk x.fn (ringParams p) = true →
    exec (.attachContext p) s = .next (answered p 0 1 0 []
      (openRings (p.u16 12) (ringParams p) ((s.taken p).setCtx (p.u16 12) x.loseReplies))))
  ∧ (∀ (s : State) (p : Packet), s.accepts p 0x0104 2 false → p.u16 12 < 1024 →
    let x := (s.taken p).ctx (p.u16 12)
    ((s.taken p).ctx p.ring).fn = 0 →
    exec (.queryContext p) s = .next (answered p 0 1 0
      (leBytes 4 ((s.taken p).contextStatus (p.u16 12)) ++ leBytes 4 x.expSeq.toNat ++ leBytes 4 x.dropped
        ++ leBytes 4 x.event.toNat)
      ((s.taken p).setCtx (p.u16 12) { x with dropped := 0, event := 0 })))
  ∧ (∀ (s : State) (p : Packet) (c : Nat), s.accepts p 0x0105 6 true → 1 ≤ p.u8 12 → 1 ≤ p.u16 14 → p.u16 14 ≤ 1023 →
    p.u16 16 < 4096 → p.u8 12 ≤ s.host.numVf → (s.fn (p.u8 12)).granted = false → (s.taken p).freeCtx = some c →
    exec (.grantFunction p) s = .next (answered p 0 1 0 (leBytes 2 c)
      (((s.taken p).setCtx c { Ctx.rest with state := .detached, anchored := true, fn := p.u8 12 }).setFn (p.u8 12)
        { s.fn (p.u8 12) with granted := true, home := c, allowance := p.u16 14,
                              areas := BitVec.ofNat 12 (p.u16 16) ||| 3 })))
  ∧ ∀ (s : State) (p : Packet), s.accepts p 0x0106 2 true → 1 ≤ p.u8 12 → p.u8 13 = 0 → (s.fn (p.u8 12)).granted = true →
    let f := p.u8 12
    let home := (s.fn f).home
    (s.taken p).ctxsOf f = [home] → ((s.taken p).ctx home).closer = none → ((s.taken p).ctx home).state = .detached →
    ((s.taken p).ctx home).inFlight = [] → (s.taken p).ctxBusy home = false →
    ∃ t, exec (.revokeFunction p) s = .next (answered p 0 1 0 [] (t.setFn f Fn.rest))
      ∧ t = freeContext home ((s.taken p).setCtx home
          { (s.taken p).ctx home with state := .closing, enable := false, closer := some (s.ticketOf p 0x0106) })

/-- A doorbell in range, by the owner of an OPEN context, moves the SQ tail or the CQ head and nothing else; one out of range is
discarded, counted in DROPPED and raises RING. A CQ head beyond the written replies halts the context. ENABLE written 1 with a
valid ring set opens the anchored context with indices 0 and expected sequence number 1. DROPPED reads and clears. An interim
reply of class DEFERRED is written once for a packet in flight; a vector that is due is raised once and its time noted. A failed
ring access halts the context with reason 2. PCIE_PERST_N, or the loss of the link, detaches every OPEN or HALTED context, drops
HOST_RDY and raises LINK, and leaves flasks, jobs, mode and safety outputs; a Function Level Reset and D3hot detach that function's
contexts only; SR-IOV sets NUM_VF, at most 255; a link that trains lower is shown and raises LINK. -/
def Obligations.RingAndLinkEvents : Prop :=
  (∀ (s : State) (f c v : Nat), s.barServed f = true → c < 1024 → (s.ctx c).fn = f → (s.ctx c).state = .opened →
    v % 65536 < 2 ^ (s.ctx c).ring.sqOrder →
    exec (.sqTail f c v) s = .next (settle (s.setCtx c { s.ctx c with sqTail := v % 65536 })))
  ∧ (∀ (s : State) (f c v : Nat), s.barServed f = true → c < 1024 → (s.ctx c).state = .opened →
    2 ^ (s.ctx c).ring.sqOrder ≤ v % 65536 →
    exec (.sqTail f c v) s = .next (settle (attnCtx 12 1 0 c (s.setCtx c { s.ctx c with dropped := satInc (s.ctx c).dropped }))))
  ∧ (∀ (s : State) (f c v : Nat), s.barServed f = true → c < 1024 → (s.ctx c).fn = f → (s.ctx c).state = .opened →
    let n := 2 ^ (s.ctx c).ring.cqOrder
    v % 65536 < n → (v % 65536 + n - (s.ctx c).cqHead) % n ≤ (s.ctx c).unread →
    exec (.cqHead f c v) s = .next (settle (s.setCtx c { s.ctx c with cqHead := v % 65536 })))
  ∧ (∀ (s : State) (f c v : Nat), s.barServed f = true → c < 1024 → (s.ctx c).fn = f → (s.ctx c).state = .opened →
    let n := 2 ^ (s.ctx c).ring.cqOrder
    v % 65536 < n → (s.ctx c).unread < (v % 65536 + n - (s.ctx c).cqHead) % n →
    exec (.cqHead f c v) s = .next (settle (attnCtx 12 1 0 c
      (s.setCtx c { (s.ctx c).loseReplies with state := .halted, haltReason := 1 }))))
  ∧ (∀ (s : State) (f c v : Nat), s.anchorOf f = some c → s.barServed f = true → (s.ctx c).enable = false →
    (s.ctx c).state = .detached → bitAt v 16 = true →
    let r : RingSet := { (s.ctx c).ring with sqOrder := bitsOf v 3 0, cqOrder := bitsOf v 7 4, vector := bitsOf v 13 8 }
    ringOk (s.ctx c).fn r = true →
    exec (.enable f v) s = .next (settle (openRings c r (s.setCtx c { s.ctx c with ring := r }))))
  ∧ (∀ (s : State) (f c : Nat), s.anchorOf f = some c → s.barServed f = true →
    exec (.droppedRead f) s = .next (settle
      ({ s with host := { s.host with readData := (s.ctx c).dropped } }.setCtx c { s.ctx c with dropped := 0 })))
  ∧ (∀ (s : State) (c : Nat) (t : Ticket), (s.ctx c).inFlight = [t] → t.interim = false → t.lost = false →
    exec (.interimReply c t.seq) s = .next (settle (post c t.seq t.quiet 2 (t.opcode / 256) 0 []
      (s.setCtx c { s.ctx c with inFlight := [{ t with interim := true }] }))))
  ∧ (∀ (s : State) (c : Nat), (s.ctx c).irqPending = true → (∀ t, (s.ctx c).irqLast = some t → 4000 ≤ s.now - t) →
    exec (.msixInterrupt c) s = .next (settle (s.setCtx c
      { s.ctx c with irqPending := false, irqCount := (s.ctx c).irqCount + 1, irqLast := some s.now })))
  ∧ (∀ (s : State) (c : Nat), (s.ctx c).state = .opened →
    exec (.hostDmaFailure c none) s = .next (settle (attnCtx 12 1 0 c
      (s.setCtx c { (s.ctx c).loseReplies with state := .halted, haltReason := 2 }))))
  ∧ (∀ s : State, s.host.perst = false →
    ∃ t, exec .pciePerstNAssert s = .next t ∧ t.host.hostRdy = false ∧ t.host.linkUp = false ∧ t.host.perst = true
      ∧ t.ex = s.ex ∧ t.pa = s.pa ∧ t.safe = s.safe ∧ t.sup = s.sup ∧ t.host.fns = s.host.fns)
  ∧ (∀ s : State, exec .pciePerstNRelease s = .next (settle { s with host := { s.host with perst := false } }))
  ∧ (∀ s : State, s.host.linkUp = true →
    ∃ t, exec .linkDown s = .next t ∧ t.host.hostRdy = false ∧ t.host.linkUp = false ∧ t.host.linkSpeed = 0
      ∧ t.ex = s.ex ∧ t.pa = s.pa ∧ t.safe = s.safe ∧ t.sup = s.sup ∧ t.host.fns = s.host.fns)
  ∧ (∀ (s : State) (f : Nat),
    exec (.functionLevelReset f) s = .next (settle ((detachAll (fun x => decide (x.fn = f)) s).setFn f
      { (detachAll (fun x => decide (x.fn = f)) s).fn f with inFlr := true, d3hot := false }))
    ∧ exec (.flrComplete f) s = .next (settle (s.setFn f { s.fn f with inFlr := false }))
    ∧ exec (.d3hot f) s = .next (settle ((detachAll (fun x => decide (x.fn = f)) s).setFn f
      { (detachAll (fun x => decide (x.fn = f)) s).fn f with d3hot := true })))
  ∧ (∀ (s : State) (n : Nat), exec (.sriovVfEnable n) s = .next (settle { s with host := { s.host with numVf := min 255 n } }))
  ∧ ∀ (s : State) (v w : Nat), s.host.linkUp = true → 1 ≤ v → v < s.host.linkSpeed →
    exec (.pcieLinkDegraded v w) s
      = .next (settle (attn 11 0 0 { s with host := { s.host with linkSpeed := v, linkWidth := w } }))

/-- While the function's BAR is served: a read returns the word of its offset in readData and clears what an RC field of it clears;
a read of a low half latches the high half; writes go to the one operation that writes registers. An access narrower than 32 bits or
off a multiple of 4 returns 0 on a read and touches nothing else. A request that the diagnostic service serves is answered once and
counted in DIAG_FRAMES: READ_WORDS of at most 256 words with the words; a log read with the entries' bytes when they fit 1,024
bytes; WRITE_WORDS writes only on FK4-600-LD with the permissions of its table, and is refused with status 2 on any other grade. -/
def Obligations.RegisterAndDiagnosticAccesses : Prop :=
  (∀ (s : State) (die site w : Nat), s.pfServed = true → die < 4 → site < 144 → 1 ≤ w → w ≤ 3 →
    exec (.conversionCountRead die site w) s = .next (settle (readPf (0x1010000 + 0x400000 * die + 0x20 * site + 4 * w) s)))
  ∧ (∀ (s : State) (off : Nat), s.pfServed = true →
    exec (.rcCounterRead off) s = .next (settle (readPf off s))
    ∧ exec (.lowHalfRead 0 off) s = .next (settle (readPf off s)))
  ∧ (∀ (s : State) (off : Nat) (v : Word), s.pfServed = true →
    exec (.highHalfWrite 0 off v) s = .next (settle (writeReg off v s))
    ∧ exec (.registerWrite 0 off v) s = .next (settle (writeReg off v s)))
  ∧ (∀ (s : State) (f off : Nat), 1 ≤ f → s.barServed f = true →
    exec (.lowHalfRead f off) s = .next (settle (readVf f off s)))
  ∧ (∀ (s : State) (f off : Nat) (v : Word), 1 ≤ f → s.barServed f = true →
    exec (.highHalfWrite f off v) s = .next (settle (writeVf f off v s))
    ∧ exec (.registerWrite f off v) s = .next (settle (writeVf f off v s)))
  ∧ (∀ (s : State) (off n : Nat), n < 4 ∨ off % 4 ≠ 0 →
    exec (.unalignedAccess off n false) s = .next (settle { s with host := { s.host with readData := 0 } })
    ∧ exec (.unalignedAccess off n true) s = .next (settle s))
  ∧ (∀ (s : State) (peer : List Byte) (port seq off n : Nat), s.diagServed peer port = true → n ≤ 256 →
    exec (.readWords peer port seq off n) s = .next (settle (diagAnswer 1 0 seq (s.diagRead n (4 * off) s.host.diagLatch).1
      { s with host := { s.host with diagLatch := (s.diagRead n (4 * off) s.host.diagLatch).2 } })))
  ∧ (∀ (s : State) (peer : List Byte) (port seq off : Nat) (ws : List Word), s.diagServed peer port = true →
    s.fuses.grade = .ld600 → ws.length ≤ 256 → s.diagMayWrite = true →
    exec (.writeWords peer port seq off ws) s = .next (settle (diagAnswer 0x10 0 seq [] (diagWrites (4 * off) ws s))))
  ∧ (∀ (s : State) (peer : List Byte) (port seq off : Nat) (ws : List Word), s.diagServed peer port = true →
    s.fuses.grade ≠ .ld600 →
    exec (.writeWords peer port seq off ws) s = .next (settle (diagAnswer 0x10 2 seq [] s)))
  ∧ (∀ (s : State) (peer : List Byte) (port seq first n : Nat), s.diagServed peer port = true → n ≤ 32 →
    (((s.svc.log.drop first).take n).flatMap ServiceEntry.bytes).length ≤ 1024 →
    exec (.diagReadServiceLog peer port seq first n) s = .next (settle (diagAnswer 2 0 seq
      ((((s.svc.log.drop first).take n).flatMap ServiceEntry.bytes).map (·.toNat)) s)))
  ∧ (∀ (s : State) (peer : List Byte) (port seq first n : Nat), s.diagServed peer port = true →
    (safetyBytes ((s.safe.log.drop first).take n)).length ≤ 1024 →
    exec (.diagReadSafetyLog peer port seq first n) s = .next (settle (diagAnswer 3 0 seq
      ((safetyBytes ((s.safe.log.drop first).take n)).map (·.toNat)) s)))
  ∧ (∀ (s : State) (peer : List Byte) (port seq first n : Nat), s.diagServed peer port = true → n ≤ 64 →
    (((s.sup.record.drop first).take n).flatMap Retired.bytes).length ≤ 1024 →
    exec (.diagReadRetirement peer port seq first n) s = .next (settle (diagAnswer 4 0 seq
      ((((s.sup.record.drop first).take n).flatMap Retired.bytes).map (·.toNat)) s)))
  ∧ ∀ (service status seq : Nat) (data : List Nat) (s : State),
    let t := diagAnswer service status seq data s
    t.svc.diagReplies = s.svc.diagReplies ++ [{ service := service, status := status, seq := seq, data := data }]
    ∧ t.svc.diagFrames = satInc s.svc.diagFrames
    ∧ t = { s with svc := { s.svc with diagReplies := t.svc.diagReplies, diagFrames := t.svc.diagFrames,
                                       diagRefused := t.svc.diagRefused } }

/-- An accepted packet whose fields are in range: CREATE_FLASK of an EMPTY flask, in full compute, makes it CREATED with the class,
the mode, the span (paced) and AUTO_RESTART given, and nothing else of it; REMOVE_FLASK of a flask without live jobs removes it;
STAGE_FLASK of a regulator whose shares sum to at most 1,000, and of queues that no other flask has or has staged, change the
shadow only; COMMIT_CONFIG without resume of flasks in a committing state, in no series, issues the next generation and starts a
series of them, and waits; ADMIT_TENANT of an idle C0 flask adds the context to its tenants; RELEASE_TENANT of a tenant without
jobs there removes it. Everything else is as the take-up left it. -/
def Obligations.FlaskConfigurationCommands : Prop :=
  (∀ (s : State) (p : Packet), s.accepts p 0x0201 7 true →
    let f := p.u8 12
    f ≤ 15 → p.u8 13 ≤ 3 → p.u8 14 ≤ 2 → p.u8 18 ≤ 1 → (p.u8 14 = 0 → 5 ≤ p.u16 16 ∧ p.u16 16 ≤ 1000) →
    (s.flask f).state = .empty → s.sup.full = true → s.bankSeries = false →
    (p.u8 13 = 3 → p.u8 14 = 0 ∧ 3 ≤ s.c3Dies) → (p.u8 14 = 2 → p.u8 13 = 0) →
    exec (.createFlask p) s = .next (answered p 0 2 0 [] ((s.taken p).setFlask f { Flask.rest with
      state := .created, cls := p.u8 13, mode := if p.u8 14 = 0 then .paced else if p.u8 14 = 1 then .free else .tile
      spanUs := if p.u8 14 = 0 then p.u16 16 else 0, autoRestart := p.u8 18 = 1 })))
  ∧ (∀ (s : State) (p : Packet), s.accepts p 0x0202 2 true → p.u8 12 ≤ 15 → p.u8 13 ≤ 1 →
    (s.flask (p.u8 12)).state ≠ .empty → (p.u8 13 = 1 ∨ ∀ j ∈ s.jobsOf (p.u8 12), (s.job j).live = false) →
    exec (.removeFlask p) s
      = .next (settle (sweepClosing (replyTo p 0 2 0 [] (removeFlask (p.u8 12) (s.taken p))))))
  ∧ (∀ (s : State) (p : Packet), s.accepts p 0x0203 12 true →
    let f := p.u8 12
    let x := s.flask f
    let sum := flaskNums.foldl (fun k g => if g = f then k else k + (s.flask g).share (p.u8 14)) (p.u32 16 % 1024)
    f ≤ 15 → p.u8 13 = 2 → p.u8 14 ≤ 13 → p.u16 16 ≤ 1000 → p.u16 18 ≤ 4095 → p.zeros 20 4 = true →
    x.state ≠ .empty → s.inSeries f = false → sum ≤ 1000 →
    exec (.stageFlask p) s = .next (answered p 0 2 0 [] ((s.taken p).setFlask f
      { x with staged := true, shadow := { x.shadow with bw := Tab.set 0 x.shadow.bw (p.u8 14) (p.u32 16) } })))
  ∧ (∀ (s : State) (p : Packet), s.accepts p 0x0203 12 true →
    let f := p.u8 12
    let x := s.flask f
    let q := (p.u8 16, p.u8 14)
    f ≤ 15 → p.u8 13 = 1 → p.u8 14 < queueCount (p.u8 16) → p.u8 17 = 1 → p.zeros 18 6 = true →
    x.state ≠ .empty → s.inSeries f = false → s.bankSeries = false →
    (∀ g ∈ flaskNums, g ≠ f → q ∉ (s.flask g).committed.queues ∧ q ∉ (s.flask g).shadow.queues) → q ∉ x.shadow.queues →
    exec (.stageFlask p) s = .next (answered p 0 2 0 [] ((s.taken p).setFlask f
      { x with staged := true, shadow := { x.shadow with queues := x.shadow.queues ++ [q] } })))
  ∧ (∀ (s : State) (p : Packet), s.accepts p 0x0204 24 true →
    let n := p.u8 12
    let ms := (List.range n).map fun k => p.u8 (14 + k)
    1 ≤ n → n ≤ 16 → p.u8 13 = 0 → p.u32 32 ≤ 10000 → (∀ f ∈ ms, f ≤ 15) → ms.Nodup →
    (∀ f ∈ ms, (s.flask f).commits = true ∧ s.anySeries f = false) → (s.taken p).orderOk ms = true →
    let g := if s.ex.lastGen = 0xFFFFFFFF then 1 else s.ex.lastGen + 1
    let tk := s.ticketOf p 0x0204
    exec (.commitConfig p) s = .next (awaiting tk { s.taken p with ex := { s.ex with
      lastGen := g, issued := (g, ms) :: s.ex.issued
      series := { kind := .config, generation := g, members := ms, timeoutMs := if p.u32 32 = 0 then 100 else p.u32 32
                  since := s.now, ticket := some tk } :: s.ex.series } }))
  ∧ (∀ (s : State) (p : Packet), s.accepts p 0x0205 4 true →
    let f := p.u8 12
    let c := p.u16 14
    let x := s.flask f
    f ≤ 15 → c < 1024 → x.state ≠ .empty → ((s.taken p).ctx c).state ≠ .free → ((s.taken p).ctx c).state ≠ .closing →
    s.flaskOfCtx c = none → c ∉ x.tenants → x.cls = 0 ∨ x.tenants = [] → x.tenants.length < 64 →
    exec (.admitTenant p) s
      = .next (answered p 0 2 0 [] ((s.taken p).setFlask f { x with tenants := x.tenants ++ [c] })))
  ∧ ∀ (s : State) (p : Packet), s.accepts p 0x0206 5 true →
    let f := p.u8 12
    let c := p.u16 14
    let x := s.flask f
    f ≤ 15 → c < 1024 → p.u8 16 = 0 → x.state ≠ .empty → c ∈ x.tenants → (∀ j ∈ s.jobsOfCtx c, (s.job j).flask ≠ f) →
    exec (.releaseTenant p) s
      = .next (answered p 0 2 0 [] ((s.taken p).setFlask f { x with tenants := x.tenants.filter (· ≠ c) }))

/-- RESET_FLASK of an ACTIVE, LOADED or STOPPED flask begins its reset and waits for it. QUERY_FLASK by the PF returns four words of
the committed or the shadow settings and changes nothing. START_FLASK of a LOADED free-running C0 flask, out of the safe state and
in a mode that runs its class, starts it. STOP_FLASK of an ACTIVE flask that no stop waits for marks the stop, which takes effect
at its parting line, and waits. A reset completes only when every block has confirmed. A confirmation removes its block and nothing
else. A compute die that does not confirm is lost; another block's silence is the safe-state cause REVOKE_TIMEOUT. A series whose
next member does not reach its parting line in time stops where it stands, and its command ends FAULTED with what has committed. -/
def Obligations.FlaskLifecycle : Prop :=
  (∀ (s : State) (p : Packet), s.accepts p 0x0207 1 true → p.u8 12 ≤ 15 →
    let x := s.flask (p.u8 12)
    x.state = .active ∨ x.state = .loaded ∨ x.state = .stopped →
    exec (.resetFlask p) s
      = .next (awaiting (s.ticketOf p 0x0207) (flaskReset (p.u8 12) (some (s.ticketOf p 0x0207)) (s.taken p))))
  ∧ (∀ (s : State) (p : Packet), s.accepts p 0x0208 2 false → p.u8 12 ≤ 15 → p.u8 13 ≤ 1 → (s.taken p).sender p = 0 →
    let h := if p.u8 13 = 1 then (s.flask (p.u8 12)).shadow else (s.flask (p.u8 12)).committed
    exec (.queryFlask p) s = .next (answered p 0 2 0
      ([0, 1, 2, 3].flatMap fun k => leBytes 4 ((s.taken p).flaskWord (p.u8 12) k h)) (s.taken p)))
  ∧ (∀ (s : State) (p : Packet), s.accepts p 0x0209 1 true → p.u8 12 ≤ 15 → s.safe.safeState = false →
    let x := s.flask (p.u8 12)
    x.state = .loaded ∨ x.state = .stopped → classRuns s.pa.mode x.cls = true → x.cls ≠ 3 → x.mode ≠ .paced →
    exec (.startFlask p) s = .next (answered p 0 2 0 [] (startFlask (p.u8 12) (s.taken p))))
  ∧ (∀ (s : State) (p : Packet), s.accepts p 0x020A 1 true → p.u8 12 ≤ 15 →
    let x := s.flask (p.u8 12)
    x.state = .active → x.stopTicket = none →
    exec (.stopFlask p) s = .next (awaiting (s.ticketOf p 0x020A) ((s.taken p).setFlask (p.u8 12)
      { x with stopPending := true, stopTicket := some (s.ticketOf p 0x020A) })))
  ∧ (∀ (s : State) (f : Nat), (s.flask f).state = .resetting → (s.flask f).unconfirmed = [] →
    exec (.flaskResetComplete f) s = .next (settle (sweepClosing (completeReset f s))))
  ∧ (∀ (s : State) (f b : Nat), exec (.revocationConfirm f b) s = .next (settle (s.setFlask f
      { s.flask f with unconfirmed := (s.flask f).unconfirmed.filter (· ≠ b) })))
  ∧ (∀ (s : State) (f b : Nat), b ∈ (s.flask f).unconfirmed →
    let t := s.setFlask f { s.flask f with unconfirmed := (s.flask f).unconfirmed.filter (· ≠ b) }
    (b < 4 → exec (.revokeTimeout f b) s = .next (settle (dieLost b .revocation t)))
    ∧ (4 ≤ b → exec (.revokeTimeout f b) s = .next (settle (safeCause 9 0x2C (some f) none false t))))
  ∧ ∀ (s : State) (r : Series) (t : Ticket), s.ex.series = [r] → r.stopped = false → r.kind = .config → r.ticket = some t →
    let u := advance (r.since + r.timeoutMs * 1000000) s
    exec (.seriesTimeout r.generation) s = .next (settle (sweepClosing
      (finish t 4 2 0x0B (leBytes 4 r.generation ++ leBytes 1 r.done)
        { u with ex := { u.ex with series := [{ r with stopped := true, ticket := none }] } })))

/-- LOAD_POUR_IMAGE by a tenant of a LOADED, ACTIVE or STOPPED flask that is not a tile-task flask, of an image that passes every
load check and needs no frame cleared, is answered OK with the number of the new job. START_JOB of a LOADED, ENDED or FAULTED job
makes it READY, at the end of the order of readiness, and waits for its placement. STOP_JOB of a RUNNING job with mode 0 makes it
DRAINING and waits. QUERY_JOB returns the state code, the fault cause, the iterations and the cores. UNLOAD_JOB frees the job. At a
placement the first ready job that fits and can be placed runs. A free-running job that shows no progress for STALL_MS faults. -/
def Obligations.JobCommands : Prop :=
  (∀ (s : State) (p : Packet) (im : PourImage) (t : State) (j : Nat), s.accepts p 0x0210 16 false → p.u8 12 ≤ 15 →
    p.u8 13 ≤ 1 → p.ring ∈ (s.flask (p.u8 12)).tenants → (s.flask (p.u8 12)).mode ≠ .tile →
    (s.flask (p.u8 12)).state = .loaded ∨ (s.flask (p.u8 12)).state = .active ∨ (s.flask (p.u8 12)).state = .stopped →
    loadImage (p.u8 12) p.ring im none (s.taken p) = .ok (t, j, []) → (t.flask (p.u8 12)).state ≠ .created →
    exec (.loadPourImage p im) s = .next (answered p 0 2 0 (leBytes 2 j) t))
  ∧ (∀ (s : State) (p : Packet), s.accepts p 0x0211 3 false → p.u16 12 < 4096 → p.u8 14 ≤ 1 → s.safe.safeState = false →
    let x := s.job (p.u16 12)
    let tk := s.ticketOf p 0x0211
    x.used = true → x.owner = p.ring → x.state = .loaded ∨ x.state = .ended ∨ x.state = .faulted →
    x.image.digest = moduleDigest (s.taken p) →
    let t := (s.taken p).setJob (p.u16 12) { x with
      state := .ready, repeats := p.u8 14 = 1, readyAt := s.ex.readyClock, passed := 0, cause := 0, iterations := 0
      fired := [], startTicket := some tk }
    exec (.startJob p) s = .next (awaiting tk { t with ex := { t.ex with readyClock := s.ex.readyClock + 1 } }))
  ∧ (∀ (s : State) (p : Packet), s.accepts p 0x0212 3 false → p.u16 12 < 4096 → p.u8 14 = 0 →
    let x := s.job (p.u16 12)
    let tk := s.ticketOf p 0x0212
    x.used = true → x.owner = p.ring → x.state = .running →
    exec (.stopJob p) s = .next (settle (sweepClosing (waitReply tk (((s.taken p).setJob (p.u16 12)
      { x with state := .draining, drainMode := 0 }).setJob (p.u16 12)
      { x with state := .draining, drainMode := 0, stopTicket := some tk })))))
  ∧ (∀ (s : State) (p : Packet), s.accepts p 0x0213 2 false → p.u16 12 < 4096 →
    let x := s.job (p.u16 12)
    x.used = true → x.owner = p.ring →
    exec (.queryJob p) s = .next (answered p 0 2 0 ([Config.jobStateCode x.state.row] ++ leBytes 1 x.cause ++ [0, 0]
      ++ leBytes 4 x.iterations ++ leBytes 4 x.cores.length) (s.taken p)))
  ∧ (∀ (s : State) (p : Packet), s.accepts p 0x0214 2 false → p.u16 12 < 4096 →
    let x := s.job (p.u16 12)
    x.used = true → x.owner = p.ring → x.state = .loaded ∨ x.state = .ended ∨ x.state = .faulted →
    exec (.unloadJob p) s
      = .next (answered p 0 2 0 [] (jobUnloaded (p.u16 12) ((s.taken p).setJob (p.u16 12) Job.rest))))
  ∧ (∀ (s : State) (f j : Nat) (cs : List (Nat × Nat)) (rest : List Nat), (s.flask f).state = .active → s.safe.safeState = false →
    s.readyJobs f = j :: rest → s.fits j = true → s.place j = some cs →
    exec (.jobPlacement f) s = .next (settle (sweepClosing (runJob j cs
      (s.setFlaskPower f { s.flaskPower f with waits := satAdd (s.flaskPower f).waits 0 })))))
  ∧ ∀ (s : State) (j : Nat), (s.job j).live = true → (s.flask (s.job j).flask).mode = .free →
    (∀ y ∈ s.ex.queues, y.1 / 64 ≠ 3) → exec (.jobStall j) s = .next (settle (sweepClosing (jobFault j 4 s)))

/-- CREATE_SYNC by a tenant gives the lowest-numbered free object of kind COUNTER (value of 32 bits), EVENT (bit 0) or BARRIER (16
bits and 1 to 1,024 parties), held by the flask, with its home at the die with most of the flask's cores, and returns its number.
DESTROY_SYNC by the owner frees one that no loaded job names. SIGNAL_SYNC by the owner: a counter adds AMOUNT of 1 to 65,535 modulo
2^32; an event is set by action 0 and cleared by 1; a barrier counts arrivals, and every full round of its parties adds one to the
phase; action 3 writes the value, clears the arrivals and the ABANDONED mark. An abandoned object ignores the other actions.
QUERY_SYNC returns the object's 8 state bytes. STALL_MS takes 1 to 10,000. -/
def Obligations.SynchronisationObjects : Prop :=
  (∀ (s : State) (p : Packet) (o : Nat), s.accepts p 0x0220 12 false →
    let k := p.u8 12
    let f := p.u8 14
    1 ≤ k → k ≤ 3 → f ≤ 15 → (k = 3 → 1 ≤ p.u16 18 ∧ p.u16 18 ≤ 1024) → (k ≠ 3 → p.u16 18 = 0) →
    p.ring ∈ (s.flask f).tenants → lowest (fun o => decide ((s.sync o).kind = .free)) 16384 0 = some o →
    exec (.createSync p) s = .next (answered p 0 2 0 (leBytes 2 o) ((s.taken p).setSync o { Sync.rest with
      kind := if k = 1 then .counter else if k = 2 then .event else .barrier
      value := if k = 1 then p.u32 20 else if k = 2 then p.u32 20 % 2 else p.u16 20
      parties := p.u16 18, holder := f, home := (s.taken p).homeDie f, owner := p.ring
      waiters := BitVec.ofNat 16 (p.u16 16) })))
  ∧ (∀ (s : State) (p : Packet), s.accepts p 0x0221 2 false → p.u16 12 < 16384 →
    (s.sync (p.u16 12)).kind ≠ .free → (s.sync (p.u16 12)).owner = p.ring → (s.taken p).syncNamed (p.u16 12) = false →
    exec (.destroySync p) s = .next (answered p 0 2 0 [] ((s.taken p).setSync (p.u16 12) Sync.rest)))
  ∧ (∀ (s : State) (p : Packet), s.accepts p 0x0222 8 false → p.u16 12 < 16384 →
    let o := p.u16 12
    let x := s.sync o
    let v := p.u32 16
    x.owner = p.ring →
    (x.kind = .counter → p.u8 14 = 0 → 1 ≤ v → v ≤ 65535 → x.abandoned = false →
      exec (.signalSync p) s
        = .next (answered p 0 2 0 [] ((s.taken p).setSync o { x with value := (x.value + v) % 2 ^ 32 })))
    ∧ (x.kind = .event → p.u8 14 ≤ 1 → x.abandoned = false →
      exec (.signalSync p) s
        = .next (answered p 0 2 0 [] ((s.taken p).setSync o { x with value := 1 - p.u8 14 })))
    ∧ (x.kind = .barrier → p.u8 14 = 0 → 1 ≤ v → v ≤ 1024 → x.abandoned = false →
      let a := x.arrivals + v
      exec (.signalSync p) s = .next (answered p 0 2 0 [] ((s.taken p).setSync o
        { x with value := (x.value + a / max 1 x.parties) % 65536, arrivals := a % max 1 x.parties })))
    ∧ (x.kind ≠ .free → p.u8 14 = 3 →
      exec (.signalSync p) s = .next (answered p 0 2 0 [] ((s.taken p).setSync o { x with
        value := if x.kind = .counter then v else if x.kind = .event then v % 2 else v % 65536
        arrivals := 0, abandoned := false })))
    ∧ (x.kind = .counter → p.u8 14 = 0 → 1 ≤ v → v ≤ 65535 → x.abandoned = true →
      exec (.signalSync p) s = .next (answered p 0 2 0 [] (s.taken p))))
  ∧ (∀ (s : State) (p : Packet), s.accepts p 0x0223 2 false → p.u16 12 < 16384 →
    (s.sync (p.u16 12)).kind ≠ .free → (s.sync (p.u16 12)).owner = p.ring →
    exec (.querySync p) s
      = .next (answered p 0 2 0 (leBytes 8 ((s.taken p).syncState (p.u16 12))) (s.taken p)))
  ∧ ∀ (s : State) (v : Word), s.pfServed = true → 1 ≤ v.toNat % 16384 → v.toNat % 16384 ≤ 10000 →
    exec (.stallMs v) s = .next (settle { s with ex := { s.ex with stallMs := v.toNat % 16384 } })

/-- An entry at the head of its queue whose flask may issue, whose order allows it, whose waits are met by objects that are not
abandoned, and which no T0 raise holds, issues: the head moves on to the next entry and the entry is in flight. Its completion, with
nothing that holds it back, is the one completion of an entry: its output, its result, its signals. A NOP entry completes. A step that
can fire, in flight, next on its core, not metered, fires. A paced step that has not fired at the end of its end span is stopped: its
outputs are missing, and PACE_OVERRUN is noted. A boundary moves the time to the next edge, serves every flask due there, and at an
edge of 50 us checks the safety outputs. At a parting line of a running module everything due at the flask's parting line takes
effect. -/
def Obligations.IssueAndFiring : Prop :=
  (∀ (s : State) (e q : Nat) (r : PourRun) (rest : List PourRun) (en : Entry), e ≠ 1 → (s.queue e q).pours = r :: rest →
    r.entries[r.next]? = some en → s.mayIssue r = true → orderLets e r = true → s.waitsMet r en = true →
    s.entryMoving e q r.next = false → s.waitAbandoned en = false →
    exec (.entryIssue e q) s = .next (settle (traceNote 2 e r.next (setHead e q
      { r with next := r.next + 1, inFlight := r.inFlight ++ [r.next], pulsed := [] } s))))
  ∧ (∀ (s : State) (q j : Nat) (r : PourRun) (rest : List PourRun) (en : Entry), (s.queue 1 q).pours = r :: rest →
    r.entries[r.next]? = some en → s.mayIssue r = true → orderLets 1 r = true → s.waitsMet r en = true →
    s.entryMoving 1 q r.next = false → s.waitAbandoned en = false → r.job = some j →
    exec (.entryIssue 1 q) s = .next (settle (issueToken j r.pour r.next (noteLate j q r.next
      (traceNote 2 1 r.next (setHead 1 q
        { r with next := r.next + 1, inFlight := r.inFlight ++ [r.next], pulsed := [] } s))))))
  ∧ (∀ (s : State) (e q k agree unit : Nat) (r : PourRun) (rest : List PourRun), (s.queue e q).pours = r :: rest →
    k ∈ r.inFlight → s.entryHeld r k = false → s.entryMoving e q k = false → (e = 1 → s.forkPending q k = false) →
    (e = 3 → s.takeWaits q k = false) → (s.flask r.flask).cls = 0 →
    exec (.entryComplete e q k agree unit) s = .next (settle (sweepClosing (completeEntry e q k false s))))
  ∧ (∀ (s : State) (e q k : Nat) (r : PourRun) (rest : List PourRun) (en : Entry), (s.queue e q).pours = r :: rest →
    r.entries[k]? = some en → en.op % 4096 = 0 →
    exec (.nopEntry e q k) s = .next (settle (sweepClosing (completeEntry e q k false s))))
  ∧ (∀ (s : State) (j i : Nat) (st : Step), (s.job j).image.steps[i]? = some st → (s.job j).live = true →
    (s.job j).canFire st = true → s.entryInFlight j st.entry = true → s.isNextStep j i st = true →
    (s.flask (s.job j).flask).mode ≠ .paced → (s.job j).flask ∉ s.pa.meteredFlasks → s.tokenHeld j st = false →
    s.safe.safeState = false →
    exec (.coreStepFire j i .none) s = .next (settle (fireStep j i st s))
    ∧ exec (.coreStepFire j i .illegal) s = .next (settle (sweepClosing (jobFault j 1 s)))
    ∧ exec (.coreStepFire j i .translation) s = .next (settle (sweepClosing (jobFault j 2 s))))
  ∧ (∀ (s : State) (j i : Nat) (st : Step), (s.job j).image.steps[i]? = some st → (s.job j).live = true →
    (s.job j).begun = true → (s.flask (s.job j).flask).mode = .paced → st.endSpan < (s.flask (s.job j).flask).span →
    i ∈ (s.job j).inFlight → s.safe.safeState = false →
    let x := s.job j
    let t := s.setJob j { x with inFlight := x.inFlight.filter (· ≠ i), missing := (x.missing ++ [i]).dedup }
    exec (.paceOverrun j i) s = .next (settle (sweepClosing (paceOverrun x.flask
      (t.setC3 x.flask { t.c3 x.flask with held := (t.c3 x.flask).held.filter fun h => !decide (h = (j, i)) })))))
  ∧ (∀ (s : State) (data : List (Nat × Nat × List Byte)), s.lines.trigLive = true →
    let b := s.nextEdge
    let due := s.pacedFlasks.filter fun f => decide (s.nextBoundary f = b)
    let t := overList (flaskBoundary b data) due (advance b s)
    (b ≠ s.nextFifty → exec (.spanBoundary data) s = .next (settle (sweepClosing t)))
    ∧ (b = s.nextFifty → exec (.spanBoundary data) s = .next (settle (sweepClosing
        (checkOutputs (applyClasses { t with safe := { t.safe with lastFifty := b } }))))))
  ∧ ∀ (s : State) (f : Nat), s.lines.run = .running → s.atParting f = true →
    exec (.partingLine f) s = .next (settle (settleMoves (partingLine f s)))

/-- A step that fires takes one token from each edge that it reads and puts one on each edge that it writes (an edge named once on
one side), counts the firing, and leaves every other edge, every other job, every flask, every object, the queues, memory and the
host as they were. A job that faults ends FAULTED with the cause, its owner's event word gets JOB_FAULT; with an abandoned object as
the cause nothing more happens; in a C0 flask with two or more tenants its context is torn down; else its flask is reset. A job that
is not live is untouched. -/
def Obligations.StepsAndFaults : Prop :=
  (∀ (s : State) (j i : Nat) (st : Step), st.ins.Nodup → st.outs.Nodup → (∀ e ∈ st.ins, e ∉ st.outs) →
    let t := fireStep j i st s
    (∀ e, Tab.wf 0 (s.job j).tokens = true → Tab.get 0 (t.job j).tokens e
        = if e ∈ st.ins then Tab.get 0 (s.job j).tokens e - 1
          else if e ∈ st.outs then Tab.get 0 (s.job j).tokens e + 1 else Tab.get 0 (s.job j).tokens e)
    ∧ (∀ k, k ≠ j → t.job k = s.job k)
    ∧ t = { s with ex := { s.ex with jobs := t.ex.jobs }, safe := { s.safe with c3 := t.safe.c3 } })
  ∧ (∀ (s : State) (j cause : Nat), (s.job j).live = false → jobFault j cause s = s)
  ∧ (∀ (s : State) (j : Nat), (s.job j).live = true → jobFault j 7 s = jobFaulted j 7 s)
  ∧ (∀ (s : State) (j cause : Nat), (s.job j).live = true → cause ≠ 7 → (s.flask (s.job j).flask).cls = 0 →
      2 ≤ (s.flask (s.job j).flask).tenants.length →
      jobFault j cause s = contextTeardown (s.job j).owner (jobFaulted j cause s))
  ∧ ∀ (s : State) (j cause : Nat), (s.job j).live = true → cause ≠ 7 →
      ((s.flask (s.job j).flask).cls ≠ 0 ∨ (s.flask (s.job j).flask).tenants.length < 2) →
      jobFault j cause s = flaskReset (s.job j).flask none (jobFaulted j cause s)

/-- SUBMIT_POUR by a tenant of a free-running C0 flask, of 1 to 65,536 valid entries read from its memory, on a queue of the flask that
holds at most 16 pours, puts the pour at the end of the queue. LOAD_TILE_PROGRAM by a tenant of a C0 tile-task flask that is not
resetting marks the program, and a CREATED flask is then LOADED. SUBMIT_TILES of tasks of at most 1 MiB, with at most 4,096 in all,
queues them for the sender and dispatches, returning the number held. A completed task leaves its core, and the hub dispatches
again. -/
def Obligations.SubmittedWork : Prop :=
  (∀ (s : State) (p : Packet) (params f : Nat), s.accepts p 0x0230 24 false →
    let n := p.u32 24
    let es := readEntries n (chunks 32 n ((s.taken p).vread p.ring (p.u64 16) (32 * n)))
    let e := (es.headD { op := 0 }).op / 4096
    p.u8 12 < 64 → 1 ≤ n → n ≤ 65536 → s.safe.safeState = false → s.flaskOfCtx p.ring = some f →
    (s.flask f).mode = .free → (s.flask f).cls = 0 → (s.taken p).rangeOk p.ring (p.u64 16) (32 * n) false = true →
    s.engineGone e = false → (s.taken p).pourValid f ⟨e, p.u8 12, es, params⟩ = true →
    (e, p.u8 12) ∈ (s.flask f).committed.queues → (s.queue e (p.u8 12)).pours.length ≤ 16 →
    exec (.submitPour p params []) s = .next (settle (sweepClosing (replyTo p 0 2 0 []
      (enqueue e (p.u8 12) { job := none, ctx := p.ring, flask := f, entries := es } (s.taken p))))))
  ∧ (∀ (s : State) (p : Packet), s.accepts p 0x0231 16 false →
    let x := s.flask (p.u8 12)
    p.u8 12 ≤ 15 → p.u8 13 ≤ 1 → p.ring ∈ x.tenants → x.mode = .tile → x.cls = 0 → x.state ≠ .resetting →
    exec (.loadTileProgram p) s = .next (answered p 0 2 0 [] ((s.taken p).setFlask (p.u8 12)
      { x with tileProgram := true, state := if x.state = .created then .loaded else x.state })))
  ∧ (∀ (s : State) (p : Packet) (f : Nat) (ts : List (Option (Nat × Nat) × Nat)), s.accepts p 0x0232 16 false →
    let x := s.flask f
    s.safe.safeState = false → s.flaskOfCtx p.ring = some f → x.mode = .tile → x.tileProgram = true →
    ts.length = p.u32 24 → x.tasks.length + ts.length ≤ 4096 → (∀ k ∈ ts, k.2 ≤ 0x100000) →
    let y := { x with tasks := x.tasks ++ ts.map fun k => { ctx := p.ring, hint := k.1 } }
    exec (.submitTiles p ts) s = .next (answered p 0 2 0 (leBytes 4 y.tasks.length)
      (dispatchTiles f ((s.taken p).setFlask f y))))
  ∧ ∀ (s : State) (f : Nat) (c : Nat × Nat),
    exec (.tileTaskComplete f c) s = .next (settle (dispatchTiles f (s.setFlask f
      { s.flask f with tasks := (s.flask f).tasks.filter fun t => decide (t.core ≠ some c) })))

/-- A partial record takes 16 bytes: V as a 96-bit little-endian number, then bit 0 NAN, bit 1 PINF and bit 2 NINF, then zeros. Two
records combine by adding V and OR-ing the flags. The result is exact: products reduced on several cores and combined give the
accumulator of all of them reduced on one, however they are split; and reducing them in another order gives the same accumulator. -/
def Obligations.PartialRecords : Prop :=
  (∀ a : Acc, a.bytes.length = 16
    ∧ a.bytes.take 12 = leBytes 12 (twosOf 96 a.v)
    ∧ a.bytes.drop 13 = [0, 0, 0]
    ∧ ∀ b : Byte, a.bytes[12]? = some b → b.getLsbD 0 = a.nan ∧ b.getLsbD 1 = a.pinf ∧ b.getLsbD 2 = a.ninf ∧ b.toNat < 8)
  ∧ (∀ a b : Acc, (a.join b).v = a.v + b.v ∧ (a.join b).nan = (a.nan || b.nan) ∧ (a.join b).pinf = (a.pinf || b.pinf)
      ∧ (a.join b).ninf = (a.ninf || b.ninf))
  ∧ (∀ parts : List (List (Machine.Num × Machine.Num)),
      (parts.map fun ps => ps.foldl (fun (a : Acc) p => a.add p.1 p.2) {}).foldl Acc.join {}
        = (parts.flatMap id).foldl (fun (a : Acc) p => a.add p.1 p.2) {})
  ∧ ∀ ps qs : List (Machine.Num × Machine.Num), ps.Perm qs →
      ps.foldl (fun (a : Acc) p => a.add p.1 p.2) {} = qs.foldl (fun (a : Acc) p => a.add p.1 p.2) {}

/-- For a record with EXP between MIN and MAX: after an execution, whatever the counts, EXP is again between MIN and MAX and has moved
by at most 1; while a hold runs it does not move; more saturations than the limit never move it down, and none with underflows above
their limit never move it up; the limits, bounds and HOLD stay. Readout: a NaN, or infinities of both signs, give NaN; infinities of
one sign give that infinity; no flag and V = 0 give +0. -/
def Obligations.DriftKeepsItsBounds : Prop :=
  (∀ (d : Drift) (c : Counts), d.minExp ≤ d.exp → d.exp ≤ d.maxExp →
    let t := d.move c
    d.minExp ≤ t.exp ∧ t.exp ≤ d.maxExp ∧ t.exp - d.exp ≤ 1 ∧ d.exp - t.exp ≤ 1
    ∧ (0 < d.holdLeft → t.exp = d.exp ∧ t.holdLeft = d.holdLeft - 1)
    ∧ (d.satLimit < c.sat → d.exp ≤ t.exp) ∧ (c.sat = 0 → t.exp ≤ d.exp)
    ∧ (t.exp ≠ d.exp → t.holdLeft = d.hold ∧ (d.moves < 255 → t.moves = d.moves + 1))
    ∧ t.minExp = d.minExp ∧ t.maxExp = d.maxExp ∧ t.satLimit = d.satLimit ∧ t.ufLimit = d.ufLimit ∧ t.hold = d.hold)
  ∧ ∀ (a : Acc) (sa sw so : Int),
    ((a.nan = true ∨ (a.pinf = true ∧ a.ninf = true)) → a.readout sa sw so = .nan)
    ∧ (a.nan = false → a.pinf = true → a.ninf = false → a.readout sa sw so = .inf false)
    ∧ (a.nan = false → a.pinf = false → a.ninf = true → a.readout sa sw so = .inf true)
    ∧ (a.nan = false → a.pinf = false → a.ninf = false → a.v = 0 → a.readout sa sw so = .fin false 0 0)

/-- Of a job of the sender's: QUERY_DRIFT of a declared tensor returns its 8-byte record; SET_DRIFT within its ranges waits for the
parting line with the new record. Of one of its streams: QUERY_STREAM returns steps, time, flags, tier and length; RESET_STREAM waits
with the stream's other commands; EXPORT_STREAM in a flask that stands still writes the capsule at once and returns its length and
the steps, and waits in one that runs; IMPORT_STREAM of a capsule whose CRC-32C, layout hash, length and digest agree waits with its
state. Nothing else changes at take-up. -/
def Obligations.DriftAndStreamCommands : Prop :=
  (∀ (s : State) (p : Packet), s.accepts p 0x0240 4 false → p.u16 12 < 4096 → (s.job (p.u16 12)).used = true →
    (s.job (p.u16 12)).owner = p.ring → (s.driftDecl (p.u16 12) (p.u16 14)).isSome = true →
    exec (.queryDrift p) s
      = .next (answered p 0 2 0 (leBytes 8 ((s.taken p).drift (p.u16 12) (p.u16 14)).word) (s.taken p)))
  ∧ (∀ (s : State) (p : Packet), s.accepts p 0x0241 13 false → p.u16 12 < 4096 →
    let x := s.job (p.u16 12)
    let tk := s.ticketOf p 0x0241
    x.used = true → x.owner = p.ring → (s.driftDecl (p.u16 12) (p.u16 14)).isSome = true → driftInvalid p = false →
    x.state ≠ .ended → x.state ≠ .faulted →
    let d : Drift := { exp := twosVal 8 (p.u8 16), minExp := twosVal 8 (p.u8 17), maxExp := twosVal 8 (p.u8 18)
                       satLimit := p.u16 20, ufLimit := p.u16 22, hold := p.u8 24 }
    exec (.setDrift p) s = .next (awaiting tk { s.taken p with ta := { s.ta with
      driftSets := s.ta.driftSets ++ [(p.u16 12, p.u16 14, d, some tk)] } }))
  ∧ (∀ (s : State) (p : Packet) (k : Nat), p.u16 12 < 4096 → (s.job (p.u16 12)).used = true →
    (s.job (p.u16 12)).owner = p.ring → s.streamOf (p.u16 12) (p.u16 14) = some k →
    let x := s.stream k
    (s.accepts p 0x0250 4 false → exec (.queryStream p) s = .next (answered p 0 2 0
      (leBytes 8 x.steps ++ leBytes 8 x.lastTime ++ leBytes 1 (flagAt 0 x.nonfinite + fieldAt 1 3 x.tier) ++ [0, 0, 0]
        ++ leBytes 4 x.state.length) (s.taken p)))
    ∧ (s.accepts p 0x0251 4 false → exec (.resetStream p) s = .next (awaiting (s.ticketOf p 0x0251)
        ((s.taken p).setStream k { x with ops := x.ops ++ [.reset (s.ticketOf p 0x0251)] })))
    ∧ (s.accepts p 0x0252 28 false → p.u8 16 = 0 → 64 + x.state.length ≤ p.u64 32 →
        (s.flask (s.job (p.u16 12)).flask).state.still = true → x.ops = [] →
        let c := (s.taken p).capsule k
        exec (.exportStream p) s = .next (answered p 0 2 0 (leBytes 8 c.length ++ leBytes 8 x.steps)
          { s.taken p with hostMem := Memory.write s.hostMem (p.u64 24) c }))
    ∧ (s.accepts p 0x0252 28 false → p.u8 16 = 0 → 64 + x.state.length ≤ p.u64 32 →
        (s.flask (s.job (p.u16 12)).flask).state.still = false →
        exec (.exportStream p) s = .next (awaiting (s.ticketOf p 0x0252) ((s.taken p).setStream k
          { x with ops := x.ops ++ [.exporting (s.ticketOf p 0x0252) false (p.u64 24)] })))
    ∧ (s.accepts p 0x0253 20 false → p.u8 16 = 0 → p.u8 17 ≤ 1 →
        let head := Memory.read s.hostMem (p.u64 24) 64
        let body := Memory.read s.hostMem (p.u64 24 + 64) x.state.length
        fieldOf head 32 8 = x.state.length → x.state.length ≤ 2 ^ 26 → crc32c (head.take 60 ++ body) = fieldOf head 60 4 →
        fieldOf head 8 8 = x.layout → fieldOf head 2 2 = moduleDigest (s.taken p) % 65536 →
        (s.flask (s.job (p.u16 12)).flask).cls ≠ 3 →
        exec (.importStream p) s = .next (awaiting (s.ticketOf p 0x0253) ((s.taken p).setStream k
          { x with ops := x.ops ++ [.importing (s.ticketOf p 0x0253) (fieldOf head 16 8) (bitAt (fieldOf head 40 1) 0) false
                                    body] }))))

/-- An entry in flight of each operation, with a record that its load checks admit: CONV and DWCONV write one row of C_OUT values for
each output pixel of the band as the output tensor stores them; S2C and C2S move stored codes and row scales to the output; RECUR,
SSM_STEP and SCAN, for a stream of the job in which this entry has staged nothing yet and a row with LEN other than 0, write their
output row or rows and stage the stream's new state, which the entry's completion makes the home copy. The effect on the state is
that of these writes and of the counts of conversion only. -/
def Obligations.ConvolutionAndSequenceOperations : Prop :=
  (∀ (s : State) (q k : Nat) (core : Nat × Nat) (x : ConvRec) (ep : List EpOp) (ts : List TDesc) (r : PourRun) (en : Entry),
    (s.arrayEntry q k 0x010 = some (r, en) → x.valid (en.tensor ts 0).fmt false = true →
      ((en.tensor ts 0).scale = 0 ∨ (en.tensor ts 0).scale = 1 ∨ (en.tensor ts 0).scale = 5) →
      exec (.conv q k core x ep ts) s
        = .next (settle (putRows core r (en.tensor ts 2) x.cOut 0 (s.convRows r.ctx en ep ts x) s)))
    ∧ (s.arrayEntry q k 0x013 = some (r, en) → x.valid (en.tensor ts 0).fmt true = true →
      exec (.dwconv q k core x ep ts) s
        = .next (settle (putRows core r (en.tensor ts 2) x.cOut 0 (s.dwRows r.ctx en ep ts x) s))))
  ∧ (∀ (s : State) (q k : Nat) (x : RegroupRec) (ts : List TDesc) (r : PourRun) (en : Entry), x.valid = true →
    let a := en.tensor ts 0
    let o := en.tensor ts 2
    (s.arrayEntry q k 0x014 = some (r, en) → exec (.s2c q k x ts) s = .next (settle
      (vwrite r.ctx o.va ((s.s2cCodes r.ctx a x).flatMap (leBytes a.fmt.bytes)) (moveScales r.ctx a o (x.inW * x.inH) s))))
    ∧ (s.arrayEntry q k 0x015 = some (r, en) → exec (.c2s q k x ts) s = .next (settle
      (vwrite r.ctx o.va ((s.c2sCodes r.ctx a x).flatMap (leBytes a.fmt.bytes)) (moveScales r.ctx a o (x.outW * x.outH) s)))))
  ∧ (∀ (s : State) (q k m : Nat) (core : Nat × Nat) (x : RecurRec) (ts : List TDesc) (row : Option (Nat × Bool)) (r : PourRun)
      (en : Entry), s.arrayEntry q k 0x020 = some (r, en) → s.streamFor r q k x.stream = some m → x.valid = true →
    (∀ y, row = some y → y.1 ≠ 0) →
    let fresh := match row with | some y => y.2 | none => false
    let units := s.recurUnits r.ctx en ts x (s.streamState m fresh)
    exec (.recur q k core x ts row) s = .next (settle (putRow core r (en.tensor ts 2) x.h 0
      (units.map fun u => f32 (u.getD x.outSlot 0))
      (stageState q k m ((List.range x.states).flatMap fun i => units.map fun u => u.getD (6 + i) 0) fresh s))))
  ∧ (∀ (s : State) (q k m : Nat) (core : Nat × Nat) (x : SsmRec) (ts : List TDesc) (row : Option (Nat × Bool)) (r : PourRun)
      (en : Entry), s.arrayEntry q k 0x021 = some (r, en) → s.streamFor r q k x.stream = some m → 1 ≤ x.n → x.n ≤ 64 →
    (∀ y, row = some y → y.1 ≠ 0) →
    let fresh := match row with | some y => y.2 | none => false
    let ys := s.ssmChannels r.ctx en ts x (s.streamState m fresh)
    exec (.ssmStep q k core x ts row) s = .next (settle (putRow core r (en.tensor ts 2) x.channels 0
      (ys.map fun y => f32 y.2) (stageState q k m (ys.flatMap (·.1)) fresh s))))
  ∧ ∀ (s : State) (q k m : Nat) (core : Nat × Nat) (x : ScanRec) (ts : List TDesc) (row : Option (Nat × Bool)) (r : PourRun)
      (en : Entry), s.arrayEntry q k 0x022 = some (r, en) → s.streamFor r q k x.stream = some m →
    (∀ y, row = some y → y.1 ≠ 0) →
    let fresh := match row with | some y => y.2 | none => false
    let ys := s.scanChannels r.ctx en ts x (s.streamState m fresh)
    exec (.scan q k core x ts row) s = .next (settle (putRows core r (en.tensor ts 2) x.channels 0
      ((List.range x.steps).map fun t => ys.map fun y => f32 (y.1.getD t 0))
      (stageState q k m (ys.map (·.2)) fresh s)))

/-- A coordinate that a padding mode reads lies within its axis (in mode 2, which reflects, for coordinates at most n - 1 beyond either
end, as the record's limits require). SCAN's chunks have lengths that sum to T and differ by at most one, the longer first;
with one chunk its outputs are those of the plain recurrence, h := a h + b rounded once per step, and its last state the last output.
A gate program changes no slot after its first END. -/
def Obligations.WindowsAndChunks : Prop :=
  (∀ (mode n m : Nat) (c : Int), 1 ≤ n → mode ≤ 3 → padCoord mode n c = some m →
    (mode = 2 → -((n : Int) - 1) ≤ c ∧ c ≤ 2 * ((n : Int) - 1)) → m < n)
  ∧ (∀ t p : Nat, 1 ≤ p → (chunkLengths t p).sum = t ∧ (chunkLengths t p).length = p
      ∧ ∀ k, k < p → (chunkLengths t p)[k]? = some (if k < t % p then t / p + 1 else t / p))
  ∧ (∀ (h : Nat) (ab : List (Nat × Nat)), scanChunks h [ab] = recurrence h ab
      ∧ (recurrence h ab).1.length = ab.length ∧ ((recurrence h ab).1.getLast?.getD h) = (recurrence h ab).2
      ∧ ∀ a b, recurrence h (ab ++ [(a, b)])
          = ((recurrence h ab).1 ++ [ffma a (recurrence h ab).2 b], ffma a (recurrence h ab).2 b))
  ∧ ∀ (gs rest : List GateOp) (e : GateOp) (m : List Nat), e.op = 0 → runGates (gs ++ e :: rest) m = runGates gs m

/-- By a tenant of the flask: CREATE_SEQUENCE of an allowed layout, in a free-running C0 flask or with PREALLOC, makes the lowest
FREE sequence LIVE with its window and its key, and returns its number, tokens per page, layout hash and window base. Of a sequence of
the sender's flask: QUERY returns FILL, LIVE_FIRST, groups per tier, state, flags and base; TRIM to n within its range sets FILL and
returns n, and waits while a step is in flight; DESTROY frees it, and waits while a step is in flight. FORK_SEQUENCE makes the targets
at the lowest run of FREE numbers and forks them in order. QUERY_FAMILY returns members and groups; DESTROY_FAMILY frees the members
that no step holds. -/
def Obligations.SequenceAndFamilyCommands : Prop :=
  (∀ (s : State) (p : Packet) (q : Nat) (t : State), s.accepts p 0x0320 16 false →
    let f := p.u8 12
    let base : Seq := { owner := p.ring, flask := f, layers := p.u16 14, lLat := p.u16 16, rPos := p.u8 18
                        fmt := Fmt.ofCode (p.u8 19), big := bitAt (p.u8 13) 2, maxTokens := p.u32 24, pinHead := p.u8 20
                        slide := bitAt (p.u8 13) 0, prealloc := bitAt (p.u8 13) 1 }
    let x := { base with pTok := pTokOf (bytesOf base.big) base.recSize, hash := base.layoutHash }
    f ≤ 15 → p.u8 13 < 8 → p.ring ∈ (s.flask f).tenants → p.u8 19 = 0 ∨ p.u8 19 = 1 ∨ p.u8 19 = 3 → x.layoutOk = true →
    lowest (fun q => decide ((s.seq q).state = .free)) 65536 0 = some q →
    (x.prealloc = true ∨ ((s.flask f).mode ≠ .paced ∧ (s.flask f).cls = 0)) →
    makeSeq q { x with key := q } (s.taken p) = .ok t →
    exec (.createSequence p) s
      = .next (answered p 0 3 0 (leBytes 2 q ++ leBytes 2 x.pTok ++ leBytes 4 x.hash ++ leBytes 6 (t.seq q).wbase) t))
  ∧ (∀ (s : State) (p : Packet),
    let x := s.seq (p.u16 12)
    x.state ≠ .free → p.ring ∈ (s.flask x.flask).tenants →
    (s.accepts p 0x0321 2 false → x.step = none →
      let t := freeSeq (p.u16 12) (s.taken p)
      exec (.destroySequence p) s
        = .next (settle (settleMoves (replyTo p 0 3 0 [] (runForks t.ta.forkWaits [] t)))))
    ∧ (s.accepts p 0x0321 2 false → x.step ≠ none →
      exec (.destroySequence p) s = .next (settle (settleMoves (waitReply (s.ticketOf p 0x0321) ((s.taken p).setSeq (p.u16 12)
        { x with state := .closing, closers := x.closers ++ [s.ticketOf p 0x0321] })))))
    ∧ (s.accepts p 0x0322 2 false → exec (.querySequence p) s = .next (answered p 0 3 0
        (leBytes 4 x.fill ++ leBytes 4 x.liveFirst ++ leBytes 2 ((s.taken p).groupsIn (p.u16 12) 1)
          ++ leBytes 2 ((s.taken p).groupsIn (p.u16 12) 2) ++ leBytes 1 x.state.code
          ++ leBytes 1 (flagAt 0 x.lost + fieldAt 1 2 x.cause) ++ [0, 0] ++ leBytes 6 x.wbase) (s.taken p)))
    ∧ (s.accepts p 0x0323 8 false → p.u32 16 ≤ x.fill → (x.lost = true → x.liveFirst < p.u32 16) →
      (x.step = none → exec (.trimSequence p) s = .next (settle (settleMoves
        (replyTo p 0 3 0 (leBytes 4 (p.u32 16)) (trimSeq (p.u16 12) (p.u32 16) (s.taken p))))))
      ∧ (x.step ≠ none → exec (.trimSequence p) s = .next (settle (settleMoves (waitReply (s.ticketOf p 0x0323)
        ((s.taken p).setSeq (p.u16 12) { x with trim := x.trim ++ [(p.u32 16, s.ticketOf p 0x0323)] })))))))
  ∧ (∀ (s : State) (p : Packet) (b k : Nat) (t : State), s.accepts p 0x0324 18 false →
    let a := p.u16 12
    let x := s.seq a
    let y : Seq := { x with owner := p.ring, family := some k, groups := [], step := none, stepLen := 0, stepHeld := false
                            trim := [], closers := [], cause := 0 }
    x.state = .live → p.ring ∈ (s.flask x.flask).tenants → p.u16 14 = 1 → p.u8 16 = 0 → p.u48 24 = 0 → x.family = some k →
    (s.members k).length < 4096 → s.freeRun 1 = some b → x.step = none →
    makeTargets y [(b, x.slide)] ((s.taken p).setSeq a { x with family := some k }) = .ok t → s.forkNames a = false →
    exec (.forkSequence p) s = .next (settle (settleMoves (replyTo p 0 3 0
      (leBytes 2 b ++ leBytes 2 k ++ leBytes 4 ((t.seq b).wbase / 65536))
      (forkSeq a b (p.u32 20 % 2 ^ 32)
        { t with ta := { t.ta with familyPeak := max t.ta.familyPeak t.families.length } })))))
  ∧ ∀ (s : State) (p : Packet) (q : Nat) (ms : List Nat), s.members (p.u16 12) = q :: ms →
    p.ring ∈ (s.flask (s.seq q).flask).tenants →
    let gs := (s.taken p).familyGroups (p.u16 12)
    (s.accepts p 0x0326 2 false → exec (.queryFamily p) s = .next (answered p 0 3 0
      (leBytes 2 (ms.length + 1) ++ [0, 0] ++ leBytes 4 (gs.filter fun g => 1 < (s.taken p).refs g).length
        ++ leBytes 4 gs.length) (s.taken p)))
    ∧ (s.accepts p 0x0325 2 false → (∀ m ∈ q :: ms, (s.seq m).step = none) →
      let t := (q :: ms).foldl (fun s m => freeSeq m s) (s.taken p)
      exec (.destroyFamily p) s = .next (settle (settleMoves (replyTo p 0 3 0 [] (runForks t.ta.forkWaits [] t)))))

/-- Of an entry in flight over a sound length table: a FIRST KV_APPEND whose rows may all open, and that spills no page, opens the
steps and appends the records of every row; a later one appends to the steps that are open; LAST notes the table, whose steps close
with the entry. ATTEND writes every row's output, reads spilled pages, prefetches for layer l + 2, and writes the header array where
it has one. ATTEND_PACKED writes the batch's rows. KV_FORK of a sound table whose rows break no rule acts on them in order. SAMPLE,
when no step of its rows is in flight, writes one code per token. -/
def Obligations.AttentionOperations : Prop :=
  (∀ (s : State) (q k : Nat) (core : Nat × Nat) (a : AttRec) (ts : List TDesc) (r : PourRun) (en : Entry) (row : LenRow)
      (rest : List LenRow), s.arrayEntry q k 0x030 = some (r, en) →
    let table := (en.tensor ts 1).va
    s.lenTableBad r.ctx table r.flask a.layout a.batch = false → s.lenRows r.ctx table = row :: rest → a.last = false →
    let run := fun (t : State) =>
      let theta := if a.rope then t.theta r.ctx (en.tensor ts 2).va ((t.seq row.seq).rPos / 2) else []
      let u := (row :: rest).foldl (fun s x => appendRow core r (en.tensor ts 0) theta a table x s) t
      settle (settleMoves (noteOwn 1 q k (heldOut ((row :: rest).any (u.rowHeld table)) u) u))
    (a.first = false → exec (.kvAppend q k core a ts) s = .next (run s))
    ∧ (a.first = true → (row :: rest).all (s.rowMayOpen table) = true → ∀ t, openSteps r.ctx table 0 (row :: rest) s = (t, []) →
      exec (.kvAppend q k core a ts) s = .next (run t)))
  ∧ (∀ (s : State) (q k : Nat) (core : Nat × Nat) (a : AttRec) (ts : List TDesc) (r : PourRun) (en : Entry) (row : LenRow)
      (rest : List LenRow), s.arrayOnce q k 0x031 = some (r, en) →
    let table := (en.tensor ts 1).va
    s.lenTableBad r.ctx table r.flask a.layout a.batch = false → s.lenRows r.ctx table = row :: rest →
    let rows := row :: rest
    let gs := s.spilledGroups rows
    let t := rows.foldl (fun s x => attRow core r en ts a table x s) s
    let u := attPrefetch r a.layer (s.seq row.seq).layers gs (returnRead r.flask (gs.map (t.layerPage a.layer)) t)
    let v := noteOwn 1 q k (heldOut (rows.any (t.rowHeld table)) u) u
    exec (.attend q k core a ts) s = .next (settle (settleMoves (if a.headers then
      vwrite r.ctx (en.tensor ts 5).va (rows.flatMap fun x => (v.rowHeader r k en table x).bytes) v else v))))
  ∧ (∀ (s : State) (q k : Nat) (core : Nat × Nat) (a : AttRec) (ts : List TDesc) (r : PourRun) (en : Entry),
    s.arrayEntry q k 0x032 = some (r, en) →
    exec (.attendPacked q k core a ts) s
      = .next (settle (putRows core r (en.tensor ts 4) (a.hq * a.dh) 0 (s.packedRows r.ctx en ts a) s)))
  ∧ (∀ (s : State) (q k : Nat) (r : PourRun) (en : Entry) (t : State), s.arrayOnce q k 0x033 = some (r, en) →
    let va := en.tensors.getD 0 0
    let n := s.vnum r.ctx va 2
    1 ≤ n → n ≤ 256 → s.vread r.ctx (va + 2) 14 = List.replicate 14 0 →
    forkRows q k r.ctx va r.flask 0 ((List.range n).map (s.forkRow r.ctx va)) [] (noteActed q k s) = (t, false) →
    exec (.kvFork q k) s = .next (settle (settleMoves t)))
  ∧ ∀ (s : State) (q k : Nat) (x : SampleRec) (ts : List TDesc) (r : PourRun) (en : Entry),
    s.arrayEntry q k 0x034 = some (r, en) → x.valid = true →
    let rows := s.lenRows r.ctx (en.tensor ts 1).va
    (∀ y ∈ rows, y.len ≠ 0 → (s.seq y.seq).step = none) →
    let codes := rows.flatMap fun y => (List.range y.len).map fun i => (y.offset + i,
      if y.held then 0xFFFFFFFF
      else x.choose (s.seq y.seq).key ((s.seq y.seq).fill - y.len + i)
        ((List.range x.v).map fun j => s.elem32 r.ctx (en.tensor ts 0) x.v (y.offset + i) j))
    let t := codes.foldl (fun s (z : Nat × Nat) => vwrite r.ctx ((en.tensor ts 2).va + 4 * z.1) (leBytes 4 z.2) s) s
    exec (.sample q k x ts) s
      = .next (settle (noteOwn 1 q k (heldOut (rows.any fun y => y.held && decide (y.len ≠ 0)) t) t))

/-- Of an entry in flight: VQ_ENCODE writes the code of every input row; CODE_GATHER of codes within the table, or 0xFFFF_FFFF, writes
the rows (zeros for the latter) and their scales; TABLE_GATHER without WAIT of rows in range writes staged rows, DEFAULT for an absent
tile and for a miss, counts both, and tells the context of a miss; GRAD_W and ATTEND_GRAD write their gradients; OPT_STEP with every
gradient finite writes weights and moments, and with one that is not changes neither and counts the skip; QUANTIZE writes W4 codes by
the given codebooks, or codes with a scale for each column and the counts of conversion. -/
def Obligations.GatherAndTrainingOperations : Prop :=
  (∀ (s : State) (q k rows entries width : Nat) (ts : List TDesc) (r : PourRun) (en : Entry),
    (s.arrayEntry q k 0x035 = some (r, en) → exec (.vqEncode q k rows entries width ts) s = .next (settle
      (vwrite r.ctx (en.tensor ts 2).va ((List.range rows).flatMap fun i => leBytes 4 (s.vqCode r.ctx en ts entries width i)) s)))
    ∧ (s.arrayEntry q k 0x036 = some (r, en) →
      let codes := (List.range rows).map fun i => s.vnum r.ctx ((en.tensor ts 0).va + 4 * i) 4
      let tb := en.tensor ts 1
      let n := width * tb.fmt.bytes
      let scales := codes.map fun c => if c = 0xFFFFFFFF ∨ tb.rowScaled = false then (0 : Byte) else s.vbyte r.ctx (tb.scaleVa + c)
      (∀ c ∈ codes, c < entries ∨ c = 0xFFFFFFFF) →
      exec (.codeGather q k rows entries width ts) s = .next (settle (vwrite r.ctx (en.tensor ts 2).va
        (codes.flatMap fun c => if c = 0xFFFFFFFF then List.replicate n 0 else s.vread r.ctx (tb.va + c * n) n)
        (if (en.tensor ts 2).rowScaled then vwrite r.ctx (en.tensor ts 2).scaleVa scales s else s)))))
  ∧ (∀ (s : State) (q k : Nat) (x : GatherRec) (r : PourRun) (en : Entry), s.arrayOnce q k 0x037 = some (r, en) →
    let t := s.mapTable x.table
    let keys := (List.range x.count).map fun i => s.vnum r.ctx (en.tensors.getD 0 0 + 8 * i) 8
    let tiles := keys.map fun a => (a, t.find r.flask (a / 2 ^ 24))
    let missed := tiles.filter fun z => match z.2 with | some b => !t.isStaged (z.1 / 2 ^ 24) b.block | none => false
    t.created = true → (∀ a ∈ keys, a % 2 ^ 24 < t.rows) → x.wait = false ∨ missed = [] →
    let data := tiles.flatMap fun z => match z.2 with
      | none => t.default
      | some b => if t.isStaged (z.1 / 2 ^ 24) b.block then
          (List.range t.rowBytes).map fun i => (Tab.get [] s.ta.blocks b.block).getD (z.1 % 2 ^ 24 * t.rowBytes + i) 0
        else t.default
    let y := { t with absent := satAdd t.absent ((tiles.map (·.2)).filter Option.isNone).length
                      misses := satAdd t.misses missed.length }
    let u := vwrite r.ctx (en.tensors.getD 2 0) data (noteActed q k (s.setMapTable x.table y))
    exec (.tableGather q k x) s = .next (settle (if missed = [] then u else ctxEvent r.ctx 23 3 0 u)))
  ∧ (∀ (s : State) (q k : Nat) (core : Nat × Nat) (a b : Nat) (split : List Nat) (ts : List TDesc) (r : PourRun) (en : Entry),
    s.arrayEntry q k 0x060 = some (r, en) → exec (.gradW q k core a b split ts) s
      = .next (settle (putRows core r (en.tensor ts 2) b 0 (s.gradRows r.ctx en ts a b split) s)))
  ∧ (∀ (s : State) (q k : Nat) (core : Nat × Nat) (a : AttRec) (ts : List TDesc) (r : PourRun) (en : Entry),
    s.arrayEntry q k 0x061 = some (r, en) →
    let n := a.batch * a.seqLen
    let g := s.attGrads r.ctx en ts a
    let put := fun base rows s => putRows core r (en.tensor ts 6) (a.hq * a.dh) base rows s
    exec (.attendGrad q k core a ts) s = .next (settle (put (2 * n) g.2.2 (put n g.2.1 (put 0 g.1 s)))))
  ∧ (∀ (s : State) (q k : Nat) (x : OptRec) (r : PourRun) (en : Entry), s.arrayOnce q k 0x062 = some (r, en) →
    let at_ := fun (i j : Nat) => s.vnum r.ctx (en.tensors.getD i 0 + 4 * j) 4
    let t := noteActed q k s
    ((∃ j, j < x.count ∧ (f32 (at_ 1 j)).isFin = false) → exec (.optStep q k x) s = .next (settle (ctxEvent r.ctx 25 3 0
      (t.setKvCount r.flask { t.kvCount r.flask with skipped := satInc (t.kvCount r.flask).skipped }))))
    ∧ ((∀ j, j < x.count → (f32 (at_ 1 j)).isFin = true) →
      let new := (List.range x.count).map fun j => x.step (at_ 0 j) (at_ 1 j) (at_ 2 j) (at_ 2 (x.count + j))
      let u := vwrite r.ctx (en.tensors.getD 2 0)
        (new.flatMap (fun y => leBytes 4 y.2.1) ++ new.flatMap fun y => leBytes 4 y.2.2)
        (vwrite r.ctx (en.tensors.getD 0 0) (new.flatMap fun y => leBytes 4 y.1) t)
      exec (.optStep q k x) s = .next (settle (if x.copy then vwrite r.ctx (en.tensors.getD 3 0)
        (new.flatMap fun y => leBytes 2 (Fmt.bf16.store .nearest true (f32 y.1)).1) u else u))))
  ∧ ∀ (s : State) (q k : Nat) (core : Nat × Nat) (a b : Nat) (ts : List TDesc) (r : PourRun) (en : Entry),
    s.arrayEntry q k 0x063 = some (r, en) →
    let tc := en.tensor ts 2
    (tc.w4 = true → exec (.quantize q k core a b ts) s
      = .next (settle (vwrite r.ctx tc.va (s.w4Bytes r.ctx en tc a b) s)))
    ∧ (tc.w4 = false →
      let out := s.storedMasters r.ctx en tc a b
      exec (.quantize q k core a b ts) s = .next (settle (countTensor core r.job tc
        (out.foldl (fun n x => n.add x.2) {}) (vwrite r.ctx tc.va (out.flatMap fun x => leBytes tc.fmt.bytes x.1)
          (vwrite r.ctx tc.scaleVa ((s.columnExps r.ctx en tc a b).map fun e => BitVec.ofInt 8 e) s)))))

/-- CREATE_MAP_TABLE of a free number within the table's ranges and the owner's quotas creates it. WRITE_MAP_TILES, with nothing
pending on the table, prepares the inactive directory and waits; its completion stores the blocks, enters them with their CRC-32C, and
answers the number written. SWITCH_MAP_VERSION waits for the owner's parting line. QUERY_MAP changes nothing. DESTROY_MAP_TABLE of a
table that no loaded job gathers from removes it. SET_ROUTE with no waypoints ends the route. A tick works the position into the
route and prefetches; a block read well is staged, one read badly is read once more; radius mode is entered and left. -/
def Obligations.MapTablesAndRoute : Prop :=
  (∀ (s : State) (p : Packet), s.accepts p 0x0330 28 true → p.u8 12 ≤ 15 → p.u8 13 ≤ 15 →
    let x := MapTable.ofPacket p ((s.taken p).vread p.ring (p.u64 32) (p.u16 16))
    let t := (s.taken p).setMapTable (p.u8 12) x
    (s.mapTable (p.u8 12)).created = false → x.fieldsOk = true → (s.flask x.owner).state ≠ .empty →
    (s.taken p).accessFault p.ring (p.u64 32) x.rowBytes false = none → t.charge x.owner 3 ≤ t.quotaOf x.owner 3 →
    t.charge x.owner x.tier ≤ t.quotaOf x.owner x.tier →
    exec (.createMapTable p) s = .next (answered p 0 3 0 [] t))
  ∧ (∀ (s : State) (p : Packet), s.accepts p 0x0331 16 true → p.u8 12 ≤ 15 → p.u8 13 = 0 →
    let x := s.mapTable (p.u8 12)
    let es := (List.range (p.u32 24)).map (tileEntry (Memory.read s.hostMem (p.u64 16) (16 * p.u32 24)))
    x.created = true → x.switching = false → x.writing = none → (∀ e ∈ es, e.2.1 = true) →
    x.bytesWith (x.base false (es.map (·.1))) ((es.filter fun e => e.2.2 ≠ 0).map (·.1)).dedup.length ≤ x.t3Bytes →
    ∃ ws : List TileWrite, ws.length = p.u32 24
      ∧ exec (.writeMapTiles p) s = .next (awaiting (s.ticketOf p 0x0331) ((s.taken p).setMapTable (p.u8 12)
        { x.setInactive (x.base false (es.map (·.1))) with writing := some (s.ticketOf p 0x0331, ws) })))
  ∧ (∀ (s : State) (m : Nat) (t : Ticket) (w : TileWrite), (s.mapTable m).writing = some (t, [w]) → w.addr ≠ 0 →
    let b := s.ta.blocksMade
    let x := s.mapTable m
    let y := { x.setInactive (Tab.put x.inactive w.key { block := b, crc := crc32c w.data }) with writing := none }
    ∃ u : State, exec (.mapTileWriteComplete m) s
        = .next (settle (sweepClosing (finish t 0 3 0 (leBytes 4 1) (sweepBlocks u))))
      ∧ u.mapTable m = y ∧ u.ta.blocks = Tab.put s.ta.blocks b w.data ∧ u.ta.blocksMade = b + 1
      ∧ u = { s with ta := { s.ta with maps := u.ta.maps, blocks := u.ta.blocks, blocksMade := u.ta.blocksMade } })
  ∧ (∀ (s : State) (p : Packet), p.u8 12 ≤ 15 →
    let x := s.mapTable (p.u8 12)
    x.created = true →
    (s.accepts p 0x0332 1 true → x.switching = false → x.writing = none → exec (.switchMapVersion p) s
      = .next (awaiting (s.ticketOf p 0x0332) ((s.taken p).setMapTable (p.u8 12)
          { x with switchTicket := some (s.ticketOf p 0x0332) })))
    ∧ (s.accepts p 0x0334 1 false → (s.taken p).sender p = 0 → exec (.queryMap p) s
      = .next (answered p 0 3 0 ([0, 1, 2, 3, 4].flatMap fun k => leBytes 4 (x.statusWord k)) (s.taken p)))
    ∧ (s.accepts p 0x0335 1 true → x.switchTicket = none → x.writing = none →
      (∀ j ∈ s.ex.jobs, j.2.used = true → p.u8 12 ∉ j.2.image.tables) → exec (.destroyMapTable p) s
      = .next (answered p 0 3 0 []
          (sweepBlocks { s.taken p with ta := { s.ta with maps := Tab.del s.ta.maps (p.u8 12) } }))))
  ∧ (∀ (s : State) (p : Packet), s.accepts p 0x0333 22 true → p.u16 24 = 0 →
    exec (.setRoute p) s = .next (answered p 0 3 0 [] { s.taken p with ta := { s.ta with
      route := { s.ta.route with points := [], mode := 0, arc := 0, reach := 0 } } }))
  ∧ (∀ (s : State) (pt : Pt), s.ta.route.mode ≠ 0 → s.position = some pt →
    let x := s.ta.route
    let arc := ((projectOn pt ((segmentsOf 0 x.pts).filterMap (clipSeg x.arc (2 ^ 62)))).map (·.1)).getD x.arc
    exec .routePrefetchTick s = .next (settle (prefetcher { s with ta := { s.ta with
      route := { x with at_ := some pt, arc := max x.arc arc } } })))
  ∧ (∀ (s : State) (m key b : Nat), (s.mapTable m).fetching = [(key, b, 0)] →
    let t := s.mapTable m
    exec (.tileBlockFetched m key true) s = .next (settle (prefetcher (s.setMapTable m
        { t with fetching := [], staged := t.staged ++ [(key, b, decide (s.ta.route.mode = 2))] })))
    ∧ exec (.tileBlockFetched m key false) s = .next (settle (s.setMapTable m { t with fetching := [(key, b, 1)] })))
  ∧ ∀ s : State, s.ta.route.mode = 2 → exec (.radiusMode false) s = .next (settle (prefetcher
      { s with ta := { s.ta with route := { s.ta.route with mode := 1 } } }))

/-- While the page table is in its canonical form and every page's serving frame too: a byte written at a mapped address reads back;
every address whose page or place in its page differs reads as before; bytes written over a range of one mapping with distinct pages
read back in order. A write changes nothing of the state but the pages, and a write at an address that no mapping covers changes
nothing. Host memory obeys the same laws, and keeps its canonical form. -/
def Obligations.MemoryReadsWhatWasWritten : Prop :=
  (∀ (s : State) (c va : Nat) (b : Byte) (m : Mapping), s.mapAt c va = some m → Tab.wf Page.rest s.mem.pages = true →
    (∀ k, Memory.wf (s.page k).serving = true) →
    let t := vwriteByte c va b s
    t.vbyte c va = b
    ∧ (∀ (d ua : Nat) (n : Mapping), s.mapAt d ua = some n →
        (n.pageAt ua ≠ m.pageAt va ∨ (ua - n.va) % bytesOf n.big ≠ (va - m.va) % bytesOf m.big) → t.vbyte d ua = s.vbyte d ua)
    ∧ t = { s with mem := { s.mem with pages := t.mem.pages } }
    ∧ Tab.wf Page.rest t.mem.pages = true ∧ ∀ k, Memory.wf (t.page k).serving = true)
  ∧ (∀ (s : State) (c va : Nat) (b : Byte), s.mapAt c va = none → vwriteByte c va b s = s)
  ∧ (∀ (s : State) (c va : Nat) (bs : List Byte) (m : Mapping), (∀ i, i < bs.length → s.mapAt c (va + i) = some m) →
    m.va ≤ va → va + bs.length ≤ m.va + m.bytes → m.bytes = m.pages.length * bytesOf m.big → m.pages.Nodup →
    Tab.wf Page.rest s.mem.pages = true → (∀ k, Memory.wf (s.page k).serving = true) →
    (vwrite c va bs s).vread c va bs.length = bs)
  ∧ ∀ (h : Memory) (a : Nat) (bs : List Byte), h.wf = true →
    (Memory.write h a bs).wf = true ∧ Memory.read (Memory.write h a bs) a bs.length = bs
    ∧ ∀ x, x < a ∨ a + bs.length ≤ x → Memory.byte (Memory.write h a bs) x = Memory.byte h x

/-- Of a tenant's range that is aligned, mapped by whole pages and in no paced mapping: ALLOCATE maps frames and returns the address;
RELEASE of its own pages that no job holds cuts the mapping and frees what is unmapped; PIN and MOVE place claims on the pages, and
wait for them; UNPIN drops the flask's pins at once. SHARE_MEMORY maps the source's own pages read-only for the target. The queries
change nothing. SET_CONTEXT_QUOTA and SET_ERROR_POLICY set their values. EVACUATE_STACK of a stack that may be emptied waits for its
pages. After each, pages that are at rest let waiting commands go on. -/
def Obligations.MemoryCommands : Prop :=
  (∀ (s : State) (p : Packet) (f : Nat) (t : State) (frames : List Nat), s.accepts p 0x0301 18 false →
    s.flaskOfCtx p.ring = some f → 1 ≤ p.u8 12 → p.u8 12 ≤ 3 → p.u8 13 = 1 → p.u8 14 = 0xFF →
    let va := fitVa (bytesOf true) (p.u64 16) ((s.taken p).takenVa p.ring) generalBase
    rangeValid va (p.u64 16) true = true → s.rangeUsed p.ring va (p.u64 16) = false →
    mapNew f p.ring (p.u8 12) 4 false true va (p.u64 16) none true false (s.taken p) = .ok (t, frames) →
    t.uncleared frames true = [] →
    exec (.allocate p) s = .next (settle (settleMoves (replyTo p 0 3 0 (leBytes 6 va) t))))
  ∧ (∀ (s : State) (p : Packet) (f : Nat) (ps : List (Mapping × Nat)), s.accepts p 0x0302 20 false →
    s.flaskOfCtx p.ring = some f → rangeValid (p.u48 16) (p.u64 24) false = true →
    (s.taken p).pagesOf p.ring (p.u48 16) (p.u64 24) = some ps →
    (∀ x ∈ ps, p.u48 16 % bytesOf x.1.big = 0 ∧ (p.u48 16 + p.u64 24) % bytesOf x.1.big = 0 ∧ x.1.job = none ∧ x.1.own = true) →
    let t := { s.taken p with mem := { s.mem with maps := s.mem.maps.flatMap (cutMap p.ring (p.u48 16) (p.u64 24)) } }
    exec (.release p) s = .next (settle (settleMoves (replyTo p 0 3 0 [] (overPages freeUnmapped (ps.map (·.2)) t)))))
  ∧ (∀ (s : State) (p : Packet) (a b fa fb : Nat) (ps : List (Mapping × Nat)), s.accepts p 0x0303 28 true →
    a = p.u16 12 → b = p.u16 14 → a < 1024 → b < 1024 → s.flaskOfCtx a = some fa → s.flaskOfCtx b = some fb →
    rangeValid (p.u48 16) (p.u64 32) false = true → rangeValid (p.u48 24) (p.u64 32) false = true →
    (s.taken p).pagesOf a (p.u48 16) (p.u64 32) = some ps → ps ≠ [] →
    (∀ x ∈ ps, x.1.big = false ∧ x.1.own = true ∧ ∀ c ∈ (s.page x.2).claims, c.tier ≠ 0) →
    s.rangeUsed b (p.u48 24) (p.u64 32) = false → classesShare fb fa s = true →
    let t := { s.taken p with mem := { s.mem with maps := s.mem.maps ++ [{ ctx := b, flask := fb, va := p.u48 24
                                                                           pages := ps.map (·.2), big := false
                                                                           write := false, own := false }] } }
    p.u48 16 % 65536 = 0 → p.u48 24 % 65536 = 0 → p.u64 32 % 65536 = 0 → t.xlatUsed ≤ xlatSize →
    exec (.shareMemory p) s = .next (settle (settleMoves (replyTo p 0 3 0 [] t))))
  ∧ (∀ (s : State) (p : Packet) (f : Nat) (ps : List Nat), s.flaskOfCtx p.ring = some f →
    (∀ op, (s.taken p).commandPages (s.ticketOf p op) (p.u48 16) (p.u64 24) = .ok ps) → s.pacedMaps ps = false →
    let wait := fun (op : Nat) (g : Goal) (t : State) => settle (settleMoves (waitReply (s.ticketOf p op)
      { t with mem := { t.mem with moves := t.mem.moves ++ [{ mover := .command (s.ticketOf p op), pages := ps, goal := g }] } }))
    (s.accepts p 0x0304 20 false → 1 ≤ p.u8 12 → p.u8 12 ≤ 2 →
      let t := s.taken p
      t.pinRoom f (p.u8 12) (t.pinUnits f (p.u8 12) ps) = true →
      t.claimUnits f (p.u8 12) true ps = 0 ∨ t.charge f (p.u8 12) + t.claimUnits f (p.u8 12) true ps ≤ t.quotaOf f (p.u8 12) →
      exec (.pin p) s = .next (wait 0x0304 (.raised (p.u8 12))
        (overPages (fun k => pageEvent k (.pin f p.ring (p.u8 12))) ps (s.taken p))))
    ∧ (s.accepts p 0x0305 20 false → exec (.unpin p) s = .next (settle (settleMoves
        (replyTo p 0 3 0 [] (overPages (fun k => pageEvent k (.unpin f)) ps (s.taken p))))))
    ∧ (s.accepts p 0x0306 20 false → p.u8 12 = 1 → p.u8 13 ≤ 3 → p.u8 14 ≤ 4 ∨ p.u8 14 = 0xFF →
      exec (.move p) s = .next (wait 0x0306 (.lowered f)
        (overPages (fun k => pageEvent k (.lower f (p.u8 13))) ps (s.taken p))))
    ∧ (s.accepts p 0x0306 20 false → p.u8 12 = 0 → 1 ≤ p.u8 13 → p.u8 13 ≤ 3 → p.u8 14 = 0xFF →
      let t := s.taken p
      let own := t.claimUnits f (p.u8 13) true ps
      let others := t.claimUnits f (p.u8 13) false ps
      (∀ k ∈ ps, p.u8 13 < (s.page k).homeTier) → own = 0 ∨ t.charge f (p.u8 13) + own ≤ t.quotaOf f (p.u8 13) →
      others = 0 ∨ t.pinRoom f (p.u8 13) others = true →
      exec (.move p) s = .next (wait 0x0306 (.raised (p.u8 13))
        (overPages (fun k => pageEvent k (.raise f p.ring (p.u8 13) 4 none false none)) ps (s.taken p)))))
  ∧ (∀ (s : State) (p : Packet) (f : Nat) (m : Mapping), s.accepts p 0x0307 10 false → s.flaskOfCtx p.ring = some f →
    (s.taken p).mapAt p.ring (p.u48 16) = some m →
    ∃ ret, ret.length = 13 ∧ ret.take 8 = leBytes 8 ((s.taken p).pte m (m.pageAt (p.u48 16)))
      ∧ exec (.queryTranslation p) s = .next (answered p 0 3 0 ret (s.taken p)))
  ∧ (∀ (s : State) (p : Packet), s.accepts p 0x0308 8 true → p.u16 12 < 1024 → 1 ≤ p.u8 14 → p.u8 14 ≤ 3 →
    ((s.taken p).ctx (p.u16 12)).state ≠ .free →
    exec (.setContextQuota p) s = .next (answered p 0 3 0 [] { s.taken p with mem := { s.mem with
      ctxQuota := Tab.set 0xFFFFFFFF s.mem.ctxQuota (4 * p.u16 12 + p.u8 14) (p.u32 16) } }))
  ∧ (∀ (s : State) (p : Packet), s.accepts p 0x0309 4 false → p.u8 12 ≤ 15 → 1 ≤ p.u8 13 → p.u8 13 ≤ 3 →
    p.u16 14 = 0x3FF → (s.taken p).sender p = 0 →
    exec (.queryMemory p) s = .next (answered p 0 3 0
      (leBytes 4 ((s.taken p).quotaOf (p.u8 12) (p.u8 13)) ++ leBytes 4 ((s.taken p).charge (p.u8 12) (p.u8 13))
        ++ leBytes 4 ((s.taken p).pinQuotaOf (p.u8 12) (p.u8 13)) ++ leBytes 4 ((s.taken p).pinCharge (p.u8 12) (p.u8 13))
        ++ leBytes 4 0) (s.taken p)))
  ∧ (∀ (s : State) (p : Packet), s.accepts p 0x030A 8 true → p.u8 12 ≤ 4 → 2 ≤ p.u8 13 → p.u8 13 ≤ 64 →
    10 ≤ p.u32 16 → p.u32 16 ≤ 60000 →
    exec (.setErrorPolicy p) s = .next (answered p 0 3 0 [] ((s.taken p).setMemSource (p.u8 12)
      { s.memSource (p.u8 12) with threshold := p.u8 13, windowMs := p.u32 16 })))
  ∧ ∀ (s : State) (p : Packet), s.accepts p 0x030B 1 true → p.u8 12 ≤ 3 → (s.taken p).dieEmpty (p.u8 12) = true →
    (s.taken p).mayEvacuate (p.u8 12) = true → (∀ e ∈ s.mem.evac, e.stack ≠ p.u8 12) →
    exec (.evacuateStack p) s = .next (settle (settleMoves (waitReply (s.ticketOf p 0x030B) { s.taken p with mem :=
      { s.mem with evac := s.mem.evac ++ [{ stack := p.u8 12, ticket := some (s.ticketOf p 0x030B) }] } })))

/-- Of an entry in flight on a Migration Engine queue over mapped, readable or writable, unpoisoned ranges: COPY moves the bytes read,
FILL writes its pattern, lines wholly written lose their poison; RAISE that its quotas admit, LOWER and REHOME of the flask's own pages
place the claims and wait for the pages. A range that is not mapped faults the entry with a translation fault. A copy that completes
switches its page; a frame that is cleared may end commands that wait for it; a correctable error is counted in its leaky counter and
becomes lasting at the threshold; an uncorrectable one is lasting at once and poisons its line; a relocation completes; a scrub pass
is counted. -/
def Obligations.MigrationOperationsAndEvents : Prop :=
  (∀ (s : State) (q k n : Nat) (r : PourRun) (en : Entry), s.entryOf 2 q k 1 = some (r, en) →
    let a := en.tensors.getD 0 0
    let b := en.tensors.getD 1 0
    s.accessFault r.ctx a n false = none → s.accessFault r.ctx b n true = none → s.poisonIn r.ctx a n = none →
    exec (.copy q k n) s
      = .next (settle (addMoved r.flask n (vwrite r.ctx b (s.vread r.ctx a n) (unpoison r.ctx b n s)))))
  ∧ (∀ (s : State) (q k n pat : Nat) (r : PourRun) (en : Entry), s.entryOf 2 q k 2 = some (r, en) →
    let a := en.tensors.getD 0 0
    let t := unpoison r.ctx a n s
    s.accessFault r.ctx a n true = none → t.poisonIn r.ctx a n = none →
    exec (.fill q k n pat) s = .next (settle (vwrite r.ctx a
      ((List.range n).map fun i => (leBytes 4 pat).getD (i % 4) 0) t)))
  ∧ (∀ (s : State) (q k n tier stack : Nat) (place : List (Nat × Nat × Nat)) (r : PourRun) (en : Entry)
      (ms : List (Mapping × Nat)), s.pagesOf r.ctx (en.tensors.getD 0 0) (65536 * n) = some ms →
    let ps := ms.map (·.2)
    let st := if stack = 0xFF then 4 else stack
    (s.entryOf 2 q k 3 = some (r, en) → 1 ≤ tier → s.raiseFits r.flask tier r.job ps = true →
      exec (.raise q k n tier stack place) s = .next (settle (settleMoves (entryWaits 2 q k ps (.raised tier)
        (raisePages r.flask r.ctx tier st r.job false (place.map fun x => t0Frame x.1 x.2.1 x.2.2) ps s)))))
    ∧ (s.entryOf 2 q k 4 = some (r, en) → exec (.lower q k n tier) s = .next (settle (settleMoves
        (entryWaits 2 q k ps (.lowered r.flask) (overPages (fun i => pageEvent i (.lower r.flask tier)) ps s)))))
    ∧ (s.entryOf 2 q k 5 = some (r, en) → (∀ i ∈ ps, (s.page i).owner = r.flask) →
      exec (.rehome q k n tier stack) s = .next (settle (settleMoves (entryWaits 2 q k ps (.homed tier)
        (overPages (fun i => pageEvent i (.rehome r.flask r.ctx tier st)) ps s))))))
  ∧ (∀ (s : State) (q k n tier : Nat) (r : PourRun) (en : Entry), s.entryOf 2 q k 4 = some (r, en) →
    s.pagesOf r.ctx (en.tensors.getD 0 0) (65536 * n) = none →
    exec (.lower q k n tier) s = .next (settle (sweepClosing (entryFault 2 q r 2 s))))
  ∧ (∀ (s : State) (k : Nat), s.pa.atLimit.getLsbD 10 = false →
    exec (.migrationCopyComplete k) s = .next (settle (settleMoves (kvCopyDone k (copyComplete k s)))))
  ∧ (∀ (s : State) (a : Nat) (t : Ticket) (ret : List Byte), s.mem.waitClear = [(t, ret, [a])] →
    exec (.frameClearComplete a) s = .next (settle (finish t 0 3 0 ret { s with mem := { s.mem with
      clearing := s.mem.clearing.filter fun c => c.1 ≠ a, waitClear := [] } })))
  ∧ (∀ (s : State) (src unit frame line : Nat) (reader : Option Nat), src ≤ 4 →
    let x := s.memSource src
    let n := Tab.get 0 x.leaky unit + 1
    (n < x.threshold → exec (.memoryError src unit false frame line reader) s = .next (settle (settleMoves
      (s.setMemSource src { x with corrected := satInc x.corrected, leaky := Tab.set 0 x.leaky unit n }))))
    ∧ (x.threshold ≤ n → exec (.memoryError src unit false frame line reader) s = .next (settle (settleMoves
      (memLasting src unit
        (s.setMemSource src { x with corrected := satInc x.corrected, leaky := Tab.set 0 x.leaky unit 0 })))))
    ∧ (src < 4 → exec (.memoryError src unit true frame line none) s = .next (settle (settleMoves (poisonFrame frame line
      (memLasting src unit (s.setMemSource src { x with uncorrected := satInc x.uncorrected })))))))
  ∧ (∀ (s : State) (store : Nat), exec (.scrubPass store) s = .next (settle { s with mem := { s.mem with
      scrubs := Tab.put s.mem.scrubs store (Tab.get 0 s.mem.scrubs store + 1) } }))
  ∧ ∀ (s : State) (k : Nat), k ∈ s.toRelocate → (relocate k s).mem.evac = [] →
    exec (.relocationComplete k) s = .next (settle (settleMoves (relocate k s)))

/-- QUERY_TIME returns the count, TB_STATUS, TB_ERR and TB_OFFSET. SET_SOURCE of a PPS or truss source enabled with a priority sets
both. SET_UTC_OFFSET without a leap second sets the host's offset, clears the announcement, and the offset in force follows.
SET_CALENDAR while SEEDED, with a possible date not before the timebase and no paced flask ACTIVE, moves the timebase to it, makes the
seed's error unknown and returns the count. SET_PPS_TOD with a possible date holds the label. SET_TRIGGER of a line off or single-shot
acts at once; periodic, within its limits, it is staged for the next block. CONFIGURE_PORT that enables a port waits for its link;
one that disables it ends at once with the link down. -/
def Obligations.TimeCommands : Prop :=
  (∀ (s : State) (p : Packet), s.accepts p 0x0701 0 false →
    exec (.queryTime p) s = .next (answered p 0 7 0
      (leBytes 8 s.now ++ leBytes 4 s.tbStatus ++ leBytes 4 s.tbErr ++ leBytes 4 s.tbOffset) (s.taken p)))
  ∧ (∀ (s : State) (p : Packet), s.accepts p 0x0702 12 true → 8 ≤ p.u8 12 → p.u8 12 ≤ 9 → bitsOf (p.u8 13) 3 1 = 0 →
    bitAt (p.u8 13) 0 = true →
    exec (.setSource p) s = .next (answered p 0 7 0 [] ((s.taken p).setSource (p.u8 12)
      { s.source (p.u8 12) with priority := p.u8 13 / 16, enable := true })))
  ∧ (∀ (s : State) (p : Packet), s.accepts p 0x0703 8 true → p.u8 14 = 0 →
    exec (.setUtcOffset p) s = .next (answered p 0 7 0 [] (followUtc { s.taken p with tb :=
      { s.tb with hostUtc := p.u16 12, leap := 0, leapDay := (0, 0, 0) } })))
  ∧ (∀ (s : State) (p : Packet), s.accepts p 0x0704 12 true → s.tb.state = .seeded →
    (s.taken p).impossible (Packet.date p) = false → s.now ≤ (s.taken p).taiOf (Packet.date p) → s.pacedActive = false →
    let v := (s.taken p).taiOf (Packet.date p)
    let t := shiftSources ((v : Int) - s.now) { s.taken p with now := v }
    exec (.setCalendar p) s = .next (answered p 0 7 0 (leBytes 8 v)
      { t with tb := { t.tb with seedErr := 0xFFFFFFFF, since := v } }))
  ∧ (∀ (s : State) (p : Packet), s.accepts p 0x0705 13 true → p.u8 24 ≤ 1 → (s.taken p).impossible (Packet.date p) = false →
    exec (.setPpsTod p) s = .next (answered p 0 7 0 [] { s.taken p with tb :=
      { s.tb with label := some ⟨s.now, (s.taken p).taiOf (Packet.date p), p.u8 24 = 1⟩ } }))
  ∧ (∀ (s : State) (p : Packet), s.accepts p 0x0706 28 true → p.u8 12 ≤ 23 → p.u8 14 ≤ 1 →
    let x : TrigSet := { mode := p.u8 13, low := p.u8 14 = 1, num := p.u16 16, den := p.u8 18, phase := p.u32 20
                         widthUs := p.u16 24, shotAt := p.u64 32 }
    (x.mode = 0 ∨ (x.mode = 2 ∧ s.now + 1000000 ≤ x.shotAt) →
      exec (.setTrigger p) s = .next (answered p 0 7 0 [] ((s.taken p).setTrig (p.u8 12)
        { s.trig (p.u8 12) with set := x, staged := none })))
    ∧ (x.mode = 1 → 1 ≤ x.num → x.num ≤ 10000 → 1 ≤ x.den → x.den ≤ 255 → x.num ≤ 10000 * x.den →
        x.phase * x.num < x.den * 1000000000 → x.widthUs * 1000 < x.den * 1000000000 / x.num →
      let block := x.den * 1000000000
      exec (.setTrigger p) s = .next (answered p 0 7 0 [] ((s.taken p).setTrig (p.u8 12)
        { s.trig (p.u8 12) with staged := some (x, (s.now / block + 1) * block) }))))
  ∧ ∀ (s : State) (p : Packet), s.accepts p 0x060F 2 true → p.u8 12 ≤ 6 → p.u8 13 ≤ 3 → (s.port (p.u8 12)).ticket = none →
    let k := p.u8 12
    let t := fun (x : Option Ticket) => loseSource k ((s.taken p).setPort k
      { s.port k with enable := bitAt (p.u8 13) 0, master := bitAt (p.u8 13) 1, rate := 0, up := false, ticket := x })
    (bitAt (p.u8 13) 0 = true → exec (.configurePort p) s
      = .next (awaiting (s.ticketOf p 0x060F) (t (some (s.ticketOf p 0x060F)))))
    ∧ (bitAt (p.u8 13) 0 = false → exec (.configurePort p) s = .next (answered p 0 6 0 [0] (t none)))

/-- A completed delay measurement of an enabled, linked slave port is noted; a Sync of another domain changes nothing, and one more than
1 ms off the last of a qualified source ends its qualification. An edge without a label due ends PPS qualification; 1.1 s without an
edge clears PPS_SEEN and, where PPS is selected, sets its line fault. A CAN label on its channel and identifier is held if possible,
else counted as bad. A source ends or begins; a qualified one is eligible 2 s later. A slew ends LOCKED with offset 0. A leap second
moves both offsets by one. A trigger line fires at its instant; a staged setting takes its instant; PPS_OUT rises at the next second.
A port's link rises and drops, ending the command that waits. -/
def Obligations.TimeEvents : Prop :=
  (∀ (s : State) (k : Nat), k ≤ 6 → (s.source k).master = false → (s.source k).enable = true → (s.port k).up = true →
    exec (.gptpMessage k .delay) s = .next (settle (s.setSource k { s.source k with delayOk := true }))
    ∧ (∀ (d : Nat) (o : Int) (c u : Nat) (tr : Bool) (utc : Option Nat) (e : Nat), d ≠ (s.source k).domain →
        exec (.gptpMessage k (.sync d o c tr utc u e)) s = .next (settle s))
    ∧ ∀ (o : Int) (c u : Nat) (tr : Bool) (utc : Option Nat) (e : Nat), (s.source k).qualified = true →
        1000000 < (o - (s.source k).offset).natAbs →
        exec (.gptpMessage k (.sync (s.source k).domain o c tr utc u e)) s = .next (settle (loseSource k s)))
  ∧ (∀ (s : State) (n : Nat), s.lines.run = .running → s.now ≤ n → s.tb.label = none →
    exec (.ppsInEdge n) s = .next (settle (loseSource 7 { s with now := n, lines := { s.lines with ppsSeen := true },
                                                                 tb := { s.tb with lastEdge := some n, label := none } })))
  ∧ (∀ (s : State) (e : Nat), s.tb.lastEdge = some e → s.tb.source ≠ 7 →
    exec .ppsLost s = .next (settle (loseSource 7 { s with
      now := max s.now (e + 1100000000), lines := { s.lines with ppsSeen := false }
      tb := { s.tb with lastEdge := none } })))
  ∧ (∀ (s : State) (y mo d h mi sec ns : Nat) (tr : Bool), (s.source 7).labelCan = true →
    let x := s.source 7
    let dt : DateTime := ⟨y, mo, d, h, mi, sec, ns⟩
    (s.impossible dt = false → exec (.ppsTodLabelFrame x.canChannel x.canId y mo d h mi sec ns tr) s
      = .next (settle { s with tb := { s.tb with label := some ⟨s.now, s.taiOf dt, tr⟩ } }))
    ∧ (s.impossible dt = true →
      let t := s.setSource 7 { x with todBad := min 255 (x.todBad + 1) }
      exec (.ppsTodLabelFrame x.canChannel x.canId y mo d h mi sec ns tr) s
        = .next (settle { t with tb := { t.tb with label := none } })))
  ∧ (∀ (s : State) (k : Nat),
    exec (.sourceQualificationLost k) s = .next (settle (loseSource k s))
    ∧ ((s.source k).qualified = true → (s.source k).eligible = false → (s.source k).enable = true →
        exec (.sourceEligible k) s = .next (settle (sourceEligible k
          ((advance ((s.source k).since + 2000000000) s).setSource k { s.source k with eligible := true })))))
  ∧ (∀ s : State, s.tb.state = .slewing →
    let t := shiftSources s.tb.offset (advance (s.tb.since + 20000 * s.tb.offset.natAbs) s)
    exec .slewComplete s = .next (settle { t with tb := { t.tb with state := .locked, offset := 0 } }))
  ∧ (∀ s : State, s.tb.leap = 1 →
    exec .leapSecond s = .next (settle { s with
      now := max s.now ((s.leapEnd + 1) * 1000000000), tb := { s.tb with
        leap := 0, leapDay := (0, 0, 0), utcOffset := s.tb.utcOffset + 1, hostUtc := s.tb.hostUtc + 1 } }))
  ∧ (∀ (s : State) (n : Nat), s.lines.trigLive = true → (s.trig n).set.mode = 2 →
    let x := s.trig n
    let t := (advance x.set.shotAt s).setTrig n { x with set := { x.set with mode := 0 }, fired := satInc x.fired,
                                                         lastAt := x.set.shotAt }
    exec (.triggerPulse n) s = .next (settle { t with lines := { s.lines with
      trigPulses := Tab.put s.lines.trigPulses n (Tab.get 0 s.lines.trigPulses n + 1) } }))
  ∧ (∀ (s : State) (n i : Nat) (x : TrigSet), (s.trig n).staged = some (x, i) →
    exec (.triggerSettingEffect n) s
      = .next (settle ((advance i s).setTrig n { s.trig n with set := x, staged := none })))
  ∧ (∀ s : State, s.lines.trigLive = true →
    exec .ppsOutSecond s = .next (settle { s with now := (s.now / 1000000000 + 1) * 1000000000,
                                                  lines := { s.lines with ppsOutEdges := s.lines.ppsOutEdges + 1 } }))
  ∧ ∀ (s : State) (k : Nat) (t : Ticket), (s.port k).enable = true → (s.port k).ticket = some t →
    ((s.port k).up = false → exec (.ethernetLinkUp k) s
      = .next (settle (finish t 0 6 0 [1] (s.setPort k { s.port k with up := true, ticket := none }))))
    ∧ exec (.ethernetLinkDown k) s
      = .next (settle (loseSource k (finish t 0 6 0 [0] (s.setPort k { s.port k with up := false, ticket := none }))))

/-- For each of the chapter's time events and for SET_CALENDAR, SET_SOURCE and SET_UTC_OFFSET: in the state that follows, the timebase
stands at or above where it stood. The instants of a periodic trigger rise: the first one after t lies after t, whatever the phase. A
source that loses its qualification is neither qualified nor eligible, and it is not selected unless it was the holdover. -/
def Obligations.TimeNeverStepsBack : Prop :=
  (∀ (s t : State) (c : Instr),
    ((∃ k m, c = .gptpMessage k m) ∨ (∃ n, c = .ppsInEdge n) ∨ c = .ppsLost
      ∨ (∃ ch i y mo d h mi sec ns tr, c = .ppsTodLabelFrame ch i y mo d h mi sec ns tr)
      ∨ (∃ k, c = .sourceQualificationLost k) ∨ (∃ k, c = .sourceEligible k) ∨ c = .slewComplete ∨ c = .leapSecond
      ∨ (∃ n, c = .triggerPulse n) ∨ (∃ n, c = .triggerSettingEffect n) ∨ c = .ppsOutSecond
      ∨ (∃ p, c = .setCalendar p) ∨ (∃ p, c = .setSource p) ∨ (∃ p, c = .setUtcOffset p)) →
    exec c s = .next t → s.now ≤ t.now)
  ∧ (∀ (x : TrigSet) (n : Nat), 1 ≤ x.num → 1 ≤ x.den → n < x.after n)
  ∧ ∀ (s : State) (k : Nat), k ≤ 9 →
    let t := loseSource k s
    (s.source k).qualified = true → (t.source k).qualified = false ∧ (t.source k).eligible = false ∧ t.tb.source ≠ k

/-- With the engine present, by a tenant of the flask: CREATE_TUNDISH with its fields in range and room for its slots makes the slots'
pages, maps the window and sets the tundish; DESTROY_TUNDISH of one that no loaded job names frees its slots and waits; CONFIGURE_STREAM
of a stream that has no live record, whose record keeps its table and whose member and region are free, sets the stream; LOAD_REMAP of
a table that fits the camera's record stages it. OPEN_DECODE and OPEN_ENCODE within the limits of the engine open their sessions;
CLOSE_SESSION waits for the session's end, which comes at once where nothing is held. The queries return their words. TUNDISH_STATUS is
cleared by writing ones. -/
def Obligations.IngestCommands : Prop :=
  (∀ (s : State) (p : Packet) (frames nums : List Nat) (t : State), s.accepts p 0x0401 36 false → s.engineGone 3 = false →
    let u := p.u8 12
    let f := p.u8 13
    let n := p.u32 24
    let w := p.u48 16
    let per := n / 0x200000
    u ≤ 15 → f ≤ 15 → p.ring ∈ (s.flask f).tenants → (s.tundish u).used = false → 2 ≤ p.u8 14 → p.u8 14 ≤ 16 →
    1 ≤ p.u8 15 → p.u8 15 ≤ 2 → n ≠ 0 → n % 0x200000 = 0 → p.u8 36 ≤ 23 → p.u8 38 ≤ 1 → p.u8 37 ≤ p.u8 14 →
    rangeValid w n true = true → s.rangeUsed p.ring w n = false → (s.taken p).accessFault p.ring (p.u48 42) 4096 true = none →
    p.u16 40 = 0xFFFF → (s.taken p).roomFor f p.ring (p.u8 15) (p.u8 14 * per * unitsOf true) = true →
    (s.taken p).allocFrames f (p.u8 15) 4 false true (p.u8 14 * per) = some frames →
    makePages f p.ring (p.u8 15) true false frames (s.taken p) = (t, nums) →
    let v := { t with mem := { t.mem with maps := t.mem.maps ++ [({
      ctx := p.ring, flask := f, va := w, pages := nums.take per, big := true, write := true, own := true } : Mapping)] } }
    let x := v.setTundish u { used := true, owner := p.ring, flask := f, tier := p.u8 15, windowVa := w, slotBytes := n
                              closeUs := p.u32 28, warnUs := p.u32 32, refLine := p.u8 36, lowWater := p.u8 37
                              dropNewest := decide (p.u8 38 = 1), progress := 0xFFFF, ringVa := p.u48 42
                              slots := (List.range (p.u8 14)).map fun i => ({ pages := (nums.drop (i * per)).take per } : Slot) }
    x.xlatUsed ≤ xlatSize → x.uncleared frames true = [] →
    exec (.createTundish p) s = .next (settle (settleMoves (replyTo p 0 4 0 (leBytes 4 0) x))))
  ∧ (∀ (s : State) (p : Packet), s.accepts p 0x0402 1 false → p.u8 12 ≤ 15 → (s.tundish (p.u8 12)).used = true →
    p.ring ∈ (s.flask (s.tundish (p.u8 12)).flask).tenants → s.tundishNamed (p.u8 12) = false →
    (s.tundish (p.u8 12)).destroyer = none →
    let t := freeSlots (p.u8 12) (s.taken p)
    exec (.destroyTundish p) s = .next (settle (settleTundishes (waitReply (s.ticketOf p 0x0402)
      (t.setTundish (p.u8 12) { t.tundish (p.u8 12) with destroyer := some (s.ticketOf p 0x0402) })))))
  ∧ (∀ (s : State) (p : Packet) (pt : PointRec) (r : CamRec), s.accepts p 0x0403 12 false → s.engineGone 3 = false →
    let k := p.u8 12
    let u := p.u8 13
    let x := s.instream k
    k ≤ 47 → u ≤ 15 → p.u8 14 ≤ 31 → p.u8 15 ≤ 3 → (s.tundish u).used = true →
    p.ring ∈ (s.flask (s.tundish u).flask).tenants → x.joined = false → x.enabled = false →
    (s.taken p).accessFault p.ring (p.u64 16) 160 false = none → camRecord k ((s.taken p).vread p.ring (p.u64 16) 160) = some r →
    (∀ z ∈ s.membersOf u, z.1 = k) → r.regionOff + r.regionBytes ≤ (s.tundish u).slotBytes →
    (s.taken p).rateBroken k r (bitAt (p.u8 15) 1) = false →
    exec (.configureStream p pt) s = .next (answered p 0 4 0 [] (sweepTundishes ((s.taken p).setInstream k { x with
      enabled := bitAt (p.u8 15) 1, required := bitAt (p.u8 15) 0, tundish := u, member := p.u8 14, joined := bitAt (p.u8 15) 1
      rec_ := some (.cam r), nextRec := none, sample := if bitAt (p.u8 15) 1 then x.sample else none }))))
  ∧ (∀ (s : State) (p : Packet) (m : Remap) (r : CamRec), s.accepts p 0x0404 16 false → s.engineGone 3 = false →
    let k := p.u8 12
    let x := s.instream k
    let f := (s.tundish x.tundish).flask
    let t := (s.taken p).setInstream k { x with stagedRemap := some m }
    k ≤ 79 → p.u8 13 = 0 → x.joined = true → p.ring ∈ (s.flask f).tenants →
    remapTable (Memory.read s.hostMem (p.u64 16) (p.u32 24)) = some m → x.nextRec = none → x.rec_ = some (.cam r) →
    m.srcW = r.width → m.srcH = r.height → r.outBytes (some m) ≤ r.regionBytes → t.charge f 2 ≤ t.quotaOf f 2 →
    exec (.loadRemap p) s = .next (answered p 0 4 0 [] t))
  ∧ (∀ (s : State) (p : Packet) (f : Nat), s.engineGone 4 = false → s.flaskOfCtx p.ring = some f →
    (s.accepts p 0x0410 10 false → p.u16 12 ≤ 63 → p.u8 14 ≤ 1 → p.u8 15 ≤ 1 → p.u8 21 = 0xFF →
      let w := p.u16 16
      let h := p.u16 18
      (s.session 0 (p.u16 12)).used = false → w * h * p.u8 20 ≤ 3840 * 2160 * 60 →
      sessionLoad s.ing.decodes + w * h * p.u8 20 ≤ 3981312000 → w ≠ 0 → h ≠ 0 → w % 2 = 0 → h % 2 = 0 →
      exec (.openDecode p) s = .next (answered p 0 4 0 [] ((s.taken p).setSession 0 (p.u16 12)
        { used := true, owner := p.ring, flask := f, codec := p.u8 14, grainOff := decide (p.u8 15 = 1), width := w, height := h
          fps := p.u8 20, stream := 0xFF, lumaRate := w * h * p.u8 20 })))
    ∧ (s.accepts p 0x0411 34 false → ∀ r : CamRec,
      let k := p.u8 14
      let d := p.u8 15
      p.u16 12 ≤ 47 → d = 1 ∨ d = 2 ∨ d = 4 → p.u8 16 ≤ 2 → 1 ≤ p.u16 18 → p.u16 18 ≤ 600 → k ≤ 47 →
      (s.instream k).rec_ = some (.cam r) → (s.session 1 (p.u16 12)).used = false →
      let rate := (s.taken p).perSecond r.trig (r.width / d * (r.height / d))
      rate ≤ 3840 * 2160 * 30 → sessionLoad s.ing.encodes + rate ≤ 2985984000 →
      (s.taken p).accessFault p.ring (p.u48 24) (p.u32 32) true = none →
      (s.taken p).accessFault p.ring (p.u48 40) 48 false = none → p.u16 36 = 0xFFFF →
      exec (.openEncode p) s = .next (answered p 0 4 0 [] ((s.taken p).setSession 1 (p.u16 12)
        { used := true, owner := p.ring, flask := f, width := r.width / d, height := r.height / d, stream := k, downscale := d
          rateControl := p.u8 16, lumaRate := rate, qp := p.u8 17, irap := p.u16 18, kbps := p.u32 20, ringVa := p.u48 24
          ringBytes := p.u32 32, counter := 0xFFFF
          tap := (List.range 12).map fun i => (s.taken p).vnum p.ring (p.u48 40 + 4 * i) 4 }))))
  ∧ (∀ (s : State) (p : Packet), p.u8 12 ≤ 1 → p.u16 14 ≤ 63 →
    let x := s.session (p.u8 12) (p.u16 14)
    x.used = true → p.ring ∈ (s.flask x.flask).tenants →
    (s.accepts p 0x0412 4 false → x.closer = none → exec (.closeSession p) s
      = .next (settle (sweepSession (p.u8 12) (p.u16 14) (waitReply (s.ticketOf p 0x0412)
          ((s.taken p).setSession (p.u8 12) (p.u16 14) { x with closer := some (s.ticketOf p 0x0412) })))))
    ∧ (s.accepts p 0x0413 4 false → exec (.querySession p) s = .next (answered p 0 4 0
        (leBytes 4 x.pictures ++ leBytes 4 x.concealed ++ leBytes 4 x.damage ++ leBytes 4 x.drops) (s.taken p))))
  ∧ (∀ (s : State) (p : Packet),
    (s.accepts p 0x0405 1 false → p.u8 12 ≤ 79 → (s.instream (p.u8 12)).joined = true →
      p.ring ∈ (s.flask (s.tundish (s.instream (p.u8 12)).tundish).flask).tenants →
      exec (.queryIngest p) s = .next (answered p 0 4 0
        ((List.range 6).flatMap fun w => leBytes 4 ((s.taken p).streamWord (p.u8 12) w)) (s.taken p)))
    ∧ (s.accepts p 0x0406 1 false → p.u8 12 ≤ 15 → (s.tundish (p.u8 12)).used = true →
      p.ring ∈ (s.flask (s.tundish (p.u8 12)).flask).tenants →
      exec (.queryTundish p) s = .next (answered p 0 4 0
        ((List.range 6).flatMap fun w => leBytes 4 ((s.taken p).tundishWord (p.u8 12) w)) (s.taken p))))
  ∧ ∀ (s : State) (u v : Nat), s.pfServed = true → (s.tundish u).used = true →
    let x := s.tundish u
    exec (.tundishStatusClear u v) s = .next (settle (s.setTundish u { x with
      overflow := x.overflow && !bitAt v 15, lowCause := x.lowCause &&& ~~~(BitVec.ofNat 3 (v / 65536)) }))

/-- For an enabled camera stream: a frame start ends the frame in arrival, takes a staged record and begins a sample at its trigger
time; a line is taken; a frame end counts the errors and ends the frame. A datagram of an enabled point stream whose sweep goes on is
noted and its points read. At T + CLOSE_US a batch that is not complete closes: each member of it is settled, and the slot comes to
rest; at T + WARN_US of a batch still filling the low-water alarm is raised. TAKE_BATCH takes the slot that its rule gives; where there
is none, a paced flask gets a missing batch with an alarm, and a free-running one waits, alarmed once. -/
def Obligations.SamplesAndBatches : Prop :=
  (∀ (s : State) (k n : Nat) (r q : CamRec), k < 48 → s.now ≤ n → s.camera k = some r →
    let t := takeRecord k (endFrame k r (advance n s))
    ((advance n s).camera k = some r → t.camera k = some q →
      exec (.csi2FrameStart k n) s = .next (settle (beginSample k (triggerTime q.trig q.lagMin q.lagMax t) q.offsetNs t)))
    ∧ (∀ l : LineIn, exec (.csi2Line k l) s = .next (settle (takeLine k r l s)))
    ∧ ∀ e : Nat, exec (.csi2FrameEnd k e) s = .next (settle (endFrame k r
        (s.setInstream k { s.instream k with phyErr := satAdd (s.instream k).phyErr e }))))
  ∧ (∀ (s : State) (k n e m : Nat) (data : List Byte) (r : PointRec), 48 ≤ k → k ≤ 63 → (s.instream k).enabled = true →
    let t := startSweep k data ((advance n s).setInstream k
      { s.instream k with phyErr := satAdd (s.instream k).phyErr e })
    (t.instream k).rec_ = some (.point r) → r.count = .inr m → (∀ z, r.sweep ≠ .flag z ∧ ∀ i, r.sweep ≠ .packets i) →
    let pts := (List.range (min m ((data.length - r.head) / max 1 r.pointBytes))).map fun i =>
      r.point ((data.drop (r.head + i * r.pointBytes)).take r.pointBytes)
    exec (.pointPacket k n data e) s = .next (settle (readPoints k data pts (notePacket k r data t))))
  ∧ (∀ (s : State) (u ref i : Nat), (s.tundish u).slotOf ref = some i →
    let y := (s.tundish u).slots.getD i {}
    (y.closed = false → y.complete = false → y.state = .filling ∨ y.state = .held →
      let t := y.members.foldl (fun s m => closeMember u i m s) (advance (ref + 1000 * (s.tundish u).closeUs) s)
      exec (.tundishClose u ref) s = .next (settle (slotReady u i
        (t.setSlot u i { (t.tundish u).slots.getD i {} with closed := true }))))
    ∧ (y.state = .filling → (s.tundish u).warnUs ≠ 0 → exec (.tundishWarn u ref) s
        = .next (settle (lowWater u 0 (advance (ref + 1000 * (s.tundish u).warnUs) s)))))
  ∧ ∀ (s : State) (q k u : Nat) (early : Bool) (r : PourRun) (en : Entry), s.entryOf 3 q k 1 = some (r, en) →
    (∀ y ∈ r.own, y.1 ≠ k) → (s.tundish u).used = true → (s.tundish u).flask = r.flask →
    (∀ i, s.takeSlot u r.flask early = some i →
      exec (.takeBatch q k u early) s = .next (settle (takeBatch q k r en u i s)))
    ∧ (s.takeSlot u r.flask early = none → (s.flask r.flask).mode ≠ .paced → (s.tundish u).waiting = false →
      exec (.takeBatch q k u early) s
        = .next (settle (lowWater u 1 (s.setTundish u { s.tundish u with waiting := true }))))
    ∧ (s.takeSlot u r.flask early = none → (s.flask r.flask).mode = .paced →
      let out : OutState := { attrs := {}, epoch := s.now, missing := true }
      let t := vwrite r.ctx (en.tensors.getD 1 0) (List.replicate 4 0 ++ [1] ++ List.replicate 59 0)
        (s.setTundish u { s.tundish u with missing := satInc (s.tundish u).missing, out := out })
      exec (.takeBatch q k u early) s = .next (settle (noteOwn 3 q k out (lowWater u 1 t))))

/-- Of an entry in flight for an open session of its flask, which has not acted yet: DECODE_AU of a session that feeds no stream puts
the decoded picture at its place among those held, counts its damage, puts out the pictures that leave the reorder buffer, and writes
the decode status; FLUSH puts out every picture held. An access unit that the encoder has made is written into the ring behind its
32-byte header, with the picture counted and the counter object advanced; a full ring, or a picture that is no IRAP after one, drops
it. -/
def Obligations.CodecOperations : Prop :=
  (∀ (s : State) (q k n time : Nat) (au : AuResult) (r : PourRun) (en : Entry), s.entryOf 4 q k 1 = some (r, en) →
    let x := s.session 0 n
    (∀ y ∈ r.own, y.1 ≠ k) → x.used = true → x.flask = r.flask → x.stream = 0xFF →
    let held := x.heldAfter time au
    let m := min au.out held.length
    let t := outputPictures m n r en (s.setSession 0 n { x with
      held := held, damage := satAdd x.damage au.records.length
      concealed := if au.concealed then satInc x.concealed else x.concealed })
    let v := vwrite r.ctx (en.tensors.getD 2 0) (decodeStatus m au.concealed au.noEntry au.records.length) t
    exec (.decodeAu q k n time au) s = .next (settle (sweepSession 0 n (noteOwn 4 q k
      { attrs := { concealed := au.concealed }, epoch := min v.now time, missing := au.noEntry } v))))
  ∧ (∀ (s : State) (q k n : Nat) (r : PourRun) (en : Entry), s.entryOf 4 q k 2 = some (r, en) →
    let x := s.session 0 n
    (∀ y ∈ r.own, y.1 ≠ k) → x.used = true → x.flask = r.flask →
    let bad := x.held.any (·.concealed)
    let t := vwrite r.ctx (en.tensors.getD 2 0) (decodeStatus x.held.length bad false 0)
      (outputPictures x.held.length n r en s)
    exec (.flush q k n) s = .next (settle (sweepSession 0 n (noteOwn 4 q k
      { attrs := { concealed := bad }, epoch := t.now } t))))
  ∧ ∀ (s : State) (n : Nat) (irap room : Bool) (data : List Byte) (y : Picture),
    let x := s.session 1 n
    x.input = some y → x.used = true →
    (room = true → x.skipping = false → x.gap = false →
      let head := leBytes 8 y.time ++ leBytes 4 x.pictures ++ leBytes 1 (flagAt 0 irap + flagAt 1 y.concealed + flagAt 2 false)
        ++ [0, 0, 0] ++ leBytes 4 data.length ++ List.replicate 12 0
      let t := (ringWrite x.owner x.ringVa x.ringBytes x.ringAt (head ++ data) s).setSession 1 n { x with
        input := none, gap := false, skipping := false, pictures := satInc x.pictures
        concealed := if y.concealed then satInc x.concealed else x.concealed
        ringAt := (x.ringAt + 32 + data.length) % max 1 x.ringBytes }
      exec (.encodeAuComplete n irap room data) s
        = .next (settle (sweepSession 1 n (if x.counter = 0xFFFF then t else signalSync x.counter 0 1 t))))
    ∧ (room = false →
      let t := s.setSession 1 n { x with input := none, gap := true, skipping := true, drops := satInc x.drops }
      exec (.encodeAuComplete n irap room data) s
        = .next (settle (sweepSession 1 n { t with ing := { t.ing with encDrops := satInc s.ing.encDrops } })))

/-- With the Spatial Engine present and every field in range: LOAD_CALIBRATION of records that R434 lets in, into a set that no flask
uses and while none is built, writes the records and begins to build the tables of the set; it answers when they are built.
SWITCH_CALIBRATION to a set that is built stages the other selection of each member and issues a series. A projection table, a track
set is created over a free number from a legal description, and destroyed when no loaded job names it. SET_TRACK_PARAMS and
SWITCH_LATTICE stage their change and wait for the parting line; LOAD_LATTICE writes the inactive copy. QUERY_SPATIAL returns the six
words of its kind. -/
def Obligations.SpatialCommands : Prop :=
  (∀ (s : State) (p : Packet), s.accepts p 0x0501 12 true → s.engineGone 5 = false →
    let n := p.u8 15
    let clone := bitAt (p.u8 13) 1
    let bytes := (s.taken p).getBytes p.ring (bitAt (p.u8 13) 0) (p.u64 16) (128 * n)
    let recs := (List.range n).map fun i => (bytes.drop (128 * i)).take 128
    p.u8 12 ≤ 1 → p.u8 13 ≤ 3 → 1 ≤ n → n ≤ 64 → p.u8 14 + n ≤ 64 →
    (bitAt (p.u8 13) 0 = true → (s.taken p).accessFault p.ring (p.u64 16) (128 * n) false = none) →
    s.calInUse (p.u8 12) = false → s.sp.building = none → recs.all calOk = true →
    exec (.loadCalibration p) s = .next (awaiting (s.ticketOf p 0x0501) { s.taken p with sp := { s.sp with
      records := s.recordsWith (p.u8 12) (p.u8 14) clone recs
      building := some (s.ticketOf p 0x0501, p.u8 12, s.tablesToBuild (p.u8 12) (p.u8 14) n clone)
      builtA := s.sp.builtA && decide (p.u8 12 ≠ 0), builtB := s.sp.builtB && decide (p.u8 12 ≠ 1) } }))
  ∧ (∀ (s : State) (tk : Ticket) (set : Nat) (ks : List Nat), s.sp.building = some (tk, set, ks) →
    let t := ks.foldl (fun s k => if (s.projection k).used then buildCopy set k s else s) s
    exec .projectionBuildComplete s = .next (settle (finish tk 0 5 0
      (leBytes 4 ks.length ++ [0, 0, 0, 0] ++ leBytes 8 (hashLow64 (t.calBytes set)))
      { t with sp := { t.sp with building := none, builtA := t.sp.builtA || decide (set = 0)
                                 builtB := t.sp.builtB || decide (set = 1) } })))
  ∧ (∀ (s : State) (p : Packet), s.accepts p 0x0502 24 true → s.engineGone 5 = false →
    let ms := (List.range (p.u8 12)).map fun k => p.u8 (14 + k)
    1 ≤ p.u8 12 → p.u8 12 ≤ 16 → p.u32 32 ≤ 10000 → (∀ f ∈ ms, f ≤ 15) → ms.Nodup →
    (∀ f ∈ ms, s.calBuilt (1 - s.calOf f) = true ∧ (s.flask f).commits = true ∧ s.anySeries f = false) →
    (s.taken p).orderOk ms = true →
    let staged := ms.map fun f => (f, decide (s.calOf f = 0))
    let t := s.taken p
    exec (.switchCalibration p) s = .next (awaiting (s.ticketOf p 0x0502)
      (issueSeries .config ms (timeoutOf (p.u32 32)) (s.ticketOf p 0x0502) { t with sp := { s.sp with
        stagedSelect := (s.sp.stagedSelect.filter fun x => !ms.contains x.1) ++ staged } })))
  ∧ (∀ (s : State) (p : Packet) (d : ProjDesc) (t : State) (pages : List Nat), s.accepts p 0x0503 12 false →
    s.engineGone 5 = false →
    let k := p.u8 12
    let f := p.u8 13
    k ≤ 15 → f ≤ 15 → p.ring ∈ (s.flask f).tenants → (s.projection k).used = false →
    (s.taken p).accessFault p.ring (p.u64 16) 1 false = none → d.ok = true →
    (∀ n ∈ d.sensors, (s.cal 0 n).camera = true ∧ (s.cal 1 n).camera = true) →
    objectPages f (2 * ((8 * d.entries + 65535) / 65536)) (s.taken p) = .ok (t, pages) →
    let u := t.setProjection k { used := true, flask := f, owner := p.ring, desc := d, pages := pages }
    let v := if u.sp.builtA then buildCopy 0 k u else u
    let w := if v.sp.builtB then buildCopy 1 k v else v
    exec (.createProjection p d) s = .next (answered p 0 5 0 (leBytes 8 (8 * d.entries))
      { w with sp := { w.sp with building := w.sp.building.map fun (b : Ticket × Nat × List Nat) => (b.1, b.2.1, b.2.2 ++ [k]) } }))
  ∧ (∀ (s : State) (p : Packet), s.accepts p 0x0504 1 false → p.u8 12 ≤ 15 → (s.projection (p.u8 12)).used = true →
    p.ring ∈ (s.flask (s.projection (p.u8 12)).flask).tenants → s.objectNamed 1 (p.u8 12) = false →
    exec (.destroyProjection p) s = .next (answered p 0 5 0 [] (overPages freePage (s.projection (p.u8 12)).pages
      ((s.taken p).setProjection (p.u8 12) Projection.rest))))
  ∧ (∀ (s : State) (p : Packet) (x : TrackParams), s.engineGone 5 = false → p.u8 12 ≤ 7 → x.ok = true →
    (s.taken p).accessFault p.ring (p.u64 16) 1 false = none →
    let k := p.u8 12
    let y := s.trackSet k
    (s.accepts p 0x0505 12 false → p.u8 13 ≤ 15 → 1 ≤ p.u16 14 → p.u16 14 ≤ 2048 → p.ring ∈ (s.flask (p.u8 13)).tenants →
      y.capacity = 0 → s.tracksReserved + p.u16 14 ≤ 2048 →
      exec (.createTrackSet p x) s = .next (answered p 0 5 0 [] ((s.taken p).setTrackSet k
        { capacity := p.u16 14, flask := p.u8 13, owner := p.ring, params := x })))
    ∧ (s.accepts p 0x0507 12 false → y.capacity ≠ 0 → p.ring ∈ (s.flask y.flask).tenants →
      exec (.setTrackParams p x) s = .next (awaiting (s.ticketOf p 0x0507)
        ((s.taken p).setTrackSet k { y with staged := y.staged ++ [(x, s.ticketOf p 0x0507)] }))))
  ∧ (∀ (s : State) (p : Packet), s.accepts p 0x0506 1 false → p.u8 12 ≤ 7 →
    let y := s.trackSet (p.u8 12)
    y.capacity ≠ 0 → p.ring ∈ (s.flask y.flask).tenants → s.objectNamed 2 (p.u8 12) = false → y.staged = [] →
    exec (.destroyTrackSet p) s = .next (answered p 0 5 0 [] ((s.taken p).setTrackSet (p.u8 12) TrackSet.rest)))
  ∧ (∀ (s : State) (p : Packet) (m : LatticeImg) (t : State) (more : List Nat), s.accepts p 0x0508 16 false →
    s.engineGone 5 = false → p.u8 12 ≤ 3 → p.u8 13 ≤ 15 → p.u8 14 ≤ 1 →
    let x := s.lattice (p.u8 12)
    let f := if x.used then x.flask else p.u8 13
    let n := p.u32 24
    let bytes := (s.taken p).getBytes p.ring (decide (p.u8 14 = 1)) (p.u64 16) n
    p.ring ∈ (s.flask f).tenants →
    (p.u8 14 = 1 → (s.taken p).accessFault p.ring (p.u64 16) n false = none) → x.pending = none →
    latticeOf bytes = some m →
    objectPages f (2 * ((max n x.active.length + 65535) / 65536) - x.pages.length) (s.taken p) = .ok (t, more) →
    exec (.loadLattice p) s = .next (answered p 0 5 0 [] (t.setLattice (p.u8 12)
      { x with used := true, flask := f, owner := p.ring, inactive := bytes, pages := x.pages ++ more })))
  ∧ (∀ (s : State) (p : Packet), s.accepts p 0x0509 1 false → s.engineGone 5 = false → p.u8 12 ≤ 3 →
    let x := s.lattice (p.u8 12)
    x.used = true → p.ring ∈ (s.flask x.flask).tenants → x.pending = none →
    exec (.switchLattice p) s = .next (awaiting (s.ticketOf p 0x0509)
      ((s.taken p).setLattice (p.u8 12) { x with pending := some (s.ticketOf p 0x0509) })))
  ∧ ∀ (s : State) (p : Packet) (f : Nat), s.accepts p 0x050A 2 false → (s.taken p).senderFlask (s.ticketOf p 0x050A) = some f →
    let i := p.u8 13
    let words := fun (g : Nat → Nat) => (List.range 6).flatMap fun w => leBytes 4 (g w)
    (p.u8 12 = 0 → exec (.querySpatial p) s = .next (answered p 0 5 0 (words (s.taken p).spatialWord) (s.taken p)))
    ∧ (p.u8 12 = 1 → i ≤ 7 → (s.trackSet i).capacity ≠ 0 →
      exec (.querySpatial p) s = .next (answered p 0 5 0 (words ((s.taken p).trackSetWord i)) (s.taken p)))
    ∧ (p.u8 12 = 2 → i ≤ 15 → exec (.querySpatial p) s = .next (answered p 0 5 0 (words ((s.taken p).planWord i)) (s.taken p)))

/-- Of an entry in flight that has not acted yet. POSE_PUSH keeps a pose newer than the ego pose in front of the ring of 1,024, and
counts an older one. ALIGN_POINTS of a lidar slot, for a batch whose member is present, writes the points carried to the batch's
instant; with no pose it marks its output missing and counts. TRACK_UPDATE of a set of the flask writes the set after its update, and
its tracks unless the batch is out of order. COSTMAP_BUILD writes the cube of its layers. OCTREE_BUILD writes the tree of the points in
order and counts what was coarse or outside. PLAN on a lattice of its flask writes its path and counts the plan; with no pose it marks
the output missing. BEV_LIFT writes a row per cell of its table's copy for the set that the flask selects. -/
def Obligations.SpatialOperations : Prop :=
  (∀ (s : State) (q k x : Nat) (r : PourRun) (en : Entry), s.entryOnce 5 q k 1 = some (r, en) → x ≤ 100000 →
    let p := poseOf (s.vread r.ctx (en.tensors.getD 0 0) 64)
    (s.ego = none ∨ (∃ e, s.ego = some e ∧ e.time < p.time) → exec (.posePush q k x) s
      = .next (settle (noteOwn 5 q k { epoch := s.now }
        { s with sp := { s.sp with extrapMaxUs := x, poses := (p :: s.sp.poses).take 1024 } })))
    ∧ (∀ e, s.ego = some e → p.time ≤ e.time → exec (.posePush q k x) s
      = .next (settle (noteOwn 5 q k { epoch := s.now }
        { s with sp := { s.sp with extrapMaxUs := x, poseOos := satInc s.sp.poseOos } }))))
  ∧ (∀ (s : State) (q k slot : Nat) (r : PourRun) (en : Entry), s.entryOnce 5 q k 2 = some (r, en) →
    let c := r.ctx
    let a := en.tensors.getD 0 0
    let d := en.tensors.getD 1 0
    let o := en.tensors.getD 2 0
    let m := s.cal (s.calOf r.flask) slot
    let x := s.instream (m.num 1 1)
    let ref := s.vnum c (d + 8) 8
    let epoch := s.vnum c (d + 16) 8
    let flags := s.vnum c (d + 4) 1
    let n := s.vnum c a 8
    slot ≤ 63 → m.kind = 3 → bitAt flags 0 = false → bitAt (s.vnum c (d + 24) 4) x.member = true →
    let base : Int := s.memberTime x.tundish ref x.member epoch + twosVal 32 (m.num 4 4)
    let pts := s.timedPoints c a n base
    let t0 := (pts.map (·.2)).foldl min ((pts.map (·.2)).headD base)
    let t1 := (pts.map (·.2)).foldl max ((pts.map (·.2)).headD base)
    (∀ p0 p1 pt, s.poseAt t0.toNat = some p0 → s.poseAt t1.toNat = some p1 → s.poseAt ref = some pt →
      exec (.alignPoints q k slot) s = .next (settle (noteOwn 5 q k { attrs := { concealed := bitAt flags 1 }, epoch := epoch }
        (vwrite c o (s.vread c a 16 ++ alignRegion m.rot m.trans (alignment p0 pt) (alignment p1 pt) t0 t1 pts) s))))
    ∧ (s.poseAt ref = none →
      let t := writeFree c o (16 + 16 * n) s
      exec (.alignPoints q k slot) s = .next (settle (noteOwn 5 q k
        { attrs := { concealed := bitAt flags 1 }, epoch := epoch, missing := true }
        { t with sp := { t.sp with alignFail := satInc t.sp.alignFail } }))))
  ∧ (∀ (s : State) (q k set most : Nat) (r : PourRun) (en : Entry), s.entryOnce 5 q k 3 = some (r, en) →
    let x := s.trackSet set
    let c := r.ctx
    let a := en.tensors.getD 0 0
    let d := en.tensors.getD 1 0
    x.capacity ≠ 0 → x.flask = r.flask → 1 ≤ most → most ≤ 4096 →
    let ds := (List.range (min most (s.vnum c a 4))).map fun i => detectionOf (s.vread c (a + 16 + 48 * i) 48)
    let ref := s.vnum c (d + 8) 8
    let flags := s.vnum c (d + 4) 1
    let o := x.update ds ref (bitAt flags 0) s.ego (s.poseAt ref)
    o.set.oos = x.oos → (∀ t, x.lastTime = some t → t < ref) → o.unaligned = false →
    exec (.trackUpdate q k set most) s = .next (settle (noteOwn 5 q k
      { attrs := { concealed := bitAt flags 1 }, epoch := s.vnum c (d + 16) 8, missing := o.missing }
      (vwrite c (en.tensors.getD 2 0) (o.bytes ref) (s.setTrackSet set o.after)))))
  ∧ (∀ (s : State) (q k : Nat) (m : CostRec) (r : PourRun) (en : Entry), s.entryOnce 5 q k 4 = some (r, en) → m.ok = true →
    exec (.costmapBuild q k m) s = .next (settle (noteOwn 5 q k { epoch := s.now }
      (vwrite r.ctx (en.tensors.getD 2 0) ((s.costCube r en m).map (BitVec.ofNat 8)) s))))
  ∧ (∀ (s : State) (q k : Nat) (m : OctRec) (r : PourRun) (en : Entry), s.entryOnce 5 q k 5 = some (r, en) →
    let b := ((en.tensors.headD 0 :: (en.tensors.drop 3).take 8).flatMap (s.regionPoints r.ctx)).foldl
      (fun (b : OctBuild) p => b.point m p) {}
    let t := vwrite r.ctx (en.tensors.getD 2 0) b.bytes s
    exec (.octreeBuild q k m) s = .next (settle (noteOwn 5 q k { epoch := t.now } { t with sp := { t.sp with
      octCoarse := satAdd t.sp.octCoarse b.coarse, outOfExtent := satAdd t.sp.outOfExtent b.outside } })))
  ∧ (∀ (s : State) (q k : Nat) (m : PlanRec) (l : LatticeImg) (r : PourRun) (en : Entry), s.entryOnce 5 q k 6 = some (r, en) →
    latticeOf (s.lattice m.lattice).active = some l → (s.lattice m.lattice).flask = r.flask → 1 ≤ m.passes → m.passes ≤ 4 →
    m.passes ≤ m.eps.length →
    let y := s.planCount r.flask
    (∀ p, s.poseAt m.t = some p →
      let o := s.planSearch r en m l (fsqrt (fadd (fmul p.vx p.vx) (fmul p.vy p.vy)))
      let t := s.setPlanCount r.flask { plans := satInc y.plans, anytime := if o.anytime then satInc y.anytime else y.anytime
                                        noPath := if o.path.isEmpty then satInc y.noPath else y.noPath
                                        expansions := y.expansions + o.made }
      exec (.plan q k m) s = .next (settle (noteOwn 5 q k
        { attrs := { valid := !o.path.isEmpty, anytime := o.anytime }, epoch := t.now }
        (vwrite r.ctx (en.tensors.getD 2 0) (o.bytes l m) t))))
    ∧ (s.poseAt m.t = none → exec (.plan q k m) s = .next (settle (noteOwn 5 q k { epoch := m.t, missing := true }
        (noPose (writeFree r.ctx (en.tensors.getD 2 0) 32
          (s.setPlanCount r.flask { y with plans := satInc y.plans })))))))
  ∧ ∀ (s : State) (q k : Nat) (core : Nat × Nat) (table chans pitch : Nat) (ts : List TDesc) (r : PourRun) (en : Entry)
    (copy : List (Nat × Nat × Nat)), s.arrayOnce q k 0x040 = some (r, en) →
    (s.projection table).copyOf (s.calOf r.flask) = some copy → (s.projection table).used = true →
    (s.projection table).flask = r.flask → 1 ≤ chans → chans ≤ 4096 →
    exec (.bevLift q k core table chans pitch ts) s = .next (settle (noteActed q k (putRows core r (en.tensor ts 2) chans 0
      (s.liftRows r.ctx (en.tensor ts 0) copy (s.projection table).desc chans pitch) s)))

/-- With the Control Engine present, and by a tenant of the channel's flask where the command names a channel: CONFIGURE_LOOP of an
OFF channel with a legal record and cascade, tables of the flask and room in the rate limit makes it MANUAL (TRIPPED while the latch is
set) with MANUAL_INIT; of a channel not in AUTO with enable 0 and no pending change makes it OFF. SET_LOOP_COEFF of a channel not in
AUTO stages the set and waits. OPEN_LOOP of an AUTO channel and CLOSE_LOOP of a channel in the state its mode asks wait for the next
sample instant; OPEN_LOOP of a FAULTED channel opens it at once. SET_SIGNAL writes the slot, SET_MANUAL the manual value. TRIP_LOOPS
trips by source 2; CLEAR_TRIP with both trip inputs released and out of the safe state clears the latch and opens the TRIPPED channels.
QUERY_LOOP returns the channel's six words. -/
def Obligations.LoopCommands : Prop :=
  (∀ (s : State) (p : Packet), s.accepts p 0x0601 20 false → s.engineGone 6 = false → p.u8 12 ≤ 127 →
    let k := p.u8 12
    let c := s.loop k
    let b := (s.taken p).vread p.ring (p.u64 16) 128
    let r := loopRecOf b
    let secs := (List.range r.sections).map fun i => (s.taken p).vread p.ring (p.u64 24 + 64 * i) 64
    (p.u8 13 = 1 → c.state = .off → (c.cascade ≠ [] → p.ring ∈ (s.flask c.record.flask).tenants) →
      (s.taken p).accessFault p.ring (p.u64 16) 128 false = none → (s.taken p).loopRecOk k b = true →
      r.flask ≤ 15 → p.ring ∈ (s.flask r.flask).tenants →
      (s.taken p).accessFault p.ring (p.u64 24) (64 * r.sections) false = none → sectionsOk secs = true →
      s.tableFor r.flask r.ffA = true → s.tableFor r.flask r.ffB = true → s.rateFits k r.sections r.periodNs = true →
      s.lines.tripA = false → s.lines.tripB = false →
      exec (.configureLoop p) s = .next (answered p 0 6 0 [] ((s.taken p).setLoop k { c with
        state := if s.ctl.latched then .tripped else .manual
        record := r, cascade := secs.map sectionOf, u := r.manualInit, manual := r.manualInit
        sp := {}, outValid := false, staleRun := 0, lastSample := s.now, due := none, values := [] })))
    ∧ (p.u8 13 = 0 → c.cascade ≠ [] → c.record.flask ≤ 15 → p.ring ∈ (s.flask c.record.flask).tenants → c.state ≠ .auto →
      c.pending = none →
      exec (.configureLoop p) s = .next (answered p 0 6 0 []
        ((s.taken p).setLoop k { c with state := .off, outValid := false, due := none }))))
  ∧ (∀ (s : State) (p : Packet), s.engineGone 6 = false → p.u8 12 ≤ 127 →
    let k := p.u8 12
    let c := s.loop k
    c.cascade ≠ [] → c.record.flask ≤ 15 → p.ring ∈ (s.flask c.record.flask).tenants →
    (s.accepts p 0x0602 12 false → 1 ≤ p.u8 13 → p.u8 13 ≤ 8 → c.state ≠ .auto → c.staged = none →
      (s.taken p).accessFault p.ring (p.u64 16) (64 * p.u8 13) false = none →
      (c.state ≠ .off → s.rateFits k (p.u8 13) c.record.periodNs = true) →
      let secs := (List.range (p.u8 13)).map fun i => (s.taken p).vread p.ring (p.u64 16 + 64 * i) 64
      sectionsOk secs = true →
      exec (.setLoopCoeff p) s = .next (awaiting (s.ticketOf p 0x0602) ((s.taken p).setLoop k
        { c with staged := some (secs.map sectionOf, s.now, s.ticketOf p 0x0602) })))
    ∧ (s.accepts p 0x0603 1 false →
      (c.state = .faulted → exec (.openLoop p) s
        = .next (answered p 0 6 0 [] ((s.taken p).setLoop k { c with state := .opened })))
      ∧ (c.state = .auto → c.pending = none → exec (.openLoop p) s = .next (awaiting (s.ticketOf p 0x0603)
          ((s.taken p).setLoop k { c with pending := some (.opening (s.ticketOf p 0x0603)) }))))
    ∧ (s.accepts p 0x0604 2 false → c.pending = none →
      (p.u8 13 = 1 → c.state = .manual ∨ c.state = .opened → exec (.closeLoop p) s
        = .next (awaiting (s.ticketOf p 0x0604) ((s.taken p).setLoop k { c with pending := some (.auto (s.ticketOf p 0x0604) s.now) })))
      ∧ (p.u8 13 = 0 → c.state = .auto ∨ c.state = .opened → exec (.closeLoop p) s
        = .next (awaiting (s.ticketOf p 0x0604) ((s.taken p).setLoop k { c with pending := some (.manual (s.ticketOf p 0x0604)) }))))
    ∧ (s.accepts p 0x0606 12 false → exec (.setManual p) s
        = .next (answered p 0 6 0 [] ((s.taken p).setLoop k { c with manual := p.u64 16 })))
    ∧ (s.accepts p 0x060E 1 false → exec (.queryLoop p) s = .next (answered p 0 6 0
        ((List.range 6).flatMap fun w => leBytes 4 ((s.taken p).loopWord k w)) (s.taken p))))
  ∧ ∀ (s : State) (p : Packet), s.engineGone 6 = false →
    (s.accepts p 0x0605 12 true → p.u16 12 ≤ 1023 → p.u8 14 ≤ 1 → exec (.setSignal p) s = .next (answered p 0 6 0 []
        ((s.taken p).setSignal (p.u16 12) { value := p.u64 16, time := s.now, valid := decide (p.u8 14 = 1) })))
    ∧ (s.accepts p 0x0607 0 true → exec (.tripLoops p) s = .next (answered p 0 6 0 [] (tripBy 2 (s.taken p))))
    ∧ (s.accepts p 0x0608 0 true → s.lines.tripA = false → s.lines.tripB = false → s.safe.safeState = false →
      exec (.clearTrip p) s = .next (answered p 0 6 0 [] { s.taken p with ctl := { s.ctl with
        latched := false, tripSources := 0
        loops := s.ctl.loops.map fun (x : Nat × LoopCh) =>
          (x.1, if x.2.state = .tripped then { x.2 with state := .opened } else x.2) } }))

/-- LOAD_MAPS of legal entries puts them in their table. SET_GATE_LIST of a legal list stages it; at the first cycle start at least
1 ms later it takes effect. A frame that arrives sets the slot of each receive map it matches. A queued frame leaves when its medium
lets it. LOAD_FF_TABLE writes the inactive copy, and sets the switch instant where asked; then the copies change places. ARM_TRACE arms,
fires a command trigger, or freezes; READ_TRACE of a frozen trace writes its bytes. CREATE_QP of a legal description that fits the store
waits for the symbolic factor; then the problem exists. DESTROY_QP frees its number, QUERY_QP returns its words. -/
def Obligations.MapsTablesTracesProblems : Prop :=
  (∀ (s : State) (p : Packet) (tx : Bool), s.accepts p 0x0609 20 true → s.engineGone 6 = false → p.u8 12 = (if tx then 1 else 0) →
    let first := p.u16 14
    let n := p.u16 16
    let raw := (List.range n).map fun i => ((s.taken p).vread p.ring (p.u64 24 + 64 * i) 64,
      if tx then (s.taken p).vread p.ring (p.u64 24 + 64 * (n + i)) 64 else [])
    first + n ≤ (if tx then 128 else 256) →
    (s.taken p).accessFault p.ring (p.u64 24) (if tx then 128 * n else 64 * n) false = none →
    (∀ x ∈ raw, (s.taken p).mapOk tx x.1 x.2 = true) →
    exec (.loadMaps p) s = .next (answered p 0 6 0 [] { s.taken p with ctl :=
      if tx then { s.ctl with txMaps := mapsFrom true first raw s.ctl.txMaps
                              queued := s.ctl.queued.filter fun q => !(decide (first ≤ q.map ∧ q.map < first + n)) }
      else { s.ctl with rxMaps := mapsFrom false first raw s.ctl.rxMaps } }))
  ∧ (∀ (s : State) (p : Packet) (gates : List (Nat × Nat)), s.accepts p 0x060A 12 true → s.engineGone 6 = false → p.u8 12 ≤ 5 →
    (s.taken p).accessFault p.ring (p.u64 16) 1 false = none → gates.length = p.u8 13 → gatesOk gates = true →
    (s.port (p.u8 12)).stagedGates = none →
    exec (.setGateList p gates) s = .next (awaiting (s.ticketOf p 0x060A) ((s.taken p).setPort (p.u8 12)
      { s.port (p.u8 12) with stagedGates := some (gates, s.now, s.ticketOf p 0x060A) })))
  ∧ (∀ (s : State) (k since : Nat) (gates : List (Nat × Nat)) (t : Ticket), (s.port k).stagedGates = some (gates, since, t) →
    let cycle := gates.foldl (fun n (g : Nat × Nat) => n + g.2) 0
    exec (.gateCycleStart k) s = .next (settle (finishOk t (advance ((since + 1000000 + cycle - 1) / max 1 cycle * cycle)
      (s.setPort k { s.port k with gates := gates, stagedGates := none })))))
  ∧ (∀ (s : State) (medium port vlan id mac time n : Nat) (payload : List Byte) (m : FrameMap) (f : MapField),
    medium = 0 ∨ (s.port (ethPort medium port)).up = true → s.lines.run = .running → s.engineGone 6 = false →
    s.ctl.rxMaps = [(n, m)] → m.fields = [f] → m.medium = medium → m.port = port → m.id = id →
    medium = 0 ∨ (m.vlan % 4096 = vlan % 4096 ∧ m.mac = mac) → f.at_ + fieldBytes f.kind ≤ payload.length →
    exec (.receiveFrame medium port vlan id mac time payload) s = .next (settle (s.setSignal f.slot
      { value := f.valueOf (numAt payload f.at_ (fieldBytes f.kind)), time := time, valid := true })))
  ∧ (∀ (s : State) (n : Nat) (q : TxFrame) (m : FrameMap), s.ctl.queued.find? (fun q => decide (q.map = n)) = some q →
    s.ctl.txMaps.find? (fun x => decide (x.1 = n)) = some (n, m) → s.txLets m = true →
    exec (.transmitFrameSent n) s = .next (settle { s with ctl := { s.ctl with
      queued := s.ctl.queued.filter fun q => decide (q.map ≠ n), sent := s.ctl.sent ++ [(n, q.payload)] } }))
  ∧ (∀ (s : State) (p : Packet), s.accepts p 0x060B 12 false → s.engineGone 6 = false →
    let k := p.u16 12
    let f := p.u8 14
    let x := s.ffTable k
    let b := (s.taken p).vread p.ring (p.u64 16) 4128
    let sw := if p.u8 15 = 1 then some ((s.now + 1000000 + 999999) / 1000000 * 1000000) else none
    k ≤ 255 → f ≤ 15 → p.u8 15 ≤ 1 → p.ring ∈ (s.flask f).tenants → (x.used = true → x.flask = f) → s.objectNamed 6 k = false →
    x.switchAt = none → (s.taken p).accessFault p.ring (p.u64 16) 4128 false = none → ffOk b = true →
    exec (.loadFfTable p) s = .next (answered p 0 6 0 (leBytes 8 (sw.getD 0)) ((s.taken p).setFfTable k
      { x with used := true, flask := f, inactive := ffCopyOf b, switchAt := sw })))
  ∧ (∀ (s : State) (k n : Nat), (s.ffTable k).switchAt = some n → exec (.ffTableSwitch k) s = .next (settle (advance n
      (s.setFfTable k { s.ffTable k with
        active := (s.ffTable k).inactive, inactive := (s.ffTable k).active, switchAt := none }))))
  ∧ (∀ (s : State) (p : Packet) (f : Nat), s.accepts p 0x060C 12 false → s.engineGone 6 = false → p.u8 12 ≤ 15 →
    f ≤ 15 → p.ring ∈ (s.flask f).tenants →
    let k := p.u8 12
    let x := s.traceCh k
    let b := (s.taken p).vread p.ring (p.u64 16) 16
    let c := s.loop (numAt b 0 1)
    (x.state ≠ 0 → x.flask = f) →
    (p.u8 13 = 0 → (s.taken p).accessFault p.ring (p.u64 16) 16 false = none → traceOk b = true → c.cascade ≠ [] →
      c.record.flask = f → exec (.armTrace p) s = .next (answered p 0 6 0 [] ((s.taken p).setTraceCh k {
        state := 1, loop := numAt b 0 1, what := numAt b 1 1, slot := numAt b 2 2, decim := numAt b 4 1, trigger := numAt b 5 1
        pre := numAt b 8 4, level := numAt b 12 4, owner := p.ring, flask := f })))
    ∧ (p.u8 13 = 1 → x.state = 1 → x.trigger = 4 →
      exec (.armTrace p) s = .next (answered p 0 6 0 [] ((s.taken p).setTraceCh k (x.fire s.now))))
    ∧ (p.u8 13 = 2 → x.state = 1 ∨ x.state = 2 →
      exec (.armTrace p) s = .next (answered p 0 6 0 [] ((s.taken p).setTraceCh k { x with state := 3 }))))
  ∧ (∀ (s : State) (p : Packet), s.accepts p 0x060D 16 false → s.engineGone 6 = false → p.u8 12 ≤ 15 →
    let x := s.traceCh (p.u8 12)
    let bytes := ((s.taken p).traceRead x).take (p.u32 24)
    x.flask ≤ 15 → p.ring ∈ (s.flask x.flask).tenants → x.state = 3 →
    exec (.readTrace p) s = .next (answered p 0 6 0 (leBytes 4 bytes.length)
      { s.taken p with hostMem := Memory.write (s.taken p).hostMem (p.u64 16) bytes }))
  ∧ (∀ (s : State) (p : Packet) (d : QpDesc), s.accepts p 0x0620 12 false → s.engineGone 7 = false →
    let k := p.u8 12
    let f := p.u8 13
    let cols := d.columnsOf d.n
    let nnz := nnzOf cols
    k ≤ 7 → f ≤ 15 → p.ring ∈ (s.flask f).tenants → (s.qp k).created = false → (s.qp k).ticket = none →
    (s.taken p).accessFault p.ring (p.u64 16) 1 false = none → d.ok = true → s.solverUsed + d.storeBytes nnz ≤ 67108864 →
    exec (.createQp p d) s = .next (awaiting (s.ticketOf p 0x0620) ((s.taken p).setQp k {
      flask := f, owner := p.ring, desc := d, nnzL := nnz, iterMacs := d.iterMacs nnz
      factorMacs := Config.factorMacs (cols.map (·.length)), input := { epoch := s.now }, ticket := some (s.ticketOf p 0x0620) })))
  ∧ (∀ (s : State) (k : Nat) (t : Ticket), (s.qp k).ticket = some t →
    let x := s.qp k
    exec (.qpSymbolicFactorComplete k) s = .next (settle (finish t 0 6 0
      (leBytes 4 x.nnzL ++ leBytes 4 x.iterMacs ++ leBytes 4 ((x.factorMacs + 1023) / 1024)
        ++ leBytes 4 ((x.desc.storeBytes x.nnzL + 1023) / 1024)) (s.setQp k { x with created := true, ticket := none }))))
  ∧ ∀ (s : State) (p : Packet), p.u8 12 ≤ 7 →
    let k := p.u8 12
    let x := s.qp k
    x.created = true → x.flask ≤ 15 → p.ring ∈ (s.flask x.flask).tenants →
    (s.accepts p 0x0621 1 false → s.engineGone 7 = false → s.objectNamed 4 k = false →
      exec (.destroyQp p) s = .next (answered p 0 6 0 [] (endQp k (s.taken p))))
    ∧ (s.accepts p 0x0622 1 false → exec (.queryQp p) s = .next (answered p 0 6 0
        ((List.range 6).flatMap fun w => leBytes 4 ((s.taken p).qpWord k w)) (s.taken p)))

/-- At a sample instant a configured channel whose last output has left, with no change and no coefficients waiting, samples: the
state after its rule on what it reads, the output due, the traces of the channel served. At the output instant its slot is written, the
result delivered and its frames queued. PUBLISH_TRAJ of a header in range puts the trajectory into its slot, on a paced flask at the
boundary. QP_UPDATE of a legal update changes the problem; of a missing one marks it. QP_SOLVE keeps the problem after the solve and
writes its result. -/
def Obligations.LoopAndSolverOperations : Prop :=
  (∀ (s : State) (k : Nat),
    let c0 := s.loop k
    let n := instantOf c0.record.periodNs c0.lastSample s.now
    let t := advance n s
    let c : LoopCh := { t.loop k with lastSample := n }
    c0.cascade ≠ [] → c0.due = none → c0.state ≠ .off → c0.record.spKind ≠ 2 → c0.staged = none → c0.pending = none →
    let c1 := { c.sample (t.loopIn c n) none with due := some (n, (t.flask c.record.flask).generation) }
    c1.state ≠ .faulted →
    exec (.loopSample k) s = .next (settle (seeTraces k n (t.setLoop k c1))))
  ∧ (∀ (s : State) (k n gen : Nat), (s.loop k).due = some (n, gen) → (s.loop k).state ≠ .off →
    let c := s.loop k
    let out := n + c.record.delayNs
    let t := writeOutSlot k out (advance out (s.setLoop k { c with due := none }))
    let a := c.sp.attrs
    exec (.loopOutputInstant k) s = .next (settle (queueFrames k out (deliver
      { outputTime := out, sourceEpoch := c.sp.epoch, generation := gen, cls := c.record.cls, flask := c.record.flask
        digest := t.digestFor (some c.record.flask) % 65536
        attrs := { valid := c.outValid, concealed := a.concealed, mixedGen := a.mixedGen, remapped := a.remapped
                   voted := a.voted, anytime := a.anytime, shifted := a.shifted } } t))))
  ∧ (∀ (s : State) (q k slot : Nat) (r : PourRun) (en : Entry), s.entryOnce 6 q k 1 = some (r, en) → slot ≤ 15 →
    let a := en.tensors.getD 0 0
    let h := s.vread r.ctx a 32
    let n := numAt h 12 2
    let cols := numAt h 14 2
    1000 ≤ numAt h 8 4 → numAt h 8 4 ≤ 1000000000 → 2 ≤ n → n ≤ 4096 → 1 ≤ cols → cols ≤ 64 → zerosAt h 16 16 = true →
    let o := s.entryOut r k en
    let x : Traj := {
      flask := r.flask, valid := o.attrs.valid && !o.missing, t0 := numAt h 0 8, dt := numAt h 8 4, columns := cols
      points := (List.range (n * cols)).map fun i => s.vnum r.ctx (a + 32 + 4 * i) 4
      epoch := o.epoch, attrs := o.attrs.carried }
    let t := noteOwn 6 q k { epoch := s.now } s
    ((t.flask r.flask).mode = .paced → exec (.publishTraj q k slot) s
      = .next (settle { t with ctl := { t.ctl with trajWaits := t.ctl.trajWaits ++ [(r.flask, slot, x)] } }))
    ∧ ((t.flask r.flask).mode ≠ .paced → exec (.publishTraj q k slot) s = .next (settle (t.setTraj slot x))))
  ∧ (∀ (s : State) (q k n : Nat) (r : PourRun) (en : Entry), s.entryOnce 7 q k 1 = some (r, en) →
    let x := s.qp n
    let a := en.tensors.getD 0 0
    let o := s.entryOut r k en
    let m := s.vnum r.ctx a 4
    x.created = true → x.flask = r.flask →
    (o.missing = true ∨ (∃ y ∈ en.sources, (s.sourceOut r.flask r y).missing = true) →
      exec (.qpUpdate q k n) s = .next (settle (noteOwn 7 q k { epoch := s.now }
      (s.setQp n { x with inputMissing := true, input := o }))))
    ∧ (∀ l, o.missing = false → (∀ y ∈ en.sources, (s.sourceOut r.flask r y).missing = false) → 1 ≤ m → m ≤ 65536 →
      x.changes (s.vread r.ctx a 16) ((List.range m).map fun i => s.vread r.ctx (a + 16 + 16 * i) 16) = some l →
      exec (.qpUpdate q k n) s = .next (settle (noteOwn 7 q k { epoch := s.now } (s.setQp n
        { l.foldl Qp.change x with inputMissing := false, input := { o with attrs := o.attrs.carried } })))))
  ∧ ∀ (s : State) (q k n : Nat) (stop : Option Nat) (r : PourRun) (en : Entry), s.entryOnce 7 q k 2 = some (r, en) →
    (s.qp n).created = true → (s.qp n).flask = r.flask →
    let o := (s.qp n).solve (if (s.flask r.flask).mode = .paced then none else stop)
    exec (.qpSolve q k n stop) s
      = .next (settle (noteOwn 7 q k o.out (vwrite r.ctx (en.tensors.getD 2 0) o.bytes (s.setQp n o.qp))))

/-- SET_TRUSS without a joined member sets the truss and trains or disables the ports. QUERY_TRUSS returns this module's words, or a
joined member's. PAIR_MODULES of a joined member with a mask of comparable flasks sends the digest and waits for the partner; UNPAIR
drops the pair with reason 0x13. LEAVE_TRUSS drops the pair, tells the neighbours, and every member leaves. READ_DIVERGENCE returns the
record and releases it. TRUSS_APERTURE opens an aperture of the sender over a counter and range of its flask, or with length 0 closes
it. TRUSS_COPY to a joined member sends the bytes of the range; one that is lost on its way ends FAULTED. TRUSS_STATUS bit 12 is cleared
by writing one. -/
def Obligations.TrussCommands : Prop :=
  (∀ (s : State) (p : Packet), s.accepts p 0x0A01 12 true → p.u8 16 ≤ 3 → p.u8 17 ≤ 3 → p.u8 18 ≤ 3 → p.u8 19 = 0 →
    p.u32 20 < 2 ^ 29 → s.joined = [] →
    exec (.setTruss p) s = .next (answered p 0 0x0A 0 [] (enablePort 1 (bitAt (p.u8 17) 1) (enablePort 0 (bitAt (p.u8 17) 0)
      { s.taken p with truss := { s.truss with
        id := p.u32 12, me := p.u8 16, portEn := BitVec.ofNat 2 (p.u8 17), noticeCh := p.u8 18, noticeId := p.u32 20 } }))))
  ∧ (∀ (s : State) (p : Packet), s.accepts p 0x0A02 1 false →
    let t := s.taken p
    let m := p.u8 12
    (m = 0xFF → exec (.queryTruss p) s = .next (answered p 0 0x0A 0
      (leBytes 4 (t.trussStatus 0) ++ leBytes 4 (t.trussStatus 1) ++ leBytes 8 (moduleDigest t)) t))
    ∧ (m ≤ 3 → m ∈ s.joined → exec (.queryTruss p) s = .next (answered p 0 0x0A 0
      (leBytes 4 (t.memberWord m 0) ++ leBytes 4 (t.memberWord m 1) ++ leBytes 8 (moduleDigest t)) t)))
  ∧ (∀ (s : State) (p : Packet), s.accepts p 0x0A03 4 true →
    let m := p.u8 12
    let mask := p.u16 14
    let tk := s.ticketOf p 0x0A03
    m ≤ 3 → m ≠ s.truss.me → mask ≠ 0 → p.u8 13 = 0 → s.truss.partner = none → s.truss.pairing = none → m ∈ s.joined →
    (∀ f ∈ flaskNums, bitAt mask f = true → s.comparable f = true) →
    exec (.pairModules p) s = .next (settle (tryPair (waitReply tk (sendDigest
      { s.taken p with truss := { s.truss with pairing := some (tk, m, mask, s.now) } })))))
  ∧ (∀ (s : State) (p : Packet),
    (s.accepts p 0x0A04 0 true → s.truss.partner ≠ none →
      exec (.unpair p) s = .next (answered p 0 0x0A 0 [] (sendDigest (dropPair 0x13 0xFF 0 s.now (s.taken p)))))
    ∧ (s.accepts p 0x0A06 0 true →
      (s.truss.id = 0 → exec (.leaveTruss p) s = .next (answered p 0 0x0A 0 [] (s.taken p)))
      ∧ (s.truss.id ≠ 0 →
        let t := dropPair 0x13 0xFF 0 s.now (s.taken p)
        let u := ([0, 1].filter fun k => t.truss.portEn.getLsbD k).foldl (fun s k => sendTruss 2 [k, s.truss.me] s) t
        let v := overList memberLeaves (u.truss.members.map (·.1)) u
        exec (.leaveTruss p) s
          = .next (answered p 0 0x0A 0 [] { v with truss := { v.truss with id := 0, members := [] } })))
    ∧ (s.accepts p 0x0A05 0 true →
      let d := s.truss.divergence
      exec (.readDivergence p) s = .next (answered p 0 0x0A 0
        (leBytes 8 d.span ++ leBytes 8 d.boundary ++ leBytes 1 d.flask ++ leBytes 1 d.engines ++ leBytes 1 (if d.held then 1 else 0))
        { s.taken p with truss := { s.truss with divergence := { d with held := false } } })))
  ∧ (∀ (s : State) (p : Packet) (f : Nat), s.accepts p 0x0A10 20 false → s.flaskOfCtx p.ring = some f →
    let k := p.u8 12
    let o := p.u16 14
    let n := p.u64 24
    k ≤ 63 → p.u8 13 ≤ 15 → p.u16 22 = 0 → ((s.aperture k).opened = true → (s.aperture k).ctx = p.ring) →
    (n = 0 → exec (.trussAperture p) s = .next (answered p 0 0x0A 0 [] ((s.taken p).setAperture k Aperture.rest)))
    ∧ (n ≠ 0 → o < 16384 → (s.sync o).kind = .counter → (s.sync o).holder = f →
      (s.taken p).rangeOk p.ring (p.u48 16) n true = true →
      exec (.trussAperture p) s = .next (answered p 0 0x0A 0 [] ((s.taken p).setAperture k
        { opened := true, ctx := p.ring, members := BitVec.ofNat 4 (p.u8 13), counter := o, va := p.u48 16, bytes := n }))))
  ∧ (∀ (s : State) (p : Packet) (f : Nat), s.accepts p 0x0A11 28 false → s.flaskOfCtx p.ring = some f → p.u8 12 ≤ 3 →
    p.u8 13 ≤ 63 → p.u16 14 = 0 → p.u16 22 = 0 → p.u8 12 ∈ s.joined →
    (s.taken p).rangeOk p.ring (p.u48 16) (p.u64 24) false = true →
    exec (.trussCopy p .written) s = .next (answered p 0 0x0A 0 [] (sendTruss 6 ([p.u8 12, p.u8 13, p.u64 32]
        ++ ((s.taken p).vread p.ring (p.u48 16) (p.u64 24)).map BitVec.toNat) (s.taken p)))
    ∧ exec (.trussCopy p .lost) s = .next (answered p 4 0x0A 8 [] (s.taken p)))
  ∧ ∀ (s : State) (v : Word), s.pfServed = true → exec (.stretchLateClear v) s = .next (settle { s with truss := { s.truss with
      stretchLate := s.truss.stretchLate && !v.getLsbD 12 } })

/-- A hello over a port that is up from an absent member puts it to HELLO and judges it; one that falls silent, or takes its leave,
leaves. Hellos and digests go out. A digest of a joined member is kept, and may refuse the pair or let a pairing go on. A time message
updates the member and the port's source. A follow that has not come within 1 µs drops the pair with TIME. A stretch notice works the
factor out again; at a flask's stretch boundary it takes effect. Signatures that come after this module's own are compared, earlier ones
kept; 50 µs of silence is a divergence. A pairing the partner does not answer ends after 1 s. Comparison starts at a period start 10 ms
after the agreement. A failed lane is retired and the port trains anew. An aperture write of a permitted member writes the bytes and
counts. -/
def Obligations.TrussEvents : Prop :=
  (∀ (s : State) (port m id mid hops : Nat), port ≤ 1 → m ≤ 3 → (s.aePort port).up = true → (s.member m).state = .absent →
    (s.member m).hops = 0 → 1 < hops →
    exec (.hello port m id mid hops) s = .next (settle (judgeHello m (s.setMember m { s.member m with
      hops := min 3 hops, viaPort := port, state := .hello, trussId := id, moduleId := mid }))))
  ∧ (∀ (s : State) (m : Nat), ((s.member m).joined = true → exec (.helloTimeout m) s = .next (settle (memberLeaves m s)))
    ∧ exec (.leaveMessage m) s = .next (settle (memberLeaves m s)))
  ∧ (∀ (s : State), exec .helloSend s = .next (settle
      (([0, 1].filter fun k => s.truss.portEn.getLsbD k && (s.aePort k).up).foldl (fun t k => sendTruss 1
        ([k, t.moduleId, t.truss.id, t.truss.me] ++ [0, 1, 2, 3].map fun m => (s.member m).state.code) t) s))
    ∧ (s.truss.id ≠ 0 → exec .configurationDigestSend s = .next (settle (checkPair (sendDigest s)))))
  ∧ (∀ (s : State) (m : Nat) (d : ConfigDigest), (s.member m).joined = true → d.member = m → d.stretch = s.truss.stretch →
    exec (.configurationDigest m d) s = .next (settle (tryPair (checkPair
      (s.setMember m { s.member m with digest := some d, listed := d.listed })))))
  ∧ (∀ (s : State) (port st err : Nat) (offset : Int) (tr : Bool), port ≤ 1 → (s.aePort port).up = true → s.truss.id ≠ 0 →
    (s.member (s.aePort port).peer).joined = false → s.truss.following = none → st = 1 →
    let x := s.member (s.aePort port).peer
    let t := s.setMember (s.aePort port).peer { x with
      timeOffset := offset, apart := min 3 (if 1000 < offset.natAbs then x.apart + 1 else 0), good := tr, err := err }
    let y := s.source (8 + port)
    let u := noteTraceable (8 + port) y.traceable (trackPhase (8 + port) (qualify (8 + port)
      (t.setSource (8 + port) { y with offset := offset, traceable := tr, err := err })))
    u.truss.following = none → (u.member (s.aePort port).peer).joined = false →
    exec (.timeMessage port offset st tr err) s = .next (settle u))
  ∧ (∀ (s : State) (port : Nat), s.truss.following = some port → (s.member (s.aePort port).peer).apart ≠ 0 →
    s.truss.partner = some (s.aePort port).peer →
    let t := advance (s.truss.followSince + 10000000000) s
    exec .timeFollowTimeout s = .next (settle (dropPair 0x0A 0xFF 0 t.now t)))
  ∧ (∀ (s : State) (m req n : Nat), m ∈ s.joined → 256 ≤ req → req ≤ 512 → exec (.stretchNotice m req n) s
      = .next (settle (restretch n (s.setMember m { s.member m with request := req }))))
  ∧ (∀ (s : State) (f b : Nat) (w : StretchWait), (s.flask f).lastBoundary = some b → s.truss.stretchWaits = [w] →
    w.flask = f → w.since + 3000 ≤ b → s.truss.id = 0 →
    let t := putStretch w.factor { s with truss := { s.truss with stretchWaits := [] } }
    exec (.stretchBoundary f) s
      = .next (settle { t with truss := { t.truss with flaskStretch := Tab.del s.truss.flaskStretch f } }))
  ∧ (∀ (s : State) (m f n : Nat) (g : List (Nat × Nat)), s.truss.partner = some m → bitAt s.truss.pairMask f = true →
    (s.truss.own.find? (fun y => decide (y.flask = f ∧ y.span = n)) = none → exec (.signatureMessage m f n g) s
      = .next (settle { s with truss := { s.truss with
          early := s.truss.early ++ [{ flask := f, span := n, boundary := 0, sigs := g }] } }))
    ∧ (∀ y, s.truss.own.find? (fun y => decide (y.flask = f ∧ y.span = n)) = some y → exec (.signatureMessage m f n g) s
      = .next (settle (compareSigs y g { s with truss := { s.truss with own := s.truss.own.filter (· ≠ y) } }))))
  ∧ (∀ (s : State) (f n : Nat) (y : SpanSigs), s.truss.own.find? (fun y => decide (y.flask = f ∧ y.span = n)) = some y →
    exec (.signatureTimeout f n) s = .next (settle (diverge y (y.sigs.map (·.1)) [] 0x11 (advance (y.boundary + 50000) s))))
  ∧ (∀ (s : State) (t : Ticket) (m mask since : Nat), s.truss.pairing = some (t, m, mask, since) →
    exec .pairTimeout s = .next (settle (finish t 4 0x0A 6 []
      (advance (since + 1000000000) { s with truss := { s.truss with pairing := none } }))))
  ∧ (∀ (s : State) (f : Nat), s.truss.agreed = true → bitAt s.truss.pairMask f = true → s.truss.compared.getLsbD f = false →
    s.periodStart f = true → s.truss.agreedAt + 10000000 ≤ s.nextBoundary f →
    let done := s.truss.compared ||| BitVec.ofNat 16 (2 ^ f)
    let t := fun (tk : Option Ticket) => { s with truss := { s.truss with
      compared := done, spanNums := Tab.put s.truss.spanNums f 0, pairTicket := tk } }
    (done.toNat ≠ s.truss.pairMask → exec (.comparisonStart f) s = .next (settle (t s.truss.pairTicket)))
    ∧ (done.toNat = s.truss.pairMask →
      exec (.comparisonStart f) s = .next (settle (finishOpt s.truss.pairTicket 0 0x0A 0 [] (t none)))))
  ∧ (∀ (s : State) (k l : Nat), k ≤ 1 →
    let x := s.aePort k
    (l ≤ 7 → s.truss.portEn.getLsbD k = true → s.laneOk k l = true → x.up = true →
      exec (.aetheolinkLaneFailure k l) s = .next (settle (attn 11 0x0A 0 ((retire 4 k l s).setAePort k
        { x with up := false, retraining := true, retrains := satInc x.retrains }))))
    ∧ (x.retraining = true → s.laneGroup k ≠ 0 → exec (.retrainComplete k) s
      = .next (settle (s.setAePort k { x with retraining := false, lanes := s.laneGroup k, up := true }))))
  ∧ ∀ (s : State) (m k n : Nat) (bs : List Byte),
    let x := s.aperture k
    x.opened = true → m ∈ s.joined → x.members.getLsbD m = true → n + bs.length ≤ x.bytes →
    s.rangeOk x.ctx (x.va + n) bs.length true = true →
    exec (.apertureWrite m k n bs) s = .next (settle (signalSync x.counter 0 1 (vwrite x.ctx (x.va + n) bs s)))

/-- SET_MODE in full compute, out of the safe state, with no change pending, to a mode that its rules and the budget allow commits at
once where no flask is affected, and else waits for the parting lines of those it affects. SET_POWER_POLICY sets the ceilings;
SET_FLASK_POWER the bounds of a free-running flask, PARTIAL where the grants cannot reach the floor. The queries return their words.
LOAD_ENERGY_COEFF of a whole record writes the inactive bank and sets the instant of the switch, at which the banks change. An epoch of
the arbiter follows from its reading. A group at its limit for 20 epochs loses its die; the request falls after 2,000 low epochs; 10
seconds of drift raise POWER. WARN is cleared by writing ones. -/
def Obligations.PowerCommandsAndEvents : Prop :=
  (∀ (s : State) (p : Packet) (m : Mode), s.accepts p 0x0801 1 true → Mode.ofCode (p.u8 12) = some m →
    s.safe.safeState = false → s.pa.change = none → s.sup.full = true →
    (m = .drive ∨ m = .depot → s.sup.ibcA = s.sup.ibcB ∧ s.sup.vinLowExt = false) → s.modeRefused m = false →
    s.reservations + s.pa.platformCr ≤ creditsOf (modeBudget s.fuses.grade m) →
    (s.affected m = [] → exec (.setMode p) s
      = .next (settle (settleMoves (replyTo p 0 8 0 [] (commitMode m none (s.taken p))))))
    ∧ (s.affected m ≠ [] → exec (.setMode p) s = .next (settle (settleMoves (waitReply (s.ticketOf p 0x0801)
        { s.taken p with pa := { s.pa with
          change := some { mode := m, members := s.affected m, ticket := some (s.ticketOf p 0x0801) } } })))))
  ∧ (∀ (s : State) (p : Packet), s.accepts p 0x0802 0 false → exec (.queryPower p) s = .next (answered p 0 8 0
      ([0, 1, 2, 3, 4, 5].flatMap fun k => leBytes 4 ((s.taken p).powerStatus k)) (s.taken p)))
  ∧ (∀ (s : State) (p : Packet), s.accepts p 0x0803 4 true →
    let w := p.u16 12
    let pace := p.u16 14
    w = 0 ∨ (40 ≤ w ∧ s.reservations + s.pa.platformCr ≤ creditsOf w) → pace = 0 ∨ 85 ≤ pace ∨ s.pacedActive = false →
    exec (.setPowerPolicy p) s = .next (answered p 0 8 0 [] { s.taken p with
      pa := { s.pa with swCeilW := if w = 0 then 0xFFFF else w, paceCeil := pace } }))
  ∧ (∀ (s : State) (p : Packet), s.accepts p 0x0804 6 true → p.u8 12 ≤ 15 → p.u8 13 = 0 → p.u16 14 ≤ p.u16 16 →
    (s.flask (p.u8 12)).mode ≠ .paced ∨ (s.flask (p.u8 12)).state = .empty →
    let t := (s.taken p).setFlaskPower (p.u8 12) { s.flaskPower (p.u8 12) with floor := p.u16 14, ceil := p.u16 16 }
    (p.u16 14 ≤ s.reachable (p.u8 12) → exec (.setFlaskPower p) s = .next (answered p 0 8 0 [] t))
    ∧ (s.reachable (p.u8 12) < p.u16 14 → exec (.setFlaskPower p) s = .next (answered p 1 8 1 [] t)))
  ∧ (∀ (s : State) (p : Packet), s.accepts p 0x0805 4 false → p.u8 12 ≤ 15 → (s.taken p).sender p = 0 →
    let x := s.flaskPower (p.u8 12)
    let words := fun (e : Nat) => leBytes 8 (e / 1000000) ++ leBytes 4 (min counterMax (x.ballast / 1000000000))
      ++ leBytes 2 x.grant ++ leBytes 2 x.used
    (p.u16 14 = noCtx → exec (.queryEnergy p) s = .next (answered p 0 8 0 (words x.energy) (s.taken p)))
    ∧ (p.u16 14 < 1024 → p.u16 14 ≠ noCtx →
      exec (.queryEnergy p) s = .next (answered p 0 8 0 (words (Tab.get 0 s.pa.ctxEnergy (p.u16 14))) (s.taken p))))
  ∧ (∀ (s : State) (p : Packet), s.accepts p 0x0806 16 true → p.u8 13 ≤ 1 → p.u32 24 = 2304 → s.pa.switchAt = none →
    (p.u8 13 = 1 → (s.taken p).accessFault p.ring (p.u64 16) 2304 false = none) →
    let bs := (s.taken p).getBytes p.ring (decide (p.u8 13 = 1)) (p.u64 16) 2304
    let n := (s.now + 1000000 + 49999) / 50000 * 50000
    coeffValid bs = true →
    exec (.loadEnergyCoeff p) s = .next (answered p 0 8 0 (leBytes 8 n) { s.taken p with pa :=
      if s.pa.activeBank = 0 then { s.pa with coeffB := bs, switchAt := some n }
      else { s.pa with coeffA := bs, switchAt := some n } }))
  ∧ (∀ (s : State) (p : Packet), s.accepts p 0x0807 12 true → p.u8 12 ≤ 3 →
    exec (.readVoltageTable p) s = .next (answered p 0 8 0 (leBytes 4 1088)
      { s.taken p with hostMem := Memory.write (s.taken p).hostMem (p.u64 16) (voltageTable (p.u8 12)) }))
  ∧ (∀ (s : State) (r : EpochReading), s.lines.trigLive = true → s.lines.run = .running ∨ s.lines.run = .startUp →
    exec (.epochStart r) s = .next (settle (settleMoves (epochStart r (traceNote 5 0 s.now s)))))
  ∧ (∀ (s : State) (g : Nat), 20 ≤ Tab.get 0 s.pa.limitRun g →
    (g < 8 → exec (.thermalLimit g) s = .next (settle (settleMoves (dieLost (g % 4) .thermal s))))
    ∧ (g = 8 ∨ g = 9 → exec (.thermalLimit g) s = .next (settle (safeCause 9 0x2E none none false s)))
    ∧ (g = 10 → exec (.thermalLimit g) s
        = .next (settle { s with pa := { s.pa with atLimit := s.pa.atLimit ||| 0x400 } })))
  ∧ (∀ s : State, 2000 ≤ s.pa.lowRun → exec .stretchRequestFall s = .next (settle (requestStretch s.pa.lowMax s)))
  ∧ (∀ s : State, 10 ≤ s.pa.driftRun →
    exec .modelDrift s = .next (settle (attn 7 8 8 { s with pa := { s.pa with driftRun := 0 } })))
  ∧ (∀ (s : State) (n : Nat), s.pa.switchAt = some n → exec .coeffBankSwitch s = .next (settle (coeffSwitch (advance n s))))
  ∧ ∀ (s : State) (v : Word), s.pfServed = true →
    exec (.warnClear v) s = .next (settle { s with pa := { s.pa with warn := s.pa.warn &&& ~~~(v.setWidth 11) } })

/-- Out of the safe state: ARM_SAFE_OUT 1 in a mode that allows the outputs, in full compute and with a notice channel set, arms
them; ARM_SAFE_OUT 0 disarms them and commands them invalid. SET_RESULT_CLASS within its ranges, and not loosening while the outputs
are valid, waits for the boundary. The other settings take effect at once where no field is out of range and none loosens while the
outputs are valid. ENTER_SAFE_STATE with its key enters the safe state. SET_C3_LAYOUT of a C3 flask not yet started names three
different dies in service. REVOKE_FLASK resets the flask, its live jobs' cause 6, and waits. The queries and the log's reading change
nothing but the host memory they write. -/
def Obligations.SafetyCommands : Prop :=
  (∀ (s : State) (p : Packet), s.accepts p 0x0901 1 true → s.safe.safeState = false →
    (p.u8 12 = 0 → exec (.armSafeOut p) s = .next (answered p 0 9 0 [] { s.taken p with
      safe := { s.safe with armed := false, outValid := false }, lines := { s.lines with safeCmd := false } }))
    ∧ (p.u8 12 = 1 → s.outMode = true → s.sup.full = true → s.safe.noticeChannels ≠ [] →
      exec (.armSafeOut p) s = .next (answered p 0 9 0 [] { s.taken p with safe := { s.safe with armed := true } })))
  ∧ (∀ (s : State) (p : Packet), s.accepts p 0x0902 16 true →
    let x := s.rclass (p.u8 12)
    let n := Packet.classCfg p
    p.u8 23 ≤ 3 → n.ageLimit ≤ 100000000 → p.u8 20 ≤ 31 → p.u8 21 ≤ 2 → n.threshold ≠ 0 → 1 ≤ n.windowMs → n.windowMs ≤ 600000 →
    (s.safe.outValid = true → x.coming.loosens n = false) →
    exec (.setResultClass p) s = .next (awaiting (s.ticketOf p 0x0902) ((s.taken p).setRclass (p.u8 12)
      { x with next := x.next ++ [(n, s.ticketOf p 0x0902)] })))
  ∧ (∀ (s : State) (p : Packet),
    (s.accepts p 0x0903 1 false → exec (.queryResultClass p) s = .next (answered p 0 9 0
      ([0, 1, 2, 3, 4, 5].flatMap fun k => leBytes 4 ((s.taken p).classWord (p.u8 12) k)) (s.taken p)))
    ∧ (s.accepts p 0x0906 0 false → exec (.querySafety p) s = .next (answered p 0 9 0
      (([0, 1, 2].flatMap fun k => leBytes 4 ((s.taken p).safetyStatus k)) ++ leBytes 4 ((s.taken p).safeCauseWord 0)
        ++ leBytes 8 s.safe.cause.time) (s.taken p)))
    ∧ (s.accepts p 0x090B 12 false → exec (.readSafetyLog p) s = .next (answered p 0 9 0 (leBytes 1 s.safe.log.length)
      { s.taken p with hostMem := Memory.write (s.taken p).hostMem (p.u64 16) (safetyBytes s.safe.log) })))
  ∧ (∀ (s : State) (p : Packet), s.accepts p 0x0904 8 true → p.u8 12 ≤ 31 → p.u32 16 < 2 ^ 29 →
    let v := p.u8 12
    exec (.setSafetyNotice p) s = .next (answered p 0 9 0 [] { s.taken p with safe := { s.safe with
      noticeChannels := v % 4 :: (if bitAt v 4 then [v / 4 % 4] else []), noticeId := p.u32 16 } }))
  ∧ (∀ (s : State) (p : Packet), s.accepts p 0x0905 8 true →
    let k := p.u8 12
    let th := p.u8 13
    let w := p.u32 16
    let x := s.errSource k
    k ≤ 4 → (policyBounds k).1 ≤ th → th ≤ (policyBounds k).2.1 → (policyBounds k).2.2.1 ≤ w → w ≤ (policyBounds k).2.2.2 →
    s.safe.outValid = false ∨ (th ≤ x.threshold ∧ x.windowMs ≤ w) →
    exec (.setSafetyErrPolicy p) s = .next (answered p 0 9 0 [] { s.taken p with
      safe := { s.safe with sources := s.safe.sources.set k { x with threshold := th, windowMs := w } } }))
  ∧ (∀ (s : State) (p : Packet), s.accepts p 0x0907 1 true → p.u8 12 = 0x5A →
    exec (.enterSafeState p) s = .next (answered p 0 9 0 [] (safeCause 9 0x2D none none false (s.taken p))))
  ∧ (∀ (s : State) (p : Packet), s.accepts p 0x090A 6 true →
    let a := p.u16 12
    let b := p.u16 14
    let c := p.u16 16
    1 ≤ a → 1 ≤ b → b ≤ 600 → 10 ≤ c → c ≤ 1000 →
    s.safe.outValid = false ∨ (a ≤ s.safe.timeBoundUs ∧ b ≤ s.safe.eoiS ∧ c ≤ s.safe.diagMs) →
    exec (.setSafetyTimes p) s = .next (answered p 0 9 0 [] { s.taken p with
      safe := { s.safe with timeBoundUs := a, eoiS := b, diagMs := c } }))
  ∧ (∀ (s : State) (p : Packet), s.accepts p 0x0908 4 true → p.u8 12 ≤ 15 →
    let x := s.flask (p.u8 12)
    x.state = .created ∨ x.state = .loaded → x.cls = 3 → [p.u8 13, p.u8 14, p.u8 15].Nodup →
    (∀ n ∈ [p.u8 13, p.u8 14, p.u8 15], n ≤ 3 ∧ (s.die n).inService = true ∧ (s.die n).short = false) →
    exec (.setC3Layout p) s = .next (answered p 0 9 0 [] ((s.taken p).setC3 (p.u8 12) { s.c3 (p.u8 12) with
      dieA := p.u8 13, dieB := p.u8 14, dieC := p.u8 15, mode := .slack, slack := 0, slackSites := [] })))
  ∧ ∀ (s : State) (p : Packet), s.accepts p 0x0909 1 true → p.u8 12 ≤ 15 →
    let x := s.flask (p.u8 12)
    x.state = .active ∨ x.state = .loaded ∨ x.state = .stopped →
    exec (.revokeFlask p) s = .next (awaiting (s.ticketOf p 0x0909) (flaskReset (p.u8 12) (some (s.ticketOf p 0x0909))
      (overList (fun j s => if (s.job j).live then s.setJob j { s.job j with cause := 6 } else s) (s.jobsOf (p.u8 12)) (s.taken p))))

/-- A class whose newest valid result is older than its limit fails with RESULT_STALE. The safe-state notice is repeated. An audit that
agrees leaves its condition fulfilled; one that finds a C1 to C3 flask changed revokes it and enters the safe state. A step of both
halves with equal signatures is released; unequal ones of a flask with slack wait for a re-run; without slack the step is lost and the
safe state entered. A re-run that agrees with a half releases the step, counts the vote, and the loser's core is counted against; one
that agrees with none, or does not come within the window, loses the step. A checker test counts; one of Keystone's that finds nothing
enters the safe state. EOI_S in simplex, and a clock fault, enter it. A leaky counter loses one event. -/
def Obligations.SafetyEvents : Prop :=
  (∀ (s : State) (c e : Nat), let x := s.rclass c
    x.newest = some e → x.cfg.staleCheck = true → x.cfg.ageLimit ≠ 0 → x.stale = false →
    let t := advance (e + x.cfg.ageLimit * 1000 + 1) s
    exec (.resultStale c) s = .next (settle (classFailure c 0x21
      (match t.ex.results.lookup c with | some h => h.flask | none => 0) (t.setRclass c { x with stale := true }))))
  ∧ (∀ s : State, s.safe.safeState = true → s.safe.noticeChannels ≠ [] → s.safe.noticeRepeat < 255 →
    exec .safeStateNotice s
      = .next (settle (sendNotice (advance (s.safe.cause.time + 100000000 * s.safe.noticeRepeat) s))))
  ∧ (∀ (s : State) (tags : List (Nat × Nat × Holdings)), s.lines.run = .running →
    ((∀ f ∈ flaskNums, (tags.lookup f).getD (0, {}) = s.ownerCopy f) → exec (.partitionAudit tags) s
      = .next (settle (sweepClosing { s with safe := { s.safe with partitionOk := true } })))
    ∧ (∀ f, f ≤ 15 → 1 ≤ (s.flask f).cls → (∀ g ∈ flaskNums, (tags.lookup g).getD (0, {}) = s.ownerCopy g ↔ g ≠ f) →
      exec (.partitionAudit tags) s = .next (settle (sweepClosing (safeCause 9 0x27 (some f) none false
        (revoke f { s with safe := { s.safe with partitionOk := false } }))))))
  ∧ (∀ (s : State) (read : List (Nat × BitVec 64)), s.lines.run = .running →
    ((∀ x ∈ s.safe.lockedCrc, (s.flask x.1).cls = 0 ∨ read.lookup x.1 = none ∨ read.lookup x.1 = some x.2) →
      exec (.translationAudit read) s = .next (settle { s with safe := { s.safe with translationOk := true } }))
    ∧ (∀ f v w, s.safe.lockedCrc = [(f, v)] → 1 ≤ (s.flask f).cls → read.lookup f = some w → w ≠ v →
      exec (.translationAudit read) s = .next (settle (sweepClosing (safeCause 9 0x27 (some f) none false
        (revoke f { s with safe := { s.safe with translationOk := false } }))))))
  ∧ (∀ (s : State) (f j i : Nat) (d : Duplex), (j, i) ∈ (s.c3 f).held → (∀ r ∈ (s.c3 f).reruns, (r.job, r.step) ≠ (j, i)) →
    (∀ y ∈ s.svc.injected, ¬ (y.1 = 0 ∧ y.2.1 = f)) →
    ((s.c3 f).mode = .slack ∨ (s.c3 f).mode = .noSlack → d.sig0 ≠ none → d.sig0 = d.sig1 →
      exec (.duplexCheck f j i d) s = .next (settle (releaseStep f j i s)))
    ∧ ((s.c3 f).mode = .slack → d.sig0 ≠ d.sig1 → d.inputsOk = true → exec (.duplexCheck f j i d) s
        = .next (settle (startReruns f 16 (s.setC3 f { s.c3 f with
          reruns := (s.c3 f).reruns ++ [{ job := j, step := i, sig0 := d.sig0, sig1 := d.sig1 }] }))))
    ∧ ((s.c3 f).mode = .noSlack → d.sig0 ≠ d.sig1 →
      exec (.duplexCheck f j i d) s = .next (settle (sweepClosing (voteFailed f j i s)))))
  ∧ (∀ (s : State) (f j i : Nat) (sig : BitVec 64) (r : Rerun),
    (s.c3 f).reruns.find? (fun r => r.running && decide (r.job = j ∧ r.step = i)) = some r →
    (r.sig0 ≠ some sig → r.sig1 ≠ some sig →
      exec (.slackRerunComplete f j i sig) s = .next (settle (sweepClosing (voteFailed f j i s))))
    ∧ (r.sig0 = some sig → ∀ st, (s.job j).image.steps[i]? = some st →
      let t := s.setC3 f { s.c3 f with votes := satInc (s.c3 f).votes }
      let u := t.setJob j { t.job j with voted := ((t.job j).voted ++ [i]).dedup }
      exec (.slackRerunComplete f j i sig) s = .next (settle (sweepClosing
        (coreMismatch (s.halfSite j (s.c3 f).dieB st) (releaseStep f j i u)))))
    ∧ exec (.slackWindowEnd f j i) s = .next (settle (sweepClosing (voteFailed f j i s))))
  ∧ (∀ (s : State) (f : Nat), let x := s.c3 f
    (s.flask f).state = .active → x.mode = .slack → x.reruns = [] → s.safe.safeState = false →
    exec (.checkerTest f 0 true) s = .next (settle (s.setC3 f { x with tests := satInc x.tests, checkerA := true }))
    ∧ exec (.checkerTest f 1 false) s = .next (settle (sweepClosing (attn 5 9 0x26 (lastingFault 9 0x26 f x.dieB
        (s.setC3 f { x with tests := satInc x.tests, testFails := satInc x.testFails, checkerB := false })))))
    ∧ exec (.checkerTest f 2 false) s = .next (settle (sweepClosing (safeCause 9 0x26 (some f) none false
        (s.setC3 f { x with tests := satInc x.tests, testFails := satInc x.testFails })))))
  ∧ (∀ (s : State) (f n : Nat), (s.c3 f).simplexSince = some n → (s.c3 f).mode = .simplex →
    exec (.eoiExpiry f) s = .next (settle (sweepClosing
      (safeCause 9 0x25 (some f) none false (advance (n + s.safe.eoiS * 1000000000) s)))))
  ∧ (∀ (s : State) (hub : Bool), s.lines.run = .running →
    exec (.clockFault hub) s = .next (settle (sweepClosing (safeCause 9 0x28 none none hub s))))
  ∧ ∀ (s : State) (k u : Nat),
    let less := fun (t : Tab Nat) => Tab.set 0 t u (Tab.get 0 t u - 1)
    (k ≤ 4 → exec (.errorCounterLeak 0 k u) s
      = .next (settle (s.setMemSource k { s.memSource k with leaky := less (s.memSource k).leaky })))
    ∧ (k ≤ 4 → exec (.errorCounterLeak 1 k u) s = .next (settle { s with safe := { s.safe with
        sources := s.safe.sources.set k { s.errSource k with leaky := less (s.errSource k).leaky } } }))
    ∧ exec (.errorCounterLeak 2 k u) s
        = .next (settle (s.setRclass k { s.rclass k with leaky := (s.rclass k).leaky - 1 }))

/-- WRITE_IMAGE of a component's image, off trial and with no switch, marks the inactive bank WRITING and waits; at completion the bank
is VERIFIED with its version, or FAILED. ACTIVATE_BANK of a verified bank of Keystone, the module processor or the arbiter names it
active and it waits for its switch; of an engine it starts a series of the flasks listed. CONFIRM_BANK of a proven bank ends its trial.
COMMIT_SECURITY_VERSION raises the counter to the least version of the active banks. A restart of Keystone runs the bank that verifies
and passes. RELOAD_FLASK of an ACTIVE flask loads the images and waits; at its swap boundary the new jobs take over; without one they go.
RETIRE_DIE of a die that its rules let go takes it from the shadows; RETIRE_SITE of a free site retires it, of a held one waits. READMIT
takes the matching units out of the record. -/
def Obligations.FirmwareReloadRetirement : Prop :=
  (∀ (s : State) (p : Packet) (im : FwImage), s.accepts p 0x0B01 16 true → p.u8 12 ≤ 9 → p.u8 13 ≤ 1 → im.component = p.u8 12 →
    let x := s.comp (p.u8 12)
    x.trial = false → x.switch = .none →
    exec (.writeImage p im) s = .next (awaiting (s.ticketOf p 0x0B01) ((s.taken p).setComp (p.u8 12)
      { x.setBank (1 - x.active) { x.idle with state := .writing } with writing := x.writing ++ [(s.ticketOf p 0x0B01, im)] })))
  ∧ (∀ (s : State) (c : Nat) (t : Ticket) (im : FwImage), (s.comp c).writing = [(t, im)] →
    let x := s.comp c
    let u := fun (st : BankState) => s.setComp c
      { x.setBank (1 - x.active) { state := st, version := im.version, secver := im.secver } with writing := [] }
    (s.imageFails im = none → exec (.imageWriteComplete c) s = .next (settle (finish t 0 0x0B 0
      (leBytes 4 im.version ++ leBytes 1 im.secver)
      (serviceLog { time := (u .verified).now, kind := 4, who := c, info := im.version } (u .verified)))))
    ∧ (∀ d, s.imageFails im = some d → exec (.imageWriteComplete c) s = .next (settle (finish t 4 0x0B d [] (u .failed)))))
  ∧ (∀ (s : State) (p : Packet), s.accepts p 0x0B02 24 true → p.u8 13 = 0 → p.u8 14 ≤ 16 → p.u32 32 ≤ 10000 →
    let c := p.u8 12
    let x := s.comp c
    let ms := Packet.flaskList p
    ms.Nodup → (∀ f ∈ ms, f ≤ 15) → x.switch = .none → x.idle.state = .verified →
    (c ≤ 2 → exec (.activateBank p) s = .next (answered p 0 0x0B 0 (leBytes 4 0 ++ [0]) (flipBank c .waiting (s.taken p))))
    ∧ (3 ≤ c → c ≤ 9 → s.bankLocked c = false → (∀ f ∈ s.bankFlasks c, f ∈ ms) → ms ≠ [] →
      (∀ f ∈ ms, (s.flask f).commits = true ∧ s.anySeries f = false) → (s.taken p).orderOk ms = true →
      exec (.activateBank p) s = .next (awaiting (s.ticketOf p 0x0B02) (issueSeries (.bank c) ms (timeoutOf (p.u32 32))
        (s.ticketOf p 0x0B02) (flipBank c .running (s.taken p))))))
  ∧ (∀ (s : State) (p : Packet), s.accepts p 0x0B03 1 true → p.u8 12 ≤ 9 →
    let x := s.comp (p.u8 12)
    x.trial = true → x.proven = true → x.switch = .none →
    exec (.confirmBank p) s = .next (answered p 0 0x0B 0 [] (serviceLog { time := s.now, kind := 6, who := p.u8 12, info := x.live.version }
      ((s.taken p).setComp (p.u8 12) { x with trial := false }))))
  ∧ (∀ (s : State) (p : Packet), s.accepts p 0x0B04 1 true → p.u8 12 = 0xA5 →
    (∀ c, c ≤ 9 → (s.comp c).trial = false ∧ (s.comp c).switch = .none) →
    let least := compNums.foldl (fun k c => min k (s.comp c).live.secver) 64
    (least ≤ s.fuses.secCounter → exec (.commitSecurityVersion p) s
      = .next (answered p 0 0x0B 0 (leBytes 1 s.fuses.secCounter) (s.taken p)))
    ∧ (s.fuses.secCounter < least →
      let t := overList (fun c s => let x := s.comp c
        if x.idle.state ≠ .empty ∧ x.idle.secver < least then
          s.setComp c (x.setBank (1 - x.active) { x.idle with state := .failed }) else s) compNums
        { s.taken p with fuses := { s.fuses with secCounter := least } }
      exec (.commitSecurityVersion p) s = .next (answered p 0 0x0B 0 (leBytes 1 least)
        (serviceLog { time := t.now, kind := 8, info := least } t))))
  ∧ (∀ s : State, s.keystoneRestarting = true →
    let x := s.comp 0
    let t := { s with safe := { s.safe with outValid := false, armed := false }, lines := { s.lines with safeCmd := false } }
    exec (.keystoneRestart true true) s = .next (settle { t.setComp 0 { x with switch := .none, proven := x.proven || x.trial } with
      sup := { s.sup with ksBank := x.active } }))
  ∧ (∀ (s t : State) (p : Packet) (ims : List PourImage) (js fr : List Nat), s.accepts p 0x0B05 24 true →
    let f := p.u8 12
    let x := s.flask f
    let owner := match s.jobsOf f, x.tenants with | j :: _, _ => (s.job j).owner | [], c :: _ => c | [], [] => p.ring
    f ≤ 15 → 1 ≤ p.u8 13 → p.u8 13 ≤ 8 → p.u32 32 ≤ 10000 → x.state = .active → x.mode = .paced →
    (∀ r ∈ s.ex.reloads, r.flask ≠ f) → s.safe.armed = false ∨ x.cls ≠ 3 → s.anySeries f = false →
    loadAll f owner (ims.take (p.u8 13)) (s.taken p) [] [] = .ok (t, js, fr) → (t.flask f).mode = .paced →
    exec (.reloadFlask p ims) s = .next (settle (sweepClosing (waitReply (s.ticketOf p 0x0B05) { t with ex := { t.ex with
      reloads := t.ex.reloads ++ [{ flask := f, newJobs := js, timeoutMs := timeoutOf (p.u32 32), since := t.now
                                    ticket := s.ticketOf p 0x0B05 }] } }))))
  ∧ (∀ (s : State) (f : Nat) (r : Reload), s.ex.reloads.find? (fun r => decide (r.flask = f)) = some r →
    ((s.flask f).state = .active → s.swapReady r = true → s.reloadCleared r = true →
      exec (.reloadSwap f) s = .next (settle (settleMoves (swapIn r s))))
    ∧ (let t := advance (r.since + r.timeoutMs * 1000000) s
      let u := overList unloadJob r.newJobs { t with ex := { t.ex with reloads := t.ex.reloads.filter (· ≠ r) } }
      exec (.reloadTimeout f) s = .next (settle (settleMoves (finish r.ticket 4 0x0B 8 [] (overList (fun j s =>
        let x := s.job j
        if x.state = .draining ∧ x.stopTicket.isNone ∧ x.drainMode = 0 then s.setJob j { x with state := .running } else s)
        (u.jobsOf f) u))))))
  ∧ (∀ (s : State) (p : Packet), s.accepts p 0x0B06 1 true →
    let n := p.u8 12
    n ≤ 3 → (s.die n).out = none → (∀ r ∈ s.svc.retiring, r.die ≠ n) → (∀ f ∈ flaskNums, (s.c3 f).mode = .none) →
    s.canCarryWithout n = true → s.mayEvacuate n = true → (∀ f ∈ flaskNums, ∀ c ∈ (s.flask f).committed.cores, c.1 ≠ n) →
    let t := overList (fun f s => let x := s.flask f
      s.setFlask f { x with shadow := { x.shadow with cores := x.shadow.cores.filter fun c => decide (c.1 ≠ n) } }) flaskNums (s.taken p)
    exec (.retireDie p) s = .next (settle (settleMoves (waitReply (s.ticketOf p 0x0B06) { t with svc := { t.svc with
      retiring := t.svc.retiring ++ [{ die := n, flasks := [], ticket := s.ticketOf p 0x0B06 }] } }))))
  ∧ (∀ (s : State) (p : Packet), s.accepts p 0x0B07 2 true →
    let n := p.u8 12
    let k := p.u8 13
    n ≤ 3 → k ≤ 143 → s.isFused n k = false → s.isRetired 0 n k = false → (∀ f ∈ flaskNums, (n, k) ∉ (s.c3 f).slackSites) →
    (s.holderOf n k = none → exec (.retireSite p) s = .next (answered p 0 0x0B 0 [] (attn 15 0x0B 0 (retireSiteNow n k (s.taken p)))))
    ∧ (∀ f, s.holderOf n k = some f →
      let t := retireSite n k (s.taken p)
      exec (.retireSite p) s = .next (awaiting (s.ticketOf p 0x0B07) { t with svc := { t.svc with
        retiringSites := t.svc.retiringSites ++ [{ die := n, site := k, flask := f, ticket := s.ticketOf p 0x0B07 }] } })))
  ∧ ∀ (s : State) (p : Packet), s.accepts p 0x0B08 8 true → p.u8 12 ≤ 7 →
    let hit := fun (r : Retired) => decide (r.unit = p.u8 13 ∧ r.kind = p.u8 12 ∧ r.index = p.u32 16)
    let gone := s.sup.record.filter hit
    let t := { s.taken p with sup := { s.sup with
      record := s.sup.record.filter fun r => !hit r, outNow := s.sup.outNow ++ gone
      recordFull := s.sup.recordFull && gone.isEmpty } }
    exec (.readmit p) s = .next (answered p 0 0x0B 0 (leBytes 2 gone.length)
      (gone.foldl (fun s r => serviceLog { time := s.now, kind := 3, who := r.unit, unit := r.index } s) t))

/-- READ_SERVICE_LOG and READ_RETIREMENT write the entries asked for to host memory and return their number. SET_DIAG_PORT sets the
port (writing only on a development grade). QUERY_SERVICE returns the words of the service block or of a component. CALIBRATE_ENERGY in
Park with no ACTIVE flask starts the suite; at its end the record of what it measured is written. On a development grade INJECT_FAULT
logs and arms, poisons, stops the arbiter's epochs, or makes a read-back error; SET_DEV_TRACE turns the trace on or off. -/
def Obligations.ServiceRecordsAndDevelopment : Prop :=
  (∀ (s : State) (p : Packet), 1 ≤ p.u16 28 → p.u16 28 ≤ 4096 →
    (s.accepts p 0x0B09 18 true →
      let es := (s.svc.log.drop (p.u32 24)).take (p.u16 28)
      exec (.readServiceLog p) s = .next (answered p 0 0x0B 0 (leBytes 4 es.length)
        { s.taken p with hostMem := Memory.write (s.taken p).hostMem (p.u64 16) (es.flatMap ServiceEntry.bytes) }))
    ∧ (s.accepts p 0x0B0A 18 true →
      let es := (s.sup.record.drop (p.u32 24)).take (p.u16 28)
      exec (.readRetirement p) s = .next (answered p 0 0x0B 0 (leBytes 4 es.length ++ leBytes 4 s.sup.record.length)
        { s.taken p with hostMem := Memory.write (s.taken p).hostMem (p.u64 16) (es.flatMap Retired.bytes) })))
  ∧ (∀ (s : State) (p : Packet), s.accepts p 0x0B0B 36 true → p.u8 12 ≤ 3 → (bitAt (p.u8 12) 1 = true → s.fuses.grade = .ld600) →
    exec (.setDiagPort p) s = .next (answered p 0 0x0B 0 [] { s.taken p with svc := { s.svc with
      diagEn := bitAt (p.u8 12) 0, diagWrite := bitAt (p.u8 12) 1, diagPort := p.u16 14
      diagAddr := (List.range 16).map (fun k => BitVec.ofNat 8 (p.u8 (16 + k)))
      diagPeer := (List.range 16).map (fun k => BitVec.ofNat 8 (p.u8 (32 + k))) } }))
  ∧ (∀ (s : State) (p : Packet), s.accepts p 0x0B0F 1 false →
    (p.u8 12 = 0xFF → exec (.queryService p) s = .next (answered p 0 0x0B 0
      ([0, 1, 2, 3].flatMap fun k => leBytes 4 ((s.taken p).serviceWord k)) (s.taken p)))
    ∧ (p.u8 12 ≤ 9 → exec (.queryService p) s = .next (answered p 0 0x0B 0
      ([0, 1, 2, 3].flatMap fun k => leBytes 4 ((s.taken p).fwWord (p.u8 12) k)) (s.taken p))))
  ∧ (∀ (s : State) (p : Packet), s.accepts p 0x0B0C 12 true → s.pa.mode = .park → s.svc.suite = none →
    (∀ f ∈ flaskNums, (s.flask f).state ≠ .active) →
    exec (.calibrateEnergy p) s = .next (awaiting (s.ticketOf p 0x0B0C)
      { s.taken p with svc := { s.svc with suite := some (s.ticketOf p 0x0B0C, p.u64 16) } }))
  ∧ (∀ (s : State) (events : List Nat) (leak : List (Nat × List Nat)) (t : Ticket) (a : Nat), s.svc.suite = some (t, a) →
    exec (.energySuiteComplete events leak) s = .next (settle (finish t 0 0x0B 0 (leBytes 4 2304)
      { s with hostMem := Memory.write s.hostMem a (suiteRecord events leak s), svc := { s.svc with suite := none } })))
  ∧ (∀ (s : State) (p : Packet), s.accepts p 0x0B0D 10 true → s.fuses.grade = .ld600 → p.u8 13 ≤ 15 →
    let u := serviceLog { time := s.now, kind := 0x0C, area := 0x0B, who := p.u8 13, unit := p.u8 12 } (s.taken p)
    let arm := fun (i : Nat × Nat × Nat) => { u with svc := { u.svc with injected := u.svc.injected ++ [i] } }
    (p.u8 12 = 0 → exec (.injectFault p) s = .next (answered p 0 0x0B 0 [] (arm (0, p.u8 13, 0))))
    ∧ (∀ m, p.u8 12 = 1 → (s.taken p).mem.maps.find? (fun m =>
        decide (m.flask = p.u8 13 ∧ m.va ≤ p.u48 16 ∧ p.u48 16 < m.va + m.bytes)) = some m →
      exec (.injectFault p) s = .next (answered p 0 0x0B 0 [] (poisonAt m (p.u48 16) u)))
    ∧ (p.u8 12 = 2 → exec (.injectFault p) s = .next (answered p 0 0x0B 0 []
        (safeCause 9 0x29 none none false { u with safe := { u.safe with paEpochs := 0 } })))
    ∧ (p.u8 12 = 3 → exec (.injectFault p) s = .next (answered p 0 0x0B 0 [] (arm (3, 0, p.u8 14))))
    ∧ (p.u8 12 = 4 → exec (.injectFault p) s = .next (answered p 0 0x0B 0 [] (readbackError 1 u))))
  ∧ ∀ (s : State) (p : Packet), s.accepts p 0x0B0E 1 true → s.fuses.grade = .ld600 → p.u8 12 ≤ 3 →
    bitAt (p.u8 12) 0 = false ∨ s.svc.traceOn = true ∨ 65536 + s.quotaSum 2 ≤ s.capacity 2 →
    exec (.setDevTrace p) s = .next (answered p 0 0x0B 0 [] { s.taken p with svc := { s.svc with
      traceOn := bitAt (p.u8 12) 0, traceStream := bitAt (p.u8 12) 0 && bitAt (p.u8 12) 1
      trace := if s.svc.traceOn ∧ bitAt (p.u8 12) 0 then s.svc.trace else [] } })

/-- The commands of Table 3.7, taken up from a context of any function but the privileged physical function (function 0), are refused
with class REJECTED by a check of Table 4.4: the packet has no effect but its take-up and its reply of class 3 in area 0x01. Where the
packet passes the checks before it, the detail is that of NOT_PERMITTED (7). -/
def Obligations.StandbyAndResetsArePrivileged : Prop :=
  ∀ (s : State) (p : Packet), s.host.hostRdy = true → (s.ctx p.ring).mayTake (p.flags.getLsbD 0) = true →
    (s.ctx p.ring).fn ≠ 0 → ∀ (c : Instr) (op least : Nat),
    (c, op, least) = (.enterStandby p, 0x0840, 0) ∨ (c, op, least) = (.resetModule p, 0x0841, 1)
      ∨ (c, op, least) = (.resetDie p, 0x0842, 1) →
    ∃ d,
      let t := moveHead p.ring (d ≠ 4 ∧ d ≠ 5 ∧ d ≠ 6) s
      exec c s = .next (settle (post p.ring p.seq (p.flags.getLsbD 1) 3 1 d (refusalReturn p op (t.ctx p.ring)) t))
      ∧ (s.packetCheck p op true least false = none ∨ s.packetCheck p op true least false = some 7 → d = 7)

/-- START_FLASK of a LOADED or STOPPED flask, out of the safe state (where R550 gives the refusal its own detail): in Park of every
flask, in Limp of a C0 flask, in Depot of a C1, C2 or C3 flask, the reply is REJECTED, MODE_CLASS (area 0x08, detail 3), and nothing but
the take-up has changed: the flask stays LOADED or STOPPED. -/
def Obligations.StartFlaskModeClass : Prop :=
  ∀ (s : State) (p : Packet), s.accepts p 0x0209 1 true → p.u8 12 ≤ 15 → s.safe.safeState = false →
    let x := s.flask (p.u8 12)
    x.state = .loaded ∨ x.state = .stopped →
    s.pa.mode = .park ∨ (s.pa.mode = .limp ∧ x.cls = 0) ∨ (s.pa.mode = .depot ∧ 1 ≤ x.cls ∧ x.cls ≤ 3) →
    exec (.startFlask p) s = .next (answered p 3 8 3 [] (s.taken p)) ∧ (s.taken p).flask (p.u8 12) = x

/-- While ARMED is 1 and every field of the packet is in range: ACTIVATE_BANK of component 3 or 4, or of a component 5 to 9 of whose
engine (code component - 2) a C3 flask holds a queue, and RELOAD_FLASK of a C3 flask, are REJECTED with UPDATE_LOCKED (area 0x0B, detail
6), and nothing but the take-up has changed (RELOAD_FLASK goes on to end what was already due to end). Components 0 to 2 are not locked: with a verified inactive bank and no switch pending their
bank is activated all the same. -/
def Obligations.ArmedLocksUpdates : Prop :=
  (∀ (s : State) (p : Packet), s.accepts p 0x0B02 24 true → s.safe.armed = true → p.u8 13 ≤ 1 → p.u8 14 ≤ 16 →
    p.u32 32 ≤ 10000 → (Packet.flaskList p).Nodup → (∀ f ∈ Packet.flaskList p, f ≤ 15) →
    let c := p.u8 12
    (c = 3 ∨ c = 4 ∨ (5 ≤ c ∧ c ≤ 9 ∧ ∃ f, f ≤ 15 ∧ (s.flask f).state ≠ .empty ∧ (s.flask f).cls = 3
        ∧ ∃ q ∈ (s.flask f).committed.queues, q.1 = c - 2) →
      exec (.activateBank p) s = .next (answered p 3 0x0B 6 [] (s.taken p)))
    ∧ (c ≤ 2 → p.u8 13 = 0 → (s.comp c).switch = .none → (s.comp c).idle.state = .verified →
      exec (.activateBank p) s = .next (answered p 0 0x0B 0 (leBytes 4 0 ++ [0]) (flipBank c .waiting (s.taken p)))))
  ∧ ∀ (s : State) (p : Packet) (ims : List PourImage), s.accepts p 0x0B05 24 true → s.safe.armed = true → p.u8 12 ≤ 15 →
    1 ≤ p.u8 13 → p.u8 13 ≤ 8 → p.u32 32 ≤ 10000 → (s.flask (p.u8 12)).cls = 3 →
    exec (.reloadFlask p ims) s = .next (settle (sweepClosing (replyTo p 3 0x0B 6 [] (s.taken p))))
end

