-- ==== Sys2Proof/Laws/Tab.lean ====
section
/-!
SUPPORT. The laws of sparse tables and memories: what is read after a write, and that a write keeps the canonical form.
-/

namespace Sys2Proof

variable {α : Type}

theorem Tab.get_put_self (d : α) (t : Tab α) (k : Nat) (v : α) : Tab.get d (Tab.put t k v) k = v := by
  induction t with
  | nil => simp [Tab.put, Tab.get]
  | cons r t ih =>
    obtain ⟨a, x⟩ := r
    simp only [Tab.put]
    split <;> [skip; split] <;> simp [Tab.get, *]

theorem Tab.get_put_other (d : α) (t : Tab α) {k j : Nat} (v : α) (h : j ≠ k) :
    Tab.get d (Tab.put t k v) j = Tab.get d t j := by
  induction t with
  | nil => simp [Tab.put, Tab.get, h]
  | cons r t ih =>
    obtain ⟨a, x⟩ := r
    simp only [Tab.put]
    split <;> [skip; split] <;> simp_all [Tab.get]

theorem Tab.get_del_other (d : α) (t : Tab α) {k j : Nat} (h : j ≠ k) : Tab.get d (Tab.del t k) j = Tab.get d t j := by
  induction t with
  | nil => rfl
  | cons r t ih =>
    obtain ⟨a, x⟩ := r
    simp only [Tab.del]
    split <;> simp_all [Tab.get]

theorem Tab.get_set_self [DecidableEq α] {d : α} {t : Tab α} {k : Nat} {v : α} (h : v ≠ d) :
    Tab.get d (Tab.set d t k v) k = v := by
  rw [Tab.set, if_neg h, Tab.get_put_self]

theorem Tab.get_set_other [DecidableEq α] {d : α} {t : Tab α} {k j : Nat} {v : α} (h : j ≠ k) :
    Tab.get d (Tab.set d t k v) j = Tab.get d t j := by
  rw [Tab.set]
  split
  · exact Tab.get_del_other d t h
  · exact Tab.get_put_other d t v h

/-- The canonical form as one statement: numbers strictly rising, no resting row. -/
theorem Tab.wf_cons [DecidableEq α] {d : α} {a : Nat} {x : α} {t : Tab α} :
    Tab.wf d ((a, x) :: t) = true ↔ x ≠ d ∧ (∀ r ∈ t, a < r.1) ∧ Tab.wf d t = true := by
  induction t generalizing a x with
  | nil => simp [Tab.wf]
  | cons r t ih =>
    obtain ⟨b, y⟩ := r
    rw [Tab.wf]
    simp only [Bool.and_eq_true, decide_eq_true_eq, List.mem_cons, forall_eq_or_imp]
    constructor
    · rintro ⟨⟨hx, hab⟩, hw⟩
      obtain ⟨_, hr, _⟩ := ih.1 hw
      exact ⟨hx, ⟨hab, fun r hm => Nat.lt_trans hab (hr r hm)⟩, hw⟩
    · rintro ⟨hx, ⟨hab, _⟩, hw⟩
      exact ⟨⟨hx, hab⟩, hw⟩

/-- In canonical form a table holds nothing at a number below its first. -/
theorem Tab.get_low {d : α} {t : Tab α} {k : Nat} (h : ∀ r ∈ t, k < r.1) : Tab.get d t k = d := by
  induction t with
  | nil => rfl
  | cons r t ih =>
    obtain ⟨a, x⟩ := r
    have hk : k < a := h _ (List.mem_cons_self ..)
    rw [Tab.get, if_neg (by omega), ih fun r hm => h r (List.mem_cons_of_mem _ hm)]

theorem Tab.mem_put {t : Tab α} {k : Nat} {v : α} {r : Nat × α} (h : r ∈ Tab.put t k v) : r = (k, v) ∨ r ∈ t := by
  induction t with
  | nil => simpa [Tab.put] using h
  | cons q t ih =>
    obtain ⟨a, x⟩ := q
    simp only [Tab.put] at h
    split at h
    · simpa using h
    · split at h
      · simp only [List.mem_cons] at h ⊢
        tauto
      · simp only [List.mem_cons] at h ⊢
        rcases h with h | h
        · tauto
        · have := ih h
          tauto

theorem Tab.mem_del {t : Tab α} {k : Nat} {r : Nat × α} (h : r ∈ Tab.del t k) : r ∈ t := by
  induction t with
  | nil => exact h
  | cons q t ih =>
    obtain ⟨a, x⟩ := q
    simp only [Tab.del] at h
    split at h
    · exact List.mem_cons_of_mem _ h
    · simp only [List.mem_cons] at h ⊢
      exact h.imp_right ih

theorem Tab.wf_put [DecidableEq α] {d : α} {t : Tab α} {k : Nat} {v : α} (hv : v ≠ d) (h : Tab.wf d t = true) :
    Tab.wf d (Tab.put t k v) = true := by
  induction t with
  | nil => simp [Tab.put, Tab.wf, hv]
  | cons r t ih =>
    obtain ⟨a, x⟩ := r
    obtain ⟨hx, hr, hw⟩ := Tab.wf_cons.1 h
    simp only [Tab.put]
    split
    · rename_i hk
      refine Tab.wf_cons.2 ⟨hv, fun r hm => ?_, h⟩
      rcases List.mem_cons.1 hm with rfl | hm
      · exact hk
      · exact Nat.lt_trans hk (hr r hm)
    · split
      · rename_i hk
        subst hk
        exact Tab.wf_cons.2 ⟨hv, hr, hw⟩
      · refine Tab.wf_cons.2 ⟨hx, fun r hm => ?_, ih hw⟩
        rcases Tab.mem_put hm with rfl | hm
        · simp only
          omega
        · exact hr r hm

theorem Tab.wf_del [DecidableEq α] {d : α} {t : Tab α} {k : Nat} (h : Tab.wf d t = true) : Tab.wf d (Tab.del t k) = true := by
  induction t with
  | nil => rfl
  | cons r t ih =>
    obtain ⟨a, x⟩ := r
    obtain ⟨hx, hr, hw⟩ := Tab.wf_cons.1 h
    simp only [Tab.del]
    split
    · exact hw
    · exact Tab.wf_cons.2 ⟨hx, fun r hm => hr r (Tab.mem_del hm), ih hw⟩

theorem Tab.wf_set [DecidableEq α] {d : α} {t : Tab α} {k : Nat} {v : α} (h : Tab.wf d t = true) :
    Tab.wf d (Tab.set d t k v) = true := by
  rw [Tab.set]
  split
  · exact Tab.wf_del h
  · exact Tab.wf_put ‹_› h

/-- In canonical form a row reads back whatever it is. -/
theorem Tab.get_set [DecidableEq α] {d : α} {t : Tab α} {k : Nat} {v : α} (h : Tab.wf d t = true) :
    Tab.get d (Tab.set d t k v) k = v := by
  by_cases hv : v = d
  · subst hv
    rw [Tab.set, if_pos rfl]
    induction t with
    | nil => rfl
    | cons r t ih =>
      obtain ⟨a, x⟩ := r
      obtain ⟨_, hr, hw⟩ := Tab.wf_cons.1 h
      simp only [Tab.del]
      split
      · rename_i hk
        subst hk
        exact Tab.get_low hr
      · rename_i hk
        rw [Tab.get, if_neg hk, ih hw]
  · exact Tab.get_set_self hv

/-! ### Memories -/

theorem Memory.byte_setByte {m : Memory} {a : Nat} {b : Byte} (h : m.wf = true) : (m.setByte a b).byte a = b :=
  Tab.get_set h

theorem Memory.byte_setByte_other {m : Memory} {a c : Nat} {b : Byte} (h : c ≠ a) : (m.setByte a b).byte c = m.byte c :=
  Tab.get_set_other h

theorem Memory.wf_setByte {m : Memory} {a : Nat} {b : Byte} (h : m.wf = true) : (m.setByte a b).wf = true :=
  Tab.wf_set h

/-- Every write keeps the canonical form. -/
theorem Memory.wf_write {m : Memory} {a : Nat} {bs : List Byte} (h : m.wf = true) : (m.write a bs).wf = true := by
  induction bs generalizing m a with
  | nil => exact h
  | cons b bs ih => exact ih (Memory.wf_setByte h)

/-- A write leaves every byte outside it as it was. -/
theorem Memory.byte_write_other {m : Memory} {a c : Nat} {bs : List Byte} (h : c < a ∨ a + bs.length ≤ c) :
    (m.write a bs).byte c = m.byte c := by
  induction bs generalizing m a with
  | nil => rfl
  | cons b bs ih =>
    simp only [List.length_cons] at h
    rw [Memory.write, ih (by omega), Memory.byte_setByte_other (by omega)]

/-- What a write stored reads back. -/
theorem Memory.read_write {m : Memory} {a : Nat} {bs : List Byte} (h : m.wf = true) :
    (m.write a bs).read a bs.length = bs := by
  induction bs generalizing m a with
  | nil => rfl
  | cons b bs ih =>
    rw [List.length_cons, Memory.read, Memory.write, ih (Memory.wf_setByte h), Memory.byte_write_other (by omega),
      Memory.byte_setByte h]

end Sys2Proof
end

