-- ==== Sys2Proof/Laws/State.lean ====
section
/-!
SUPPORT. One lemma for each field and each update of the state, true by rfl, and a row read back after its update.
-/

namespace Sys2Proof.Machine

@[simp] theorem State.setProjection_fuses (s : State) (k : Nat) (x : Projection) : (s.setProjection k x).fuses = s.fuses := rfl
@[simp] theorem State.setProjection_lines (s : State) (k : Nat) (x : Projection) : (s.setProjection k x).lines = s.lines := rfl
@[simp] theorem State.setProjection_sup (s : State) (k : Nat) (x : Projection) : (s.setProjection k x).sup = s.sup := rfl
@[simp] theorem State.setProjection_host (s : State) (k : Nat) (x : Projection) : (s.setProjection k x).host = s.host := rfl
@[simp] theorem State.setProjection_ex (s : State) (k : Nat) (x : Projection) : (s.setProjection k x).ex = s.ex := rfl
@[simp] theorem State.setProjection_pa (s : State) (k : Nat) (x : Projection) : (s.setProjection k x).pa = s.pa := rfl
@[simp] theorem State.setProjection_safe (s : State) (k : Nat) (x : Projection) : (s.setProjection k x).safe = s.safe := rfl
@[simp] theorem State.setProjection_svc (s : State) (k : Nat) (x : Projection) : (s.setProjection k x).svc = s.svc := rfl
@[simp] theorem State.setProjection_mem (s : State) (k : Nat) (x : Projection) : (s.setProjection k x).mem = s.mem := rfl
@[simp] theorem State.setProjection_ta (s : State) (k : Nat) (x : Projection) : (s.setProjection k x).ta = s.ta := rfl
@[simp] theorem State.setProjection_tb (s : State) (k : Nat) (x : Projection) : (s.setProjection k x).tb = s.tb := rfl
@[simp] theorem State.setProjection_ing (s : State) (k : Nat) (x : Projection) : (s.setProjection k x).ing = s.ing := rfl
@[simp] theorem State.setProjection_ctl (s : State) (k : Nat) (x : Projection) : (s.setProjection k x).ctl = s.ctl := rfl
@[simp] theorem State.setProjection_truss (s : State) (k : Nat) (x : Projection) : (s.setProjection k x).truss = s.truss := rfl
@[simp] theorem State.setProjection_now (s : State) (k : Nat) (x : Projection) : (s.setProjection k x).now = s.now := rfl
@[simp] theorem State.setProjection_hostMem (s : State) (k : Nat) (x : Projection) : (s.setProjection k x).hostMem = s.hostMem := rfl
@[simp] theorem State.setProjection_drawn (s : State) (k : Nat) (x : Projection) : (s.setProjection k x).drawn = s.drawn := rfl
@[simp] theorem State.setProjection_pending (s : State) (k : Nat) (x : Projection) : (s.setProjection k x).pending = s.pending := rfl
theorem State.setProjection_get (s : State) (k : Nat) (x : Projection) (h : x ≠ Projection.rest) : (s.setProjection k x).projection k = x :=
  Tab.get_set_self h
theorem State.setProjection_other (s : State) (k : Nat) (x : Projection) {other : Nat} (h : other ≠ k) : (s.setProjection k x).projection other = s.projection other :=
  Tab.get_set_other h
@[simp] theorem State.setTrackSet_fuses (s : State) (k : Nat) (x : TrackSet) : (s.setTrackSet k x).fuses = s.fuses := rfl
@[simp] theorem State.setTrackSet_lines (s : State) (k : Nat) (x : TrackSet) : (s.setTrackSet k x).lines = s.lines := rfl
@[simp] theorem State.setTrackSet_sup (s : State) (k : Nat) (x : TrackSet) : (s.setTrackSet k x).sup = s.sup := rfl
@[simp] theorem State.setTrackSet_host (s : State) (k : Nat) (x : TrackSet) : (s.setTrackSet k x).host = s.host := rfl
@[simp] theorem State.setTrackSet_ex (s : State) (k : Nat) (x : TrackSet) : (s.setTrackSet k x).ex = s.ex := rfl
@[simp] theorem State.setTrackSet_pa (s : State) (k : Nat) (x : TrackSet) : (s.setTrackSet k x).pa = s.pa := rfl
@[simp] theorem State.setTrackSet_safe (s : State) (k : Nat) (x : TrackSet) : (s.setTrackSet k x).safe = s.safe := rfl
@[simp] theorem State.setTrackSet_svc (s : State) (k : Nat) (x : TrackSet) : (s.setTrackSet k x).svc = s.svc := rfl
@[simp] theorem State.setTrackSet_mem (s : State) (k : Nat) (x : TrackSet) : (s.setTrackSet k x).mem = s.mem := rfl
@[simp] theorem State.setTrackSet_ta (s : State) (k : Nat) (x : TrackSet) : (s.setTrackSet k x).ta = s.ta := rfl
@[simp] theorem State.setTrackSet_tb (s : State) (k : Nat) (x : TrackSet) : (s.setTrackSet k x).tb = s.tb := rfl
@[simp] theorem State.setTrackSet_ing (s : State) (k : Nat) (x : TrackSet) : (s.setTrackSet k x).ing = s.ing := rfl
@[simp] theorem State.setTrackSet_ctl (s : State) (k : Nat) (x : TrackSet) : (s.setTrackSet k x).ctl = s.ctl := rfl
@[simp] theorem State.setTrackSet_truss (s : State) (k : Nat) (x : TrackSet) : (s.setTrackSet k x).truss = s.truss := rfl
@[simp] theorem State.setTrackSet_now (s : State) (k : Nat) (x : TrackSet) : (s.setTrackSet k x).now = s.now := rfl
@[simp] theorem State.setTrackSet_hostMem (s : State) (k : Nat) (x : TrackSet) : (s.setTrackSet k x).hostMem = s.hostMem := rfl
@[simp] theorem State.setTrackSet_drawn (s : State) (k : Nat) (x : TrackSet) : (s.setTrackSet k x).drawn = s.drawn := rfl
@[simp] theorem State.setTrackSet_pending (s : State) (k : Nat) (x : TrackSet) : (s.setTrackSet k x).pending = s.pending := rfl
theorem State.setTrackSet_get (s : State) (k : Nat) (x : TrackSet) (h : x ≠ TrackSet.rest) : (s.setTrackSet k x).trackSet k = x :=
  Tab.get_set_self h
theorem State.setTrackSet_other (s : State) (k : Nat) (x : TrackSet) {other : Nat} (h : other ≠ k) : (s.setTrackSet k x).trackSet other = s.trackSet other :=
  Tab.get_set_other h
@[simp] theorem State.setLattice_fuses (s : State) (k : Nat) (x : Lattice) : (s.setLattice k x).fuses = s.fuses := rfl
@[simp] theorem State.setLattice_lines (s : State) (k : Nat) (x : Lattice) : (s.setLattice k x).lines = s.lines := rfl
@[simp] theorem State.setLattice_sup (s : State) (k : Nat) (x : Lattice) : (s.setLattice k x).sup = s.sup := rfl
@[simp] theorem State.setLattice_host (s : State) (k : Nat) (x : Lattice) : (s.setLattice k x).host = s.host := rfl
@[simp] theorem State.setLattice_ex (s : State) (k : Nat) (x : Lattice) : (s.setLattice k x).ex = s.ex := rfl
@[simp] theorem State.setLattice_pa (s : State) (k : Nat) (x : Lattice) : (s.setLattice k x).pa = s.pa := rfl
@[simp] theorem State.setLattice_safe (s : State) (k : Nat) (x : Lattice) : (s.setLattice k x).safe = s.safe := rfl
@[simp] theorem State.setLattice_svc (s : State) (k : Nat) (x : Lattice) : (s.setLattice k x).svc = s.svc := rfl
@[simp] theorem State.setLattice_mem (s : State) (k : Nat) (x : Lattice) : (s.setLattice k x).mem = s.mem := rfl
@[simp] theorem State.setLattice_ta (s : State) (k : Nat) (x : Lattice) : (s.setLattice k x).ta = s.ta := rfl
@[simp] theorem State.setLattice_tb (s : State) (k : Nat) (x : Lattice) : (s.setLattice k x).tb = s.tb := rfl
@[simp] theorem State.setLattice_ing (s : State) (k : Nat) (x : Lattice) : (s.setLattice k x).ing = s.ing := rfl
@[simp] theorem State.setLattice_ctl (s : State) (k : Nat) (x : Lattice) : (s.setLattice k x).ctl = s.ctl := rfl
@[simp] theorem State.setLattice_truss (s : State) (k : Nat) (x : Lattice) : (s.setLattice k x).truss = s.truss := rfl
@[simp] theorem State.setLattice_now (s : State) (k : Nat) (x : Lattice) : (s.setLattice k x).now = s.now := rfl
@[simp] theorem State.setLattice_hostMem (s : State) (k : Nat) (x : Lattice) : (s.setLattice k x).hostMem = s.hostMem := rfl
@[simp] theorem State.setLattice_drawn (s : State) (k : Nat) (x : Lattice) : (s.setLattice k x).drawn = s.drawn := rfl
@[simp] theorem State.setLattice_pending (s : State) (k : Nat) (x : Lattice) : (s.setLattice k x).pending = s.pending := rfl
theorem State.setLattice_get (s : State) (k : Nat) (x : Lattice) (h : x ≠ Lattice.rest) : (s.setLattice k x).lattice k = x :=
  Tab.get_set_self h
theorem State.setLattice_other (s : State) (k : Nat) (x : Lattice) {other : Nat} (h : other ≠ k) : (s.setLattice k x).lattice other = s.lattice other :=
  Tab.get_set_other h
@[simp] theorem State.setPlanCount_fuses (s : State) (f : Nat) (x : PlanCount) : (s.setPlanCount f x).fuses = s.fuses := rfl
@[simp] theorem State.setPlanCount_lines (s : State) (f : Nat) (x : PlanCount) : (s.setPlanCount f x).lines = s.lines := rfl
@[simp] theorem State.setPlanCount_sup (s : State) (f : Nat) (x : PlanCount) : (s.setPlanCount f x).sup = s.sup := rfl
@[simp] theorem State.setPlanCount_host (s : State) (f : Nat) (x : PlanCount) : (s.setPlanCount f x).host = s.host := rfl
@[simp] theorem State.setPlanCount_ex (s : State) (f : Nat) (x : PlanCount) : (s.setPlanCount f x).ex = s.ex := rfl
@[simp] theorem State.setPlanCount_pa (s : State) (f : Nat) (x : PlanCount) : (s.setPlanCount f x).pa = s.pa := rfl
@[simp] theorem State.setPlanCount_safe (s : State) (f : Nat) (x : PlanCount) : (s.setPlanCount f x).safe = s.safe := rfl
@[simp] theorem State.setPlanCount_svc (s : State) (f : Nat) (x : PlanCount) : (s.setPlanCount f x).svc = s.svc := rfl
@[simp] theorem State.setPlanCount_mem (s : State) (f : Nat) (x : PlanCount) : (s.setPlanCount f x).mem = s.mem := rfl
@[simp] theorem State.setPlanCount_ta (s : State) (f : Nat) (x : PlanCount) : (s.setPlanCount f x).ta = s.ta := rfl
@[simp] theorem State.setPlanCount_tb (s : State) (f : Nat) (x : PlanCount) : (s.setPlanCount f x).tb = s.tb := rfl
@[simp] theorem State.setPlanCount_ing (s : State) (f : Nat) (x : PlanCount) : (s.setPlanCount f x).ing = s.ing := rfl
@[simp] theorem State.setPlanCount_ctl (s : State) (f : Nat) (x : PlanCount) : (s.setPlanCount f x).ctl = s.ctl := rfl
@[simp] theorem State.setPlanCount_truss (s : State) (f : Nat) (x : PlanCount) : (s.setPlanCount f x).truss = s.truss := rfl
@[simp] theorem State.setPlanCount_now (s : State) (f : Nat) (x : PlanCount) : (s.setPlanCount f x).now = s.now := rfl
@[simp] theorem State.setPlanCount_hostMem (s : State) (f : Nat) (x : PlanCount) : (s.setPlanCount f x).hostMem = s.hostMem := rfl
@[simp] theorem State.setPlanCount_drawn (s : State) (f : Nat) (x : PlanCount) : (s.setPlanCount f x).drawn = s.drawn := rfl
@[simp] theorem State.setPlanCount_pending (s : State) (f : Nat) (x : PlanCount) : (s.setPlanCount f x).pending = s.pending := rfl
theorem State.setPlanCount_get (s : State) (f : Nat) (x : PlanCount) (h : x ≠ PlanCount.rest) : (s.setPlanCount f x).planCount f = x :=
  Tab.get_set_self h
theorem State.setPlanCount_other (s : State) (f : Nat) (x : PlanCount) {other : Nat} (h : other ≠ f) : (s.setPlanCount f x).planCount other = s.planCount other :=
  Tab.get_set_other h
@[simp] theorem State.setMoveCount_fuses (s : State) (f : Nat) (x : MoveCount) : (s.setMoveCount f x).fuses = s.fuses := rfl
@[simp] theorem State.setMoveCount_lines (s : State) (f : Nat) (x : MoveCount) : (s.setMoveCount f x).lines = s.lines := rfl
@[simp] theorem State.setMoveCount_sup (s : State) (f : Nat) (x : MoveCount) : (s.setMoveCount f x).sup = s.sup := rfl
@[simp] theorem State.setMoveCount_host (s : State) (f : Nat) (x : MoveCount) : (s.setMoveCount f x).host = s.host := rfl
@[simp] theorem State.setMoveCount_ex (s : State) (f : Nat) (x : MoveCount) : (s.setMoveCount f x).ex = s.ex := rfl
@[simp] theorem State.setMoveCount_pa (s : State) (f : Nat) (x : MoveCount) : (s.setMoveCount f x).pa = s.pa := rfl
@[simp] theorem State.setMoveCount_safe (s : State) (f : Nat) (x : MoveCount) : (s.setMoveCount f x).safe = s.safe := rfl
@[simp] theorem State.setMoveCount_svc (s : State) (f : Nat) (x : MoveCount) : (s.setMoveCount f x).svc = s.svc := rfl
@[simp] theorem State.setMoveCount_ta (s : State) (f : Nat) (x : MoveCount) : (s.setMoveCount f x).ta = s.ta := rfl
@[simp] theorem State.setMoveCount_tb (s : State) (f : Nat) (x : MoveCount) : (s.setMoveCount f x).tb = s.tb := rfl
@[simp] theorem State.setMoveCount_ing (s : State) (f : Nat) (x : MoveCount) : (s.setMoveCount f x).ing = s.ing := rfl
@[simp] theorem State.setMoveCount_sp (s : State) (f : Nat) (x : MoveCount) : (s.setMoveCount f x).sp = s.sp := rfl
@[simp] theorem State.setMoveCount_ctl (s : State) (f : Nat) (x : MoveCount) : (s.setMoveCount f x).ctl = s.ctl := rfl
@[simp] theorem State.setMoveCount_truss (s : State) (f : Nat) (x : MoveCount) : (s.setMoveCount f x).truss = s.truss := rfl
@[simp] theorem State.setMoveCount_now (s : State) (f : Nat) (x : MoveCount) : (s.setMoveCount f x).now = s.now := rfl
@[simp] theorem State.setMoveCount_hostMem (s : State) (f : Nat) (x : MoveCount) : (s.setMoveCount f x).hostMem = s.hostMem := rfl
@[simp] theorem State.setMoveCount_drawn (s : State) (f : Nat) (x : MoveCount) : (s.setMoveCount f x).drawn = s.drawn := rfl
@[simp] theorem State.setMoveCount_pending (s : State) (f : Nat) (x : MoveCount) : (s.setMoveCount f x).pending = s.pending := rfl
@[simp] theorem State.setSource_fuses (s : State) (k : Nat) (x : TimeSource) : (s.setSource k x).fuses = s.fuses := rfl
@[simp] theorem State.setSource_lines (s : State) (k : Nat) (x : TimeSource) : (s.setSource k x).lines = s.lines := rfl
@[simp] theorem State.setSource_sup (s : State) (k : Nat) (x : TimeSource) : (s.setSource k x).sup = s.sup := rfl
@[simp] theorem State.setSource_host (s : State) (k : Nat) (x : TimeSource) : (s.setSource k x).host = s.host := rfl
@[simp] theorem State.setSource_ex (s : State) (k : Nat) (x : TimeSource) : (s.setSource k x).ex = s.ex := rfl
@[simp] theorem State.setSource_pa (s : State) (k : Nat) (x : TimeSource) : (s.setSource k x).pa = s.pa := rfl
@[simp] theorem State.setSource_safe (s : State) (k : Nat) (x : TimeSource) : (s.setSource k x).safe = s.safe := rfl
@[simp] theorem State.setSource_svc (s : State) (k : Nat) (x : TimeSource) : (s.setSource k x).svc = s.svc := rfl
@[simp] theorem State.setSource_mem (s : State) (k : Nat) (x : TimeSource) : (s.setSource k x).mem = s.mem := rfl
@[simp] theorem State.setSource_ta (s : State) (k : Nat) (x : TimeSource) : (s.setSource k x).ta = s.ta := rfl
@[simp] theorem State.setSource_ing (s : State) (k : Nat) (x : TimeSource) : (s.setSource k x).ing = s.ing := rfl
@[simp] theorem State.setSource_sp (s : State) (k : Nat) (x : TimeSource) : (s.setSource k x).sp = s.sp := rfl
@[simp] theorem State.setSource_ctl (s : State) (k : Nat) (x : TimeSource) : (s.setSource k x).ctl = s.ctl := rfl
@[simp] theorem State.setSource_truss (s : State) (k : Nat) (x : TimeSource) : (s.setSource k x).truss = s.truss := rfl
@[simp] theorem State.setSource_now (s : State) (k : Nat) (x : TimeSource) : (s.setSource k x).now = s.now := rfl
@[simp] theorem State.setSource_hostMem (s : State) (k : Nat) (x : TimeSource) : (s.setSource k x).hostMem = s.hostMem := rfl
@[simp] theorem State.setSource_drawn (s : State) (k : Nat) (x : TimeSource) : (s.setSource k x).drawn = s.drawn := rfl
@[simp] theorem State.setSource_pending (s : State) (k : Nat) (x : TimeSource) : (s.setSource k x).pending = s.pending := rfl
theorem State.setSource_get (s : State) (k : Nat) (x : TimeSource) (h : x ≠ TimeSource.rest) : (s.setSource k x).source k = x :=
  Tab.get_set_self h
theorem State.setSource_other (s : State) (k : Nat) (x : TimeSource) {other : Nat} (h : other ≠ k) : (s.setSource k x).source other = s.source other :=
  Tab.get_set_other h
@[simp] theorem State.setTrig_fuses (s : State) (n : Nat) (x : Trig) : (s.setTrig n x).fuses = s.fuses := rfl
@[simp] theorem State.setTrig_lines (s : State) (n : Nat) (x : Trig) : (s.setTrig n x).lines = s.lines := rfl
@[simp] theorem State.setTrig_sup (s : State) (n : Nat) (x : Trig) : (s.setTrig n x).sup = s.sup := rfl
@[simp] theorem State.setTrig_host (s : State) (n : Nat) (x : Trig) : (s.setTrig n x).host = s.host := rfl
@[simp] theorem State.setTrig_ex (s : State) (n : Nat) (x : Trig) : (s.setTrig n x).ex = s.ex := rfl
@[simp] theorem State.setTrig_pa (s : State) (n : Nat) (x : Trig) : (s.setTrig n x).pa = s.pa := rfl
@[simp] theorem State.setTrig_safe (s : State) (n : Nat) (x : Trig) : (s.setTrig n x).safe = s.safe := rfl
@[simp] theorem State.setTrig_svc (s : State) (n : Nat) (x : Trig) : (s.setTrig n x).svc = s.svc := rfl
@[simp] theorem State.setTrig_mem (s : State) (n : Nat) (x : Trig) : (s.setTrig n x).mem = s.mem := rfl
@[simp] theorem State.setTrig_ta (s : State) (n : Nat) (x : Trig) : (s.setTrig n x).ta = s.ta := rfl
@[simp] theorem State.setTrig_ing (s : State) (n : Nat) (x : Trig) : (s.setTrig n x).ing = s.ing := rfl
@[simp] theorem State.setTrig_sp (s : State) (n : Nat) (x : Trig) : (s.setTrig n x).sp = s.sp := rfl
@[simp] theorem State.setTrig_ctl (s : State) (n : Nat) (x : Trig) : (s.setTrig n x).ctl = s.ctl := rfl
@[simp] theorem State.setTrig_truss (s : State) (n : Nat) (x : Trig) : (s.setTrig n x).truss = s.truss := rfl
@[simp] theorem State.setTrig_now (s : State) (n : Nat) (x : Trig) : (s.setTrig n x).now = s.now := rfl
@[simp] theorem State.setTrig_hostMem (s : State) (n : Nat) (x : Trig) : (s.setTrig n x).hostMem = s.hostMem := rfl
@[simp] theorem State.setTrig_drawn (s : State) (n : Nat) (x : Trig) : (s.setTrig n x).drawn = s.drawn := rfl
@[simp] theorem State.setTrig_pending (s : State) (n : Nat) (x : Trig) : (s.setTrig n x).pending = s.pending := rfl
theorem State.setTrig_get (s : State) (n : Nat) (x : Trig) (h : x ≠ Trig.rest) : (s.setTrig n x).trig n = x :=
  Tab.get_set_self h
theorem State.setTrig_other (s : State) (n : Nat) (x : Trig) {other : Nat} (h : other ≠ n) : (s.setTrig n x).trig other = s.trig other :=
  Tab.get_set_other h
@[simp] theorem State.setSeq_fuses (s : State) (q : Nat) (x : Seq) : (s.setSeq q x).fuses = s.fuses := rfl
@[simp] theorem State.setSeq_lines (s : State) (q : Nat) (x : Seq) : (s.setSeq q x).lines = s.lines := rfl
@[simp] theorem State.setSeq_sup (s : State) (q : Nat) (x : Seq) : (s.setSeq q x).sup = s.sup := rfl
@[simp] theorem State.setSeq_host (s : State) (q : Nat) (x : Seq) : (s.setSeq q x).host = s.host := rfl
@[simp] theorem State.setSeq_ex (s : State) (q : Nat) (x : Seq) : (s.setSeq q x).ex = s.ex := rfl
@[simp] theorem State.setSeq_pa (s : State) (q : Nat) (x : Seq) : (s.setSeq q x).pa = s.pa := rfl
@[simp] theorem State.setSeq_safe (s : State) (q : Nat) (x : Seq) : (s.setSeq q x).safe = s.safe := rfl
@[simp] theorem State.setSeq_svc (s : State) (q : Nat) (x : Seq) : (s.setSeq q x).svc = s.svc := rfl
@[simp] theorem State.setSeq_mem (s : State) (q : Nat) (x : Seq) : (s.setSeq q x).mem = s.mem := rfl
@[simp] theorem State.setSeq_tb (s : State) (q : Nat) (x : Seq) : (s.setSeq q x).tb = s.tb := rfl
@[simp] theorem State.setSeq_ing (s : State) (q : Nat) (x : Seq) : (s.setSeq q x).ing = s.ing := rfl
@[simp] theorem State.setSeq_sp (s : State) (q : Nat) (x : Seq) : (s.setSeq q x).sp = s.sp := rfl
@[simp] theorem State.setSeq_ctl (s : State) (q : Nat) (x : Seq) : (s.setSeq q x).ctl = s.ctl := rfl
@[simp] theorem State.setSeq_truss (s : State) (q : Nat) (x : Seq) : (s.setSeq q x).truss = s.truss := rfl
@[simp] theorem State.setSeq_now (s : State) (q : Nat) (x : Seq) : (s.setSeq q x).now = s.now := rfl
@[simp] theorem State.setSeq_hostMem (s : State) (q : Nat) (x : Seq) : (s.setSeq q x).hostMem = s.hostMem := rfl
@[simp] theorem State.setSeq_drawn (s : State) (q : Nat) (x : Seq) : (s.setSeq q x).drawn = s.drawn := rfl
@[simp] theorem State.setSeq_pending (s : State) (q : Nat) (x : Seq) : (s.setSeq q x).pending = s.pending := rfl
theorem State.setSeq_get (s : State) (q : Nat) (x : Seq) (h : x ≠ Seq.rest) : (s.setSeq q x).seq q = x :=
  Tab.get_set_self h
theorem State.setSeq_other (s : State) (q : Nat) (x : Seq) {other : Nat} (h : other ≠ q) : (s.setSeq q x).seq other = s.seq other :=
  Tab.get_set_other h
@[simp] theorem State.setGroup_fuses (s : State) (g : Nat) (x : Group) : (s.setGroup g x).fuses = s.fuses := rfl
@[simp] theorem State.setGroup_lines (s : State) (g : Nat) (x : Group) : (s.setGroup g x).lines = s.lines := rfl
@[simp] theorem State.setGroup_sup (s : State) (g : Nat) (x : Group) : (s.setGroup g x).sup = s.sup := rfl
@[simp] theorem State.setGroup_host (s : State) (g : Nat) (x : Group) : (s.setGroup g x).host = s.host := rfl
@[simp] theorem State.setGroup_ex (s : State) (g : Nat) (x : Group) : (s.setGroup g x).ex = s.ex := rfl
@[simp] theorem State.setGroup_pa (s : State) (g : Nat) (x : Group) : (s.setGroup g x).pa = s.pa := rfl
@[simp] theorem State.setGroup_safe (s : State) (g : Nat) (x : Group) : (s.setGroup g x).safe = s.safe := rfl
@[simp] theorem State.setGroup_svc (s : State) (g : Nat) (x : Group) : (s.setGroup g x).svc = s.svc := rfl
@[simp] theorem State.setGroup_mem (s : State) (g : Nat) (x : Group) : (s.setGroup g x).mem = s.mem := rfl
@[simp] theorem State.setGroup_tb (s : State) (g : Nat) (x : Group) : (s.setGroup g x).tb = s.tb := rfl
@[simp] theorem State.setGroup_ing (s : State) (g : Nat) (x : Group) : (s.setGroup g x).ing = s.ing := rfl
@[simp] theorem State.setGroup_sp (s : State) (g : Nat) (x : Group) : (s.setGroup g x).sp = s.sp := rfl
@[simp] theorem State.setGroup_ctl (s : State) (g : Nat) (x : Group) : (s.setGroup g x).ctl = s.ctl := rfl
@[simp] theorem State.setGroup_truss (s : State) (g : Nat) (x : Group) : (s.setGroup g x).truss = s.truss := rfl
@[simp] theorem State.setGroup_now (s : State) (g : Nat) (x : Group) : (s.setGroup g x).now = s.now := rfl
@[simp] theorem State.setGroup_hostMem (s : State) (g : Nat) (x : Group) : (s.setGroup g x).hostMem = s.hostMem := rfl
@[simp] theorem State.setGroup_drawn (s : State) (g : Nat) (x : Group) : (s.setGroup g x).drawn = s.drawn := rfl
@[simp] theorem State.setGroup_pending (s : State) (g : Nat) (x : Group) : (s.setGroup g x).pending = s.pending := rfl
theorem State.setGroup_get (s : State) (g : Nat) (x : Group) (h : x ≠ Group.rest) : (s.setGroup g x).group g = x :=
  Tab.get_set_self h
theorem State.setGroup_other (s : State) (g : Nat) (x : Group) {other : Nat} (h : other ≠ g) : (s.setGroup g x).group other = s.group other :=
  Tab.get_set_other h
@[simp] theorem State.setKvCount_fuses (s : State) (f : Nat) (x : KvCount) : (s.setKvCount f x).fuses = s.fuses := rfl
@[simp] theorem State.setKvCount_lines (s : State) (f : Nat) (x : KvCount) : (s.setKvCount f x).lines = s.lines := rfl
@[simp] theorem State.setKvCount_sup (s : State) (f : Nat) (x : KvCount) : (s.setKvCount f x).sup = s.sup := rfl
@[simp] theorem State.setKvCount_host (s : State) (f : Nat) (x : KvCount) : (s.setKvCount f x).host = s.host := rfl
@[simp] theorem State.setKvCount_ex (s : State) (f : Nat) (x : KvCount) : (s.setKvCount f x).ex = s.ex := rfl
@[simp] theorem State.setKvCount_pa (s : State) (f : Nat) (x : KvCount) : (s.setKvCount f x).pa = s.pa := rfl
@[simp] theorem State.setKvCount_safe (s : State) (f : Nat) (x : KvCount) : (s.setKvCount f x).safe = s.safe := rfl
@[simp] theorem State.setKvCount_svc (s : State) (f : Nat) (x : KvCount) : (s.setKvCount f x).svc = s.svc := rfl
@[simp] theorem State.setKvCount_mem (s : State) (f : Nat) (x : KvCount) : (s.setKvCount f x).mem = s.mem := rfl
@[simp] theorem State.setKvCount_tb (s : State) (f : Nat) (x : KvCount) : (s.setKvCount f x).tb = s.tb := rfl
@[simp] theorem State.setKvCount_ing (s : State) (f : Nat) (x : KvCount) : (s.setKvCount f x).ing = s.ing := rfl
@[simp] theorem State.setKvCount_sp (s : State) (f : Nat) (x : KvCount) : (s.setKvCount f x).sp = s.sp := rfl
@[simp] theorem State.setKvCount_ctl (s : State) (f : Nat) (x : KvCount) : (s.setKvCount f x).ctl = s.ctl := rfl
@[simp] theorem State.setKvCount_truss (s : State) (f : Nat) (x : KvCount) : (s.setKvCount f x).truss = s.truss := rfl
@[simp] theorem State.setKvCount_now (s : State) (f : Nat) (x : KvCount) : (s.setKvCount f x).now = s.now := rfl
@[simp] theorem State.setKvCount_hostMem (s : State) (f : Nat) (x : KvCount) : (s.setKvCount f x).hostMem = s.hostMem := rfl
@[simp] theorem State.setKvCount_drawn (s : State) (f : Nat) (x : KvCount) : (s.setKvCount f x).drawn = s.drawn := rfl
@[simp] theorem State.setKvCount_pending (s : State) (f : Nat) (x : KvCount) : (s.setKvCount f x).pending = s.pending := rfl
@[simp] theorem State.setInstream_fuses (s : State) (k : Nat) (x : InStream) : (s.setInstream k x).fuses = s.fuses := rfl
@[simp] theorem State.setInstream_lines (s : State) (k : Nat) (x : InStream) : (s.setInstream k x).lines = s.lines := rfl
@[simp] theorem State.setInstream_sup (s : State) (k : Nat) (x : InStream) : (s.setInstream k x).sup = s.sup := rfl
@[simp] theorem State.setInstream_host (s : State) (k : Nat) (x : InStream) : (s.setInstream k x).host = s.host := rfl
@[simp] theorem State.setInstream_ex (s : State) (k : Nat) (x : InStream) : (s.setInstream k x).ex = s.ex := rfl
@[simp] theorem State.setInstream_pa (s : State) (k : Nat) (x : InStream) : (s.setInstream k x).pa = s.pa := rfl
@[simp] theorem State.setInstream_safe (s : State) (k : Nat) (x : InStream) : (s.setInstream k x).safe = s.safe := rfl
@[simp] theorem State.setInstream_svc (s : State) (k : Nat) (x : InStream) : (s.setInstream k x).svc = s.svc := rfl
@[simp] theorem State.setInstream_mem (s : State) (k : Nat) (x : InStream) : (s.setInstream k x).mem = s.mem := rfl
@[simp] theorem State.setInstream_ta (s : State) (k : Nat) (x : InStream) : (s.setInstream k x).ta = s.ta := rfl
@[simp] theorem State.setInstream_tb (s : State) (k : Nat) (x : InStream) : (s.setInstream k x).tb = s.tb := rfl
@[simp] theorem State.setInstream_sp (s : State) (k : Nat) (x : InStream) : (s.setInstream k x).sp = s.sp := rfl
@[simp] theorem State.setInstream_ctl (s : State) (k : Nat) (x : InStream) : (s.setInstream k x).ctl = s.ctl := rfl
@[simp] theorem State.setInstream_truss (s : State) (k : Nat) (x : InStream) : (s.setInstream k x).truss = s.truss := rfl
@[simp] theorem State.setInstream_now (s : State) (k : Nat) (x : InStream) : (s.setInstream k x).now = s.now := rfl
@[simp] theorem State.setInstream_hostMem (s : State) (k : Nat) (x : InStream) : (s.setInstream k x).hostMem = s.hostMem := rfl
@[simp] theorem State.setInstream_drawn (s : State) (k : Nat) (x : InStream) : (s.setInstream k x).drawn = s.drawn := rfl
@[simp] theorem State.setInstream_pending (s : State) (k : Nat) (x : InStream) : (s.setInstream k x).pending = s.pending := rfl
theorem State.setInstream_get (s : State) (k : Nat) (x : InStream) (h : x ≠ InStream.rest) : (s.setInstream k x).instream k = x :=
  Tab.get_set_self h
theorem State.setInstream_other (s : State) (k : Nat) (x : InStream) {other : Nat} (h : other ≠ k) : (s.setInstream k x).instream other = s.instream other :=
  Tab.get_set_other h
@[simp] theorem State.setTundish_fuses (s : State) (u : Nat) (x : Tundish) : (s.setTundish u x).fuses = s.fuses := rfl
@[simp] theorem State.setTundish_lines (s : State) (u : Nat) (x : Tundish) : (s.setTundish u x).lines = s.lines := rfl
@[simp] theorem State.setTundish_sup (s : State) (u : Nat) (x : Tundish) : (s.setTundish u x).sup = s.sup := rfl
@[simp] theorem State.setTundish_host (s : State) (u : Nat) (x : Tundish) : (s.setTundish u x).host = s.host := rfl
@[simp] theorem State.setTundish_ex (s : State) (u : Nat) (x : Tundish) : (s.setTundish u x).ex = s.ex := rfl
@[simp] theorem State.setTundish_pa (s : State) (u : Nat) (x : Tundish) : (s.setTundish u x).pa = s.pa := rfl
@[simp] theorem State.setTundish_safe (s : State) (u : Nat) (x : Tundish) : (s.setTundish u x).safe = s.safe := rfl
@[simp] theorem State.setTundish_svc (s : State) (u : Nat) (x : Tundish) : (s.setTundish u x).svc = s.svc := rfl
@[simp] theorem State.setTundish_mem (s : State) (u : Nat) (x : Tundish) : (s.setTundish u x).mem = s.mem := rfl
@[simp] theorem State.setTundish_ta (s : State) (u : Nat) (x : Tundish) : (s.setTundish u x).ta = s.ta := rfl
@[simp] theorem State.setTundish_tb (s : State) (u : Nat) (x : Tundish) : (s.setTundish u x).tb = s.tb := rfl
@[simp] theorem State.setTundish_sp (s : State) (u : Nat) (x : Tundish) : (s.setTundish u x).sp = s.sp := rfl
@[simp] theorem State.setTundish_ctl (s : State) (u : Nat) (x : Tundish) : (s.setTundish u x).ctl = s.ctl := rfl
@[simp] theorem State.setTundish_truss (s : State) (u : Nat) (x : Tundish) : (s.setTundish u x).truss = s.truss := rfl
@[simp] theorem State.setTundish_now (s : State) (u : Nat) (x : Tundish) : (s.setTundish u x).now = s.now := rfl
@[simp] theorem State.setTundish_hostMem (s : State) (u : Nat) (x : Tundish) : (s.setTundish u x).hostMem = s.hostMem := rfl
@[simp] theorem State.setTundish_drawn (s : State) (u : Nat) (x : Tundish) : (s.setTundish u x).drawn = s.drawn := rfl
@[simp] theorem State.setTundish_pending (s : State) (u : Nat) (x : Tundish) : (s.setTundish u x).pending = s.pending := rfl
theorem State.setTundish_get (s : State) (u : Nat) (x : Tundish) (h : x ≠ Tundish.rest) : (s.setTundish u x).tundish u = x :=
  Tab.get_set_self h
theorem State.setTundish_other (s : State) (u : Nat) (x : Tundish) {other : Nat} (h : other ≠ u) : (s.setTundish u x).tundish other = s.tundish other :=
  Tab.get_set_other h
@[simp] theorem State.setMapTable_fuses (s : State) (m : Nat) (x : MapTable) : (s.setMapTable m x).fuses = s.fuses := rfl
@[simp] theorem State.setMapTable_lines (s : State) (m : Nat) (x : MapTable) : (s.setMapTable m x).lines = s.lines := rfl
@[simp] theorem State.setMapTable_sup (s : State) (m : Nat) (x : MapTable) : (s.setMapTable m x).sup = s.sup := rfl
@[simp] theorem State.setMapTable_host (s : State) (m : Nat) (x : MapTable) : (s.setMapTable m x).host = s.host := rfl
@[simp] theorem State.setMapTable_ex (s : State) (m : Nat) (x : MapTable) : (s.setMapTable m x).ex = s.ex := rfl
@[simp] theorem State.setMapTable_pa (s : State) (m : Nat) (x : MapTable) : (s.setMapTable m x).pa = s.pa := rfl
@[simp] theorem State.setMapTable_safe (s : State) (m : Nat) (x : MapTable) : (s.setMapTable m x).safe = s.safe := rfl
@[simp] theorem State.setMapTable_svc (s : State) (m : Nat) (x : MapTable) : (s.setMapTable m x).svc = s.svc := rfl
@[simp] theorem State.setMapTable_mem (s : State) (m : Nat) (x : MapTable) : (s.setMapTable m x).mem = s.mem := rfl
@[simp] theorem State.setMapTable_tb (s : State) (m : Nat) (x : MapTable) : (s.setMapTable m x).tb = s.tb := rfl
@[simp] theorem State.setMapTable_ing (s : State) (m : Nat) (x : MapTable) : (s.setMapTable m x).ing = s.ing := rfl
@[simp] theorem State.setMapTable_sp (s : State) (m : Nat) (x : MapTable) : (s.setMapTable m x).sp = s.sp := rfl
@[simp] theorem State.setMapTable_ctl (s : State) (m : Nat) (x : MapTable) : (s.setMapTable m x).ctl = s.ctl := rfl
@[simp] theorem State.setMapTable_truss (s : State) (m : Nat) (x : MapTable) : (s.setMapTable m x).truss = s.truss := rfl
@[simp] theorem State.setMapTable_now (s : State) (m : Nat) (x : MapTable) : (s.setMapTable m x).now = s.now := rfl
@[simp] theorem State.setMapTable_hostMem (s : State) (m : Nat) (x : MapTable) : (s.setMapTable m x).hostMem = s.hostMem := rfl
@[simp] theorem State.setMapTable_drawn (s : State) (m : Nat) (x : MapTable) : (s.setMapTable m x).drawn = s.drawn := rfl
@[simp] theorem State.setMapTable_pending (s : State) (m : Nat) (x : MapTable) : (s.setMapTable m x).pending = s.pending := rfl
theorem State.setMapTable_get (s : State) (m : Nat) (x : MapTable) (h : x ≠ MapTable.rest) : (s.setMapTable m x).mapTable m = x :=
  Tab.get_set_self h
theorem State.setMapTable_other (s : State) (m : Nat) (x : MapTable) {other : Nat} (h : other ≠ m) : (s.setMapTable m x).mapTable other = s.mapTable other :=
  Tab.get_set_other h
@[simp] theorem State.setSignal_fuses (s : State) (k : Nat) (x : Signal) : (s.setSignal k x).fuses = s.fuses := rfl
@[simp] theorem State.setSignal_lines (s : State) (k : Nat) (x : Signal) : (s.setSignal k x).lines = s.lines := rfl
@[simp] theorem State.setSignal_sup (s : State) (k : Nat) (x : Signal) : (s.setSignal k x).sup = s.sup := rfl
@[simp] theorem State.setSignal_host (s : State) (k : Nat) (x : Signal) : (s.setSignal k x).host = s.host := rfl
@[simp] theorem State.setSignal_ex (s : State) (k : Nat) (x : Signal) : (s.setSignal k x).ex = s.ex := rfl
@[simp] theorem State.setSignal_pa (s : State) (k : Nat) (x : Signal) : (s.setSignal k x).pa = s.pa := rfl
@[simp] theorem State.setSignal_safe (s : State) (k : Nat) (x : Signal) : (s.setSignal k x).safe = s.safe := rfl
@[simp] theorem State.setSignal_svc (s : State) (k : Nat) (x : Signal) : (s.setSignal k x).svc = s.svc := rfl
@[simp] theorem State.setSignal_mem (s : State) (k : Nat) (x : Signal) : (s.setSignal k x).mem = s.mem := rfl
@[simp] theorem State.setSignal_ta (s : State) (k : Nat) (x : Signal) : (s.setSignal k x).ta = s.ta := rfl
@[simp] theorem State.setSignal_tb (s : State) (k : Nat) (x : Signal) : (s.setSignal k x).tb = s.tb := rfl
@[simp] theorem State.setSignal_ing (s : State) (k : Nat) (x : Signal) : (s.setSignal k x).ing = s.ing := rfl
@[simp] theorem State.setSignal_sp (s : State) (k : Nat) (x : Signal) : (s.setSignal k x).sp = s.sp := rfl
@[simp] theorem State.setSignal_truss (s : State) (k : Nat) (x : Signal) : (s.setSignal k x).truss = s.truss := rfl
@[simp] theorem State.setSignal_now (s : State) (k : Nat) (x : Signal) : (s.setSignal k x).now = s.now := rfl
@[simp] theorem State.setSignal_hostMem (s : State) (k : Nat) (x : Signal) : (s.setSignal k x).hostMem = s.hostMem := rfl
@[simp] theorem State.setSignal_drawn (s : State) (k : Nat) (x : Signal) : (s.setSignal k x).drawn = s.drawn := rfl
@[simp] theorem State.setSignal_pending (s : State) (k : Nat) (x : Signal) : (s.setSignal k x).pending = s.pending := rfl
theorem State.setSignal_get (s : State) (k : Nat) (x : Signal) (h : x ≠ Signal.rest) : (s.setSignal k x).signal k = x :=
  Tab.get_set_self h
theorem State.setSignal_other (s : State) (k : Nat) (x : Signal) {other : Nat} (h : other ≠ k) : (s.setSignal k x).signal other = s.signal other :=
  Tab.get_set_other h
@[simp] theorem State.setLoop_fuses (s : State) (k : Nat) (x : LoopCh) : (s.setLoop k x).fuses = s.fuses := rfl
@[simp] theorem State.setLoop_lines (s : State) (k : Nat) (x : LoopCh) : (s.setLoop k x).lines = s.lines := rfl
@[simp] theorem State.setLoop_sup (s : State) (k : Nat) (x : LoopCh) : (s.setLoop k x).sup = s.sup := rfl
@[simp] theorem State.setLoop_host (s : State) (k : Nat) (x : LoopCh) : (s.setLoop k x).host = s.host := rfl
@[simp] theorem State.setLoop_ex (s : State) (k : Nat) (x : LoopCh) : (s.setLoop k x).ex = s.ex := rfl
@[simp] theorem State.setLoop_pa (s : State) (k : Nat) (x : LoopCh) : (s.setLoop k x).pa = s.pa := rfl
@[simp] theorem State.setLoop_safe (s : State) (k : Nat) (x : LoopCh) : (s.setLoop k x).safe = s.safe := rfl
@[simp] theorem State.setLoop_svc (s : State) (k : Nat) (x : LoopCh) : (s.setLoop k x).svc = s.svc := rfl
@[simp] theorem State.setLoop_mem (s : State) (k : Nat) (x : LoopCh) : (s.setLoop k x).mem = s.mem := rfl
@[simp] theorem State.setLoop_ta (s : State) (k : Nat) (x : LoopCh) : (s.setLoop k x).ta = s.ta := rfl
@[simp] theorem State.setLoop_tb (s : State) (k : Nat) (x : LoopCh) : (s.setLoop k x).tb = s.tb := rfl
@[simp] theorem State.setLoop_ing (s : State) (k : Nat) (x : LoopCh) : (s.setLoop k x).ing = s.ing := rfl
@[simp] theorem State.setLoop_sp (s : State) (k : Nat) (x : LoopCh) : (s.setLoop k x).sp = s.sp := rfl
@[simp] theorem State.setLoop_truss (s : State) (k : Nat) (x : LoopCh) : (s.setLoop k x).truss = s.truss := rfl
@[simp] theorem State.setLoop_now (s : State) (k : Nat) (x : LoopCh) : (s.setLoop k x).now = s.now := rfl
@[simp] theorem State.setLoop_hostMem (s : State) (k : Nat) (x : LoopCh) : (s.setLoop k x).hostMem = s.hostMem := rfl
@[simp] theorem State.setLoop_drawn (s : State) (k : Nat) (x : LoopCh) : (s.setLoop k x).drawn = s.drawn := rfl
@[simp] theorem State.setLoop_pending (s : State) (k : Nat) (x : LoopCh) : (s.setLoop k x).pending = s.pending := rfl
theorem State.setLoop_get (s : State) (k : Nat) (x : LoopCh) (h : x ≠ LoopCh.rest) : (s.setLoop k x).loop k = x :=
  Tab.get_set_self h
theorem State.setLoop_other (s : State) (k : Nat) (x : LoopCh) {other : Nat} (h : other ≠ k) : (s.setLoop k x).loop other = s.loop other :=
  Tab.get_set_other h
@[simp] theorem State.setFfTable_fuses (s : State) (k : Nat) (x : FfTable) : (s.setFfTable k x).fuses = s.fuses := rfl
@[simp] theorem State.setFfTable_lines (s : State) (k : Nat) (x : FfTable) : (s.setFfTable k x).lines = s.lines := rfl
@[simp] theorem State.setFfTable_sup (s : State) (k : Nat) (x : FfTable) : (s.setFfTable k x).sup = s.sup := rfl
@[simp] theorem State.setFfTable_host (s : State) (k : Nat) (x : FfTable) : (s.setFfTable k x).host = s.host := rfl
@[simp] theorem State.setFfTable_ex (s : State) (k : Nat) (x : FfTable) : (s.setFfTable k x).ex = s.ex := rfl
@[simp] theorem State.setFfTable_pa (s : State) (k : Nat) (x : FfTable) : (s.setFfTable k x).pa = s.pa := rfl
@[simp] theorem State.setFfTable_safe (s : State) (k : Nat) (x : FfTable) : (s.setFfTable k x).safe = s.safe := rfl
@[simp] theorem State.setFfTable_svc (s : State) (k : Nat) (x : FfTable) : (s.setFfTable k x).svc = s.svc := rfl
@[simp] theorem State.setFfTable_mem (s : State) (k : Nat) (x : FfTable) : (s.setFfTable k x).mem = s.mem := rfl
@[simp] theorem State.setFfTable_ta (s : State) (k : Nat) (x : FfTable) : (s.setFfTable k x).ta = s.ta := rfl
@[simp] theorem State.setFfTable_tb (s : State) (k : Nat) (x : FfTable) : (s.setFfTable k x).tb = s.tb := rfl
@[simp] theorem State.setFfTable_ing (s : State) (k : Nat) (x : FfTable) : (s.setFfTable k x).ing = s.ing := rfl
@[simp] theorem State.setFfTable_sp (s : State) (k : Nat) (x : FfTable) : (s.setFfTable k x).sp = s.sp := rfl
@[simp] theorem State.setFfTable_truss (s : State) (k : Nat) (x : FfTable) : (s.setFfTable k x).truss = s.truss := rfl
@[simp] theorem State.setFfTable_now (s : State) (k : Nat) (x : FfTable) : (s.setFfTable k x).now = s.now := rfl
@[simp] theorem State.setFfTable_hostMem (s : State) (k : Nat) (x : FfTable) : (s.setFfTable k x).hostMem = s.hostMem := rfl
@[simp] theorem State.setFfTable_drawn (s : State) (k : Nat) (x : FfTable) : (s.setFfTable k x).drawn = s.drawn := rfl
@[simp] theorem State.setFfTable_pending (s : State) (k : Nat) (x : FfTable) : (s.setFfTable k x).pending = s.pending := rfl
theorem State.setFfTable_get (s : State) (k : Nat) (x : FfTable) (h : x ≠ FfTable.rest) : (s.setFfTable k x).ffTable k = x :=
  Tab.get_set_self h
theorem State.setFfTable_other (s : State) (k : Nat) (x : FfTable) {other : Nat} (h : other ≠ k) : (s.setFfTable k x).ffTable other = s.ffTable other :=
  Tab.get_set_other h
@[simp] theorem State.setTraceCh_fuses (s : State) (k : Nat) (x : TraceCh) : (s.setTraceCh k x).fuses = s.fuses := rfl
@[simp] theorem State.setTraceCh_lines (s : State) (k : Nat) (x : TraceCh) : (s.setTraceCh k x).lines = s.lines := rfl
@[simp] theorem State.setTraceCh_sup (s : State) (k : Nat) (x : TraceCh) : (s.setTraceCh k x).sup = s.sup := rfl
@[simp] theorem State.setTraceCh_host (s : State) (k : Nat) (x : TraceCh) : (s.setTraceCh k x).host = s.host := rfl
@[simp] theorem State.setTraceCh_ex (s : State) (k : Nat) (x : TraceCh) : (s.setTraceCh k x).ex = s.ex := rfl
@[simp] theorem State.setTraceCh_pa (s : State) (k : Nat) (x : TraceCh) : (s.setTraceCh k x).pa = s.pa := rfl
@[simp] theorem State.setTraceCh_safe (s : State) (k : Nat) (x : TraceCh) : (s.setTraceCh k x).safe = s.safe := rfl
@[simp] theorem State.setTraceCh_svc (s : State) (k : Nat) (x : TraceCh) : (s.setTraceCh k x).svc = s.svc := rfl
@[simp] theorem State.setTraceCh_mem (s : State) (k : Nat) (x : TraceCh) : (s.setTraceCh k x).mem = s.mem := rfl
@[simp] theorem State.setTraceCh_ta (s : State) (k : Nat) (x : TraceCh) : (s.setTraceCh k x).ta = s.ta := rfl
@[simp] theorem State.setTraceCh_tb (s : State) (k : Nat) (x : TraceCh) : (s.setTraceCh k x).tb = s.tb := rfl
@[simp] theorem State.setTraceCh_ing (s : State) (k : Nat) (x : TraceCh) : (s.setTraceCh k x).ing = s.ing := rfl
@[simp] theorem State.setTraceCh_sp (s : State) (k : Nat) (x : TraceCh) : (s.setTraceCh k x).sp = s.sp := rfl
@[simp] theorem State.setTraceCh_truss (s : State) (k : Nat) (x : TraceCh) : (s.setTraceCh k x).truss = s.truss := rfl
@[simp] theorem State.setTraceCh_now (s : State) (k : Nat) (x : TraceCh) : (s.setTraceCh k x).now = s.now := rfl
@[simp] theorem State.setTraceCh_hostMem (s : State) (k : Nat) (x : TraceCh) : (s.setTraceCh k x).hostMem = s.hostMem := rfl
@[simp] theorem State.setTraceCh_drawn (s : State) (k : Nat) (x : TraceCh) : (s.setTraceCh k x).drawn = s.drawn := rfl
@[simp] theorem State.setTraceCh_pending (s : State) (k : Nat) (x : TraceCh) : (s.setTraceCh k x).pending = s.pending := rfl
theorem State.setTraceCh_get (s : State) (k : Nat) (x : TraceCh) (h : x ≠ TraceCh.rest) : (s.setTraceCh k x).traceCh k = x :=
  Tab.get_set_self h
theorem State.setTraceCh_other (s : State) (k : Nat) (x : TraceCh) {other : Nat} (h : other ≠ k) : (s.setTraceCh k x).traceCh other = s.traceCh other :=
  Tab.get_set_other h
@[simp] theorem State.setTraj_fuses (s : State) (k : Nat) (x : Traj) : (s.setTraj k x).fuses = s.fuses := rfl
@[simp] theorem State.setTraj_lines (s : State) (k : Nat) (x : Traj) : (s.setTraj k x).lines = s.lines := rfl
@[simp] theorem State.setTraj_sup (s : State) (k : Nat) (x : Traj) : (s.setTraj k x).sup = s.sup := rfl
@[simp] theorem State.setTraj_host (s : State) (k : Nat) (x : Traj) : (s.setTraj k x).host = s.host := rfl
@[simp] theorem State.setTraj_ex (s : State) (k : Nat) (x : Traj) : (s.setTraj k x).ex = s.ex := rfl
@[simp] theorem State.setTraj_pa (s : State) (k : Nat) (x : Traj) : (s.setTraj k x).pa = s.pa := rfl
@[simp] theorem State.setTraj_safe (s : State) (k : Nat) (x : Traj) : (s.setTraj k x).safe = s.safe := rfl
@[simp] theorem State.setTraj_svc (s : State) (k : Nat) (x : Traj) : (s.setTraj k x).svc = s.svc := rfl
@[simp] theorem State.setTraj_mem (s : State) (k : Nat) (x : Traj) : (s.setTraj k x).mem = s.mem := rfl
@[simp] theorem State.setTraj_ta (s : State) (k : Nat) (x : Traj) : (s.setTraj k x).ta = s.ta := rfl
@[simp] theorem State.setTraj_tb (s : State) (k : Nat) (x : Traj) : (s.setTraj k x).tb = s.tb := rfl
@[simp] theorem State.setTraj_ing (s : State) (k : Nat) (x : Traj) : (s.setTraj k x).ing = s.ing := rfl
@[simp] theorem State.setTraj_sp (s : State) (k : Nat) (x : Traj) : (s.setTraj k x).sp = s.sp := rfl
@[simp] theorem State.setTraj_truss (s : State) (k : Nat) (x : Traj) : (s.setTraj k x).truss = s.truss := rfl
@[simp] theorem State.setTraj_now (s : State) (k : Nat) (x : Traj) : (s.setTraj k x).now = s.now := rfl
@[simp] theorem State.setTraj_hostMem (s : State) (k : Nat) (x : Traj) : (s.setTraj k x).hostMem = s.hostMem := rfl
@[simp] theorem State.setTraj_drawn (s : State) (k : Nat) (x : Traj) : (s.setTraj k x).drawn = s.drawn := rfl
@[simp] theorem State.setTraj_pending (s : State) (k : Nat) (x : Traj) : (s.setTraj k x).pending = s.pending := rfl
theorem State.setTraj_get (s : State) (k : Nat) (x : Traj) (h : x ≠ Traj.rest) : (s.setTraj k x).traj k = x :=
  Tab.get_set_self h
theorem State.setTraj_other (s : State) (k : Nat) (x : Traj) {other : Nat} (h : other ≠ k) : (s.setTraj k x).traj other = s.traj other :=
  Tab.get_set_other h
@[simp] theorem State.setQp_fuses (s : State) (k : Nat) (x : Qp) : (s.setQp k x).fuses = s.fuses := rfl
@[simp] theorem State.setQp_lines (s : State) (k : Nat) (x : Qp) : (s.setQp k x).lines = s.lines := rfl
@[simp] theorem State.setQp_sup (s : State) (k : Nat) (x : Qp) : (s.setQp k x).sup = s.sup := rfl
@[simp] theorem State.setQp_host (s : State) (k : Nat) (x : Qp) : (s.setQp k x).host = s.host := rfl
@[simp] theorem State.setQp_ex (s : State) (k : Nat) (x : Qp) : (s.setQp k x).ex = s.ex := rfl
@[simp] theorem State.setQp_pa (s : State) (k : Nat) (x : Qp) : (s.setQp k x).pa = s.pa := rfl
@[simp] theorem State.setQp_safe (s : State) (k : Nat) (x : Qp) : (s.setQp k x).safe = s.safe := rfl
@[simp] theorem State.setQp_svc (s : State) (k : Nat) (x : Qp) : (s.setQp k x).svc = s.svc := rfl
@[simp] theorem State.setQp_mem (s : State) (k : Nat) (x : Qp) : (s.setQp k x).mem = s.mem := rfl
@[simp] theorem State.setQp_ta (s : State) (k : Nat) (x : Qp) : (s.setQp k x).ta = s.ta := rfl
@[simp] theorem State.setQp_tb (s : State) (k : Nat) (x : Qp) : (s.setQp k x).tb = s.tb := rfl
@[simp] theorem State.setQp_ing (s : State) (k : Nat) (x : Qp) : (s.setQp k x).ing = s.ing := rfl
@[simp] theorem State.setQp_sp (s : State) (k : Nat) (x : Qp) : (s.setQp k x).sp = s.sp := rfl
@[simp] theorem State.setQp_truss (s : State) (k : Nat) (x : Qp) : (s.setQp k x).truss = s.truss := rfl
@[simp] theorem State.setQp_now (s : State) (k : Nat) (x : Qp) : (s.setQp k x).now = s.now := rfl
@[simp] theorem State.setQp_hostMem (s : State) (k : Nat) (x : Qp) : (s.setQp k x).hostMem = s.hostMem := rfl
@[simp] theorem State.setQp_drawn (s : State) (k : Nat) (x : Qp) : (s.setQp k x).drawn = s.drawn := rfl
@[simp] theorem State.setQp_pending (s : State) (k : Nat) (x : Qp) : (s.setQp k x).pending = s.pending := rfl
theorem State.setQp_get (s : State) (k : Nat) (x : Qp) (h : x ≠ Qp.rest) : (s.setQp k x).qp k = x :=
  Tab.get_set_self h
theorem State.setQp_other (s : State) (k : Nat) (x : Qp) {other : Nat} (h : other ≠ k) : (s.setQp k x).qp other = s.qp other :=
  Tab.get_set_other h
@[simp] theorem State.setPort_fuses (s : State) (k : Nat) (x : EthPort) : (s.setPort k x).fuses = s.fuses := rfl
@[simp] theorem State.setPort_lines (s : State) (k : Nat) (x : EthPort) : (s.setPort k x).lines = s.lines := rfl
@[simp] theorem State.setPort_sup (s : State) (k : Nat) (x : EthPort) : (s.setPort k x).sup = s.sup := rfl
@[simp] theorem State.setPort_host (s : State) (k : Nat) (x : EthPort) : (s.setPort k x).host = s.host := rfl
@[simp] theorem State.setPort_ex (s : State) (k : Nat) (x : EthPort) : (s.setPort k x).ex = s.ex := rfl
@[simp] theorem State.setPort_pa (s : State) (k : Nat) (x : EthPort) : (s.setPort k x).pa = s.pa := rfl
@[simp] theorem State.setPort_safe (s : State) (k : Nat) (x : EthPort) : (s.setPort k x).safe = s.safe := rfl
@[simp] theorem State.setPort_svc (s : State) (k : Nat) (x : EthPort) : (s.setPort k x).svc = s.svc := rfl
@[simp] theorem State.setPort_mem (s : State) (k : Nat) (x : EthPort) : (s.setPort k x).mem = s.mem := rfl
@[simp] theorem State.setPort_ta (s : State) (k : Nat) (x : EthPort) : (s.setPort k x).ta = s.ta := rfl
@[simp] theorem State.setPort_ing (s : State) (k : Nat) (x : EthPort) : (s.setPort k x).ing = s.ing := rfl
@[simp] theorem State.setPort_sp (s : State) (k : Nat) (x : EthPort) : (s.setPort k x).sp = s.sp := rfl
@[simp] theorem State.setPort_ctl (s : State) (k : Nat) (x : EthPort) : (s.setPort k x).ctl = s.ctl := rfl
@[simp] theorem State.setPort_truss (s : State) (k : Nat) (x : EthPort) : (s.setPort k x).truss = s.truss := rfl
@[simp] theorem State.setPort_now (s : State) (k : Nat) (x : EthPort) : (s.setPort k x).now = s.now := rfl
@[simp] theorem State.setPort_hostMem (s : State) (k : Nat) (x : EthPort) : (s.setPort k x).hostMem = s.hostMem := rfl
@[simp] theorem State.setPort_drawn (s : State) (k : Nat) (x : EthPort) : (s.setPort k x).drawn = s.drawn := rfl
@[simp] theorem State.setPort_pending (s : State) (k : Nat) (x : EthPort) : (s.setPort k x).pending = s.pending := rfl
theorem State.setPort_get (s : State) (k : Nat) (x : EthPort) (h : x ≠ EthPort.rest) : (s.setPort k x).port k = x :=
  Tab.get_set_self h
theorem State.setPort_other (s : State) (k : Nat) (x : EthPort) {other : Nat} (h : other ≠ k) : (s.setPort k x).port other = s.port other :=
  Tab.get_set_other h
@[simp] theorem State.setCtx_fuses (s : State) (c : Nat) (x : Ctx) : (s.setCtx c x).fuses = s.fuses := rfl
@[simp] theorem State.setCtx_lines (s : State) (c : Nat) (x : Ctx) : (s.setCtx c x).lines = s.lines := rfl
@[simp] theorem State.setCtx_sup (s : State) (c : Nat) (x : Ctx) : (s.setCtx c x).sup = s.sup := rfl
@[simp] theorem State.setCtx_ex (s : State) (c : Nat) (x : Ctx) : (s.setCtx c x).ex = s.ex := rfl
@[simp] theorem State.setCtx_pa (s : State) (c : Nat) (x : Ctx) : (s.setCtx c x).pa = s.pa := rfl
@[simp] theorem State.setCtx_safe (s : State) (c : Nat) (x : Ctx) : (s.setCtx c x).safe = s.safe := rfl
@[simp] theorem State.setCtx_svc (s : State) (c : Nat) (x : Ctx) : (s.setCtx c x).svc = s.svc := rfl
@[simp] theorem State.setCtx_mem (s : State) (c : Nat) (x : Ctx) : (s.setCtx c x).mem = s.mem := rfl
@[simp] theorem State.setCtx_ta (s : State) (c : Nat) (x : Ctx) : (s.setCtx c x).ta = s.ta := rfl
@[simp] theorem State.setCtx_tb (s : State) (c : Nat) (x : Ctx) : (s.setCtx c x).tb = s.tb := rfl
@[simp] theorem State.setCtx_ing (s : State) (c : Nat) (x : Ctx) : (s.setCtx c x).ing = s.ing := rfl
@[simp] theorem State.setCtx_sp (s : State) (c : Nat) (x : Ctx) : (s.setCtx c x).sp = s.sp := rfl
@[simp] theorem State.setCtx_ctl (s : State) (c : Nat) (x : Ctx) : (s.setCtx c x).ctl = s.ctl := rfl
@[simp] theorem State.setCtx_truss (s : State) (c : Nat) (x : Ctx) : (s.setCtx c x).truss = s.truss := rfl
@[simp] theorem State.setCtx_now (s : State) (c : Nat) (x : Ctx) : (s.setCtx c x).now = s.now := rfl
@[simp] theorem State.setCtx_hostMem (s : State) (c : Nat) (x : Ctx) : (s.setCtx c x).hostMem = s.hostMem := rfl
@[simp] theorem State.setCtx_drawn (s : State) (c : Nat) (x : Ctx) : (s.setCtx c x).drawn = s.drawn := rfl
@[simp] theorem State.setCtx_pending (s : State) (c : Nat) (x : Ctx) : (s.setCtx c x).pending = s.pending := rfl
theorem State.setCtx_get (s : State) (c : Nat) (x : Ctx) (h : x ≠ Ctx.rest) : (s.setCtx c x).ctx c = x :=
  Tab.get_set_self h
theorem State.setCtx_other (s : State) (c : Nat) (x : Ctx) {other : Nat} (h : other ≠ c) : (s.setCtx c x).ctx other = s.ctx other :=
  Tab.get_set_other h
@[simp] theorem State.setFn_fuses (s : State) (f : Nat) (x : Fn) : (s.setFn f x).fuses = s.fuses := rfl
@[simp] theorem State.setFn_lines (s : State) (f : Nat) (x : Fn) : (s.setFn f x).lines = s.lines := rfl
@[simp] theorem State.setFn_sup (s : State) (f : Nat) (x : Fn) : (s.setFn f x).sup = s.sup := rfl
@[simp] theorem State.setFn_ex (s : State) (f : Nat) (x : Fn) : (s.setFn f x).ex = s.ex := rfl
@[simp] theorem State.setFn_pa (s : State) (f : Nat) (x : Fn) : (s.setFn f x).pa = s.pa := rfl
@[simp] theorem State.setFn_safe (s : State) (f : Nat) (x : Fn) : (s.setFn f x).safe = s.safe := rfl
@[simp] theorem State.setFn_svc (s : State) (f : Nat) (x : Fn) : (s.setFn f x).svc = s.svc := rfl
@[simp] theorem State.setFn_mem (s : State) (f : Nat) (x : Fn) : (s.setFn f x).mem = s.mem := rfl
@[simp] theorem State.setFn_ta (s : State) (f : Nat) (x : Fn) : (s.setFn f x).ta = s.ta := rfl
@[simp] theorem State.setFn_tb (s : State) (f : Nat) (x : Fn) : (s.setFn f x).tb = s.tb := rfl
@[simp] theorem State.setFn_ing (s : State) (f : Nat) (x : Fn) : (s.setFn f x).ing = s.ing := rfl
@[simp] theorem State.setFn_sp (s : State) (f : Nat) (x : Fn) : (s.setFn f x).sp = s.sp := rfl
@[simp] theorem State.setFn_ctl (s : State) (f : Nat) (x : Fn) : (s.setFn f x).ctl = s.ctl := rfl
@[simp] theorem State.setFn_truss (s : State) (f : Nat) (x : Fn) : (s.setFn f x).truss = s.truss := rfl
@[simp] theorem State.setFn_now (s : State) (f : Nat) (x : Fn) : (s.setFn f x).now = s.now := rfl
@[simp] theorem State.setFn_hostMem (s : State) (f : Nat) (x : Fn) : (s.setFn f x).hostMem = s.hostMem := rfl
@[simp] theorem State.setFn_drawn (s : State) (f : Nat) (x : Fn) : (s.setFn f x).drawn = s.drawn := rfl
@[simp] theorem State.setFn_pending (s : State) (f : Nat) (x : Fn) : (s.setFn f x).pending = s.pending := rfl
theorem State.setFn_get (s : State) (f : Nat) (x : Fn) (h : x ≠ Fn.rest) : (s.setFn f x).fn f = x :=
  Tab.get_set_self h
theorem State.setFn_other (s : State) (f : Nat) (x : Fn) {other : Nat} (h : other ≠ f) : (s.setFn f x).fn other = s.fn other :=
  Tab.get_set_other h
@[simp] theorem State.setDie_fuses (s : State) (n : Nat) (x : Die) : (s.setDie n x).fuses = s.fuses := rfl
@[simp] theorem State.setDie_lines (s : State) (n : Nat) (x : Die) : (s.setDie n x).lines = s.lines := rfl
@[simp] theorem State.setDie_host (s : State) (n : Nat) (x : Die) : (s.setDie n x).host = s.host := rfl
@[simp] theorem State.setDie_ex (s : State) (n : Nat) (x : Die) : (s.setDie n x).ex = s.ex := rfl
@[simp] theorem State.setDie_pa (s : State) (n : Nat) (x : Die) : (s.setDie n x).pa = s.pa := rfl
@[simp] theorem State.setDie_safe (s : State) (n : Nat) (x : Die) : (s.setDie n x).safe = s.safe := rfl
@[simp] theorem State.setDie_svc (s : State) (n : Nat) (x : Die) : (s.setDie n x).svc = s.svc := rfl
@[simp] theorem State.setDie_mem (s : State) (n : Nat) (x : Die) : (s.setDie n x).mem = s.mem := rfl
@[simp] theorem State.setDie_ta (s : State) (n : Nat) (x : Die) : (s.setDie n x).ta = s.ta := rfl
@[simp] theorem State.setDie_tb (s : State) (n : Nat) (x : Die) : (s.setDie n x).tb = s.tb := rfl
@[simp] theorem State.setDie_ing (s : State) (n : Nat) (x : Die) : (s.setDie n x).ing = s.ing := rfl
@[simp] theorem State.setDie_sp (s : State) (n : Nat) (x : Die) : (s.setDie n x).sp = s.sp := rfl
@[simp] theorem State.setDie_ctl (s : State) (n : Nat) (x : Die) : (s.setDie n x).ctl = s.ctl := rfl
@[simp] theorem State.setDie_truss (s : State) (n : Nat) (x : Die) : (s.setDie n x).truss = s.truss := rfl
@[simp] theorem State.setDie_now (s : State) (n : Nat) (x : Die) : (s.setDie n x).now = s.now := rfl
@[simp] theorem State.setDie_hostMem (s : State) (n : Nat) (x : Die) : (s.setDie n x).hostMem = s.hostMem := rfl
@[simp] theorem State.setDie_drawn (s : State) (n : Nat) (x : Die) : (s.setDie n x).drawn = s.drawn := rfl
@[simp] theorem State.setDie_pending (s : State) (n : Nat) (x : Die) : (s.setDie n x).pending = s.pending := rfl
theorem State.setDie_get (s : State) (n : Nat) (x : Die) (h : x ≠ Die.rest) : (s.setDie n x).die n = x :=
  Tab.get_set_self h
theorem State.setDie_other (s : State) (n : Nat) (x : Die) {other : Nat} (h : other ≠ n) : (s.setDie n x).die other = s.die other :=
  Tab.get_set_other h
@[simp] theorem State.setFlask_fuses (s : State) (f : Nat) (x : Flask) : (s.setFlask f x).fuses = s.fuses := rfl
@[simp] theorem State.setFlask_lines (s : State) (f : Nat) (x : Flask) : (s.setFlask f x).lines = s.lines := rfl
@[simp] theorem State.setFlask_sup (s : State) (f : Nat) (x : Flask) : (s.setFlask f x).sup = s.sup := rfl
@[simp] theorem State.setFlask_host (s : State) (f : Nat) (x : Flask) : (s.setFlask f x).host = s.host := rfl
@[simp] theorem State.setFlask_pa (s : State) (f : Nat) (x : Flask) : (s.setFlask f x).pa = s.pa := rfl
@[simp] theorem State.setFlask_safe (s : State) (f : Nat) (x : Flask) : (s.setFlask f x).safe = s.safe := rfl
@[simp] theorem State.setFlask_svc (s : State) (f : Nat) (x : Flask) : (s.setFlask f x).svc = s.svc := rfl
@[simp] theorem State.setFlask_mem (s : State) (f : Nat) (x : Flask) : (s.setFlask f x).mem = s.mem := rfl
@[simp] theorem State.setFlask_ta (s : State) (f : Nat) (x : Flask) : (s.setFlask f x).ta = s.ta := rfl
@[simp] theorem State.setFlask_tb (s : State) (f : Nat) (x : Flask) : (s.setFlask f x).tb = s.tb := rfl
@[simp] theorem State.setFlask_ing (s : State) (f : Nat) (x : Flask) : (s.setFlask f x).ing = s.ing := rfl
@[simp] theorem State.setFlask_sp (s : State) (f : Nat) (x : Flask) : (s.setFlask f x).sp = s.sp := rfl
@[simp] theorem State.setFlask_ctl (s : State) (f : Nat) (x : Flask) : (s.setFlask f x).ctl = s.ctl := rfl
@[simp] theorem State.setFlask_truss (s : State) (f : Nat) (x : Flask) : (s.setFlask f x).truss = s.truss := rfl
@[simp] theorem State.setFlask_now (s : State) (f : Nat) (x : Flask) : (s.setFlask f x).now = s.now := rfl
@[simp] theorem State.setFlask_hostMem (s : State) (f : Nat) (x : Flask) : (s.setFlask f x).hostMem = s.hostMem := rfl
@[simp] theorem State.setFlask_drawn (s : State) (f : Nat) (x : Flask) : (s.setFlask f x).drawn = s.drawn := rfl
@[simp] theorem State.setFlask_pending (s : State) (f : Nat) (x : Flask) : (s.setFlask f x).pending = s.pending := rfl
theorem State.setFlask_get (s : State) (f : Nat) (x : Flask) (h : x ≠ Flask.rest) : (s.setFlask f x).flask f = x :=
  Tab.get_set_self h
theorem State.setFlask_other (s : State) (f : Nat) (x : Flask) {other : Nat} (h : other ≠ f) : (s.setFlask f x).flask other = s.flask other :=
  Tab.get_set_other h
@[simp] theorem State.setJob_fuses (s : State) (j : Nat) (x : Job) : (s.setJob j x).fuses = s.fuses := rfl
@[simp] theorem State.setJob_lines (s : State) (j : Nat) (x : Job) : (s.setJob j x).lines = s.lines := rfl
@[simp] theorem State.setJob_sup (s : State) (j : Nat) (x : Job) : (s.setJob j x).sup = s.sup := rfl
@[simp] theorem State.setJob_host (s : State) (j : Nat) (x : Job) : (s.setJob j x).host = s.host := rfl
@[simp] theorem State.setJob_pa (s : State) (j : Nat) (x : Job) : (s.setJob j x).pa = s.pa := rfl
@[simp] theorem State.setJob_safe (s : State) (j : Nat) (x : Job) : (s.setJob j x).safe = s.safe := rfl
@[simp] theorem State.setJob_svc (s : State) (j : Nat) (x : Job) : (s.setJob j x).svc = s.svc := rfl
@[simp] theorem State.setJob_mem (s : State) (j : Nat) (x : Job) : (s.setJob j x).mem = s.mem := rfl
@[simp] theorem State.setJob_ta (s : State) (j : Nat) (x : Job) : (s.setJob j x).ta = s.ta := rfl
@[simp] theorem State.setJob_tb (s : State) (j : Nat) (x : Job) : (s.setJob j x).tb = s.tb := rfl
@[simp] theorem State.setJob_ing (s : State) (j : Nat) (x : Job) : (s.setJob j x).ing = s.ing := rfl
@[simp] theorem State.setJob_sp (s : State) (j : Nat) (x : Job) : (s.setJob j x).sp = s.sp := rfl
@[simp] theorem State.setJob_ctl (s : State) (j : Nat) (x : Job) : (s.setJob j x).ctl = s.ctl := rfl
@[simp] theorem State.setJob_truss (s : State) (j : Nat) (x : Job) : (s.setJob j x).truss = s.truss := rfl
@[simp] theorem State.setJob_now (s : State) (j : Nat) (x : Job) : (s.setJob j x).now = s.now := rfl
@[simp] theorem State.setJob_hostMem (s : State) (j : Nat) (x : Job) : (s.setJob j x).hostMem = s.hostMem := rfl
@[simp] theorem State.setJob_drawn (s : State) (j : Nat) (x : Job) : (s.setJob j x).drawn = s.drawn := rfl
@[simp] theorem State.setJob_pending (s : State) (j : Nat) (x : Job) : (s.setJob j x).pending = s.pending := rfl
theorem State.setJob_get (s : State) (j : Nat) (x : Job) (h : x ≠ Job.rest) : (s.setJob j x).job j = x :=
  Tab.get_set_self h
theorem State.setJob_other (s : State) (j : Nat) (x : Job) {other : Nat} (h : other ≠ j) : (s.setJob j x).job other = s.job other :=
  Tab.get_set_other h
@[simp] theorem State.setSync_fuses (s : State) (o : Nat) (x : Sync) : (s.setSync o x).fuses = s.fuses := rfl
@[simp] theorem State.setSync_lines (s : State) (o : Nat) (x : Sync) : (s.setSync o x).lines = s.lines := rfl
@[simp] theorem State.setSync_sup (s : State) (o : Nat) (x : Sync) : (s.setSync o x).sup = s.sup := rfl
@[simp] theorem State.setSync_host (s : State) (o : Nat) (x : Sync) : (s.setSync o x).host = s.host := rfl
@[simp] theorem State.setSync_pa (s : State) (o : Nat) (x : Sync) : (s.setSync o x).pa = s.pa := rfl
@[simp] theorem State.setSync_safe (s : State) (o : Nat) (x : Sync) : (s.setSync o x).safe = s.safe := rfl
@[simp] theorem State.setSync_svc (s : State) (o : Nat) (x : Sync) : (s.setSync o x).svc = s.svc := rfl
@[simp] theorem State.setSync_mem (s : State) (o : Nat) (x : Sync) : (s.setSync o x).mem = s.mem := rfl
@[simp] theorem State.setSync_ta (s : State) (o : Nat) (x : Sync) : (s.setSync o x).ta = s.ta := rfl
@[simp] theorem State.setSync_tb (s : State) (o : Nat) (x : Sync) : (s.setSync o x).tb = s.tb := rfl
@[simp] theorem State.setSync_ing (s : State) (o : Nat) (x : Sync) : (s.setSync o x).ing = s.ing := rfl
@[simp] theorem State.setSync_sp (s : State) (o : Nat) (x : Sync) : (s.setSync o x).sp = s.sp := rfl
@[simp] theorem State.setSync_ctl (s : State) (o : Nat) (x : Sync) : (s.setSync o x).ctl = s.ctl := rfl
@[simp] theorem State.setSync_truss (s : State) (o : Nat) (x : Sync) : (s.setSync o x).truss = s.truss := rfl
@[simp] theorem State.setSync_now (s : State) (o : Nat) (x : Sync) : (s.setSync o x).now = s.now := rfl
@[simp] theorem State.setSync_hostMem (s : State) (o : Nat) (x : Sync) : (s.setSync o x).hostMem = s.hostMem := rfl
@[simp] theorem State.setSync_drawn (s : State) (o : Nat) (x : Sync) : (s.setSync o x).drawn = s.drawn := rfl
@[simp] theorem State.setSync_pending (s : State) (o : Nat) (x : Sync) : (s.setSync o x).pending = s.pending := rfl
theorem State.setSync_get (s : State) (o : Nat) (x : Sync) (h : x ≠ Sync.rest) : (s.setSync o x).sync o = x :=
  Tab.get_set_self h
theorem State.setSync_other (s : State) (o : Nat) (x : Sync) {other : Nat} (h : other ≠ o) : (s.setSync o x).sync other = s.sync other :=
  Tab.get_set_other h
@[simp] theorem State.setQueue_fuses (s : State) (e q : Nat) (x : Queue) : (s.setQueue e q x).fuses = s.fuses := rfl
@[simp] theorem State.setQueue_lines (s : State) (e q : Nat) (x : Queue) : (s.setQueue e q x).lines = s.lines := rfl
@[simp] theorem State.setQueue_sup (s : State) (e q : Nat) (x : Queue) : (s.setQueue e q x).sup = s.sup := rfl
@[simp] theorem State.setQueue_host (s : State) (e q : Nat) (x : Queue) : (s.setQueue e q x).host = s.host := rfl
@[simp] theorem State.setQueue_pa (s : State) (e q : Nat) (x : Queue) : (s.setQueue e q x).pa = s.pa := rfl
@[simp] theorem State.setQueue_safe (s : State) (e q : Nat) (x : Queue) : (s.setQueue e q x).safe = s.safe := rfl
@[simp] theorem State.setQueue_svc (s : State) (e q : Nat) (x : Queue) : (s.setQueue e q x).svc = s.svc := rfl
@[simp] theorem State.setQueue_mem (s : State) (e q : Nat) (x : Queue) : (s.setQueue e q x).mem = s.mem := rfl
@[simp] theorem State.setQueue_ta (s : State) (e q : Nat) (x : Queue) : (s.setQueue e q x).ta = s.ta := rfl
@[simp] theorem State.setQueue_tb (s : State) (e q : Nat) (x : Queue) : (s.setQueue e q x).tb = s.tb := rfl
@[simp] theorem State.setQueue_ing (s : State) (e q : Nat) (x : Queue) : (s.setQueue e q x).ing = s.ing := rfl
@[simp] theorem State.setQueue_sp (s : State) (e q : Nat) (x : Queue) : (s.setQueue e q x).sp = s.sp := rfl
@[simp] theorem State.setQueue_ctl (s : State) (e q : Nat) (x : Queue) : (s.setQueue e q x).ctl = s.ctl := rfl
@[simp] theorem State.setQueue_truss (s : State) (e q : Nat) (x : Queue) : (s.setQueue e q x).truss = s.truss := rfl
@[simp] theorem State.setQueue_now (s : State) (e q : Nat) (x : Queue) : (s.setQueue e q x).now = s.now := rfl
@[simp] theorem State.setQueue_hostMem (s : State) (e q : Nat) (x : Queue) : (s.setQueue e q x).hostMem = s.hostMem := rfl
@[simp] theorem State.setQueue_drawn (s : State) (e q : Nat) (x : Queue) : (s.setQueue e q x).drawn = s.drawn := rfl
@[simp] theorem State.setQueue_pending (s : State) (e q : Nat) (x : Queue) : (s.setQueue e q x).pending = s.pending := rfl
theorem State.setQueue_get (s : State) (e q : Nat) (x : Queue) (h : x ≠ Queue.rest) : (s.setQueue e q x).queue e q = x :=
  Tab.get_set_self h
@[simp] theorem State.setDiePower_fuses (s : State) (n : Nat) (x : DiePower) : (s.setDiePower n x).fuses = s.fuses := rfl
@[simp] theorem State.setDiePower_lines (s : State) (n : Nat) (x : DiePower) : (s.setDiePower n x).lines = s.lines := rfl
@[simp] theorem State.setDiePower_sup (s : State) (n : Nat) (x : DiePower) : (s.setDiePower n x).sup = s.sup := rfl
@[simp] theorem State.setDiePower_host (s : State) (n : Nat) (x : DiePower) : (s.setDiePower n x).host = s.host := rfl
@[simp] theorem State.setDiePower_ex (s : State) (n : Nat) (x : DiePower) : (s.setDiePower n x).ex = s.ex := rfl
@[simp] theorem State.setDiePower_safe (s : State) (n : Nat) (x : DiePower) : (s.setDiePower n x).safe = s.safe := rfl
@[simp] theorem State.setDiePower_svc (s : State) (n : Nat) (x : DiePower) : (s.setDiePower n x).svc = s.svc := rfl
@[simp] theorem State.setDiePower_mem (s : State) (n : Nat) (x : DiePower) : (s.setDiePower n x).mem = s.mem := rfl
@[simp] theorem State.setDiePower_ta (s : State) (n : Nat) (x : DiePower) : (s.setDiePower n x).ta = s.ta := rfl
@[simp] theorem State.setDiePower_tb (s : State) (n : Nat) (x : DiePower) : (s.setDiePower n x).tb = s.tb := rfl
@[simp] theorem State.setDiePower_ing (s : State) (n : Nat) (x : DiePower) : (s.setDiePower n x).ing = s.ing := rfl
@[simp] theorem State.setDiePower_sp (s : State) (n : Nat) (x : DiePower) : (s.setDiePower n x).sp = s.sp := rfl
@[simp] theorem State.setDiePower_ctl (s : State) (n : Nat) (x : DiePower) : (s.setDiePower n x).ctl = s.ctl := rfl
@[simp] theorem State.setDiePower_truss (s : State) (n : Nat) (x : DiePower) : (s.setDiePower n x).truss = s.truss := rfl
@[simp] theorem State.setDiePower_now (s : State) (n : Nat) (x : DiePower) : (s.setDiePower n x).now = s.now := rfl
@[simp] theorem State.setDiePower_hostMem (s : State) (n : Nat) (x : DiePower) : (s.setDiePower n x).hostMem = s.hostMem := rfl
@[simp] theorem State.setDiePower_drawn (s : State) (n : Nat) (x : DiePower) : (s.setDiePower n x).drawn = s.drawn := rfl
@[simp] theorem State.setDiePower_pending (s : State) (n : Nat) (x : DiePower) : (s.setDiePower n x).pending = s.pending := rfl
theorem State.setDiePower_get (s : State) (n : Nat) (x : DiePower) (h : x ≠ DiePower.rest) : (s.setDiePower n x).diePower n = x :=
  Tab.get_set_self h
theorem State.setDiePower_other (s : State) (n : Nat) (x : DiePower) {other : Nat} (h : other ≠ n) : (s.setDiePower n x).diePower other = s.diePower other :=
  Tab.get_set_other h
@[simp] theorem State.setFlaskPower_fuses (s : State) (f : Nat) (x : FlaskPower) : (s.setFlaskPower f x).fuses = s.fuses := rfl
@[simp] theorem State.setFlaskPower_lines (s : State) (f : Nat) (x : FlaskPower) : (s.setFlaskPower f x).lines = s.lines := rfl
@[simp] theorem State.setFlaskPower_sup (s : State) (f : Nat) (x : FlaskPower) : (s.setFlaskPower f x).sup = s.sup := rfl
@[simp] theorem State.setFlaskPower_host (s : State) (f : Nat) (x : FlaskPower) : (s.setFlaskPower f x).host = s.host := rfl
@[simp] theorem State.setFlaskPower_ex (s : State) (f : Nat) (x : FlaskPower) : (s.setFlaskPower f x).ex = s.ex := rfl
@[simp] theorem State.setFlaskPower_safe (s : State) (f : Nat) (x : FlaskPower) : (s.setFlaskPower f x).safe = s.safe := rfl
@[simp] theorem State.setFlaskPower_svc (s : State) (f : Nat) (x : FlaskPower) : (s.setFlaskPower f x).svc = s.svc := rfl
@[simp] theorem State.setFlaskPower_mem (s : State) (f : Nat) (x : FlaskPower) : (s.setFlaskPower f x).mem = s.mem := rfl
@[simp] theorem State.setFlaskPower_ta (s : State) (f : Nat) (x : FlaskPower) : (s.setFlaskPower f x).ta = s.ta := rfl
@[simp] theorem State.setFlaskPower_tb (s : State) (f : Nat) (x : FlaskPower) : (s.setFlaskPower f x).tb = s.tb := rfl
@[simp] theorem State.setFlaskPower_ing (s : State) (f : Nat) (x : FlaskPower) : (s.setFlaskPower f x).ing = s.ing := rfl
@[simp] theorem State.setFlaskPower_sp (s : State) (f : Nat) (x : FlaskPower) : (s.setFlaskPower f x).sp = s.sp := rfl
@[simp] theorem State.setFlaskPower_ctl (s : State) (f : Nat) (x : FlaskPower) : (s.setFlaskPower f x).ctl = s.ctl := rfl
@[simp] theorem State.setFlaskPower_truss (s : State) (f : Nat) (x : FlaskPower) : (s.setFlaskPower f x).truss = s.truss := rfl
@[simp] theorem State.setFlaskPower_now (s : State) (f : Nat) (x : FlaskPower) : (s.setFlaskPower f x).now = s.now := rfl
@[simp] theorem State.setFlaskPower_hostMem (s : State) (f : Nat) (x : FlaskPower) : (s.setFlaskPower f x).hostMem = s.hostMem := rfl
@[simp] theorem State.setFlaskPower_drawn (s : State) (f : Nat) (x : FlaskPower) : (s.setFlaskPower f x).drawn = s.drawn := rfl
@[simp] theorem State.setFlaskPower_pending (s : State) (f : Nat) (x : FlaskPower) : (s.setFlaskPower f x).pending = s.pending := rfl
theorem State.setFlaskPower_get (s : State) (f : Nat) (x : FlaskPower) (h : x ≠ FlaskPower.rest) : (s.setFlaskPower f x).flaskPower f = x :=
  Tab.get_set_self h
theorem State.setFlaskPower_other (s : State) (f : Nat) (x : FlaskPower) {other : Nat} (h : other ≠ f) : (s.setFlaskPower f x).flaskPower other = s.flaskPower other :=
  Tab.get_set_other h
@[simp] theorem State.setC3_fuses (s : State) (f : Nat) (x : C3) : (s.setC3 f x).fuses = s.fuses := rfl
@[simp] theorem State.setC3_lines (s : State) (f : Nat) (x : C3) : (s.setC3 f x).lines = s.lines := rfl
@[simp] theorem State.setC3_sup (s : State) (f : Nat) (x : C3) : (s.setC3 f x).sup = s.sup := rfl
@[simp] theorem State.setC3_host (s : State) (f : Nat) (x : C3) : (s.setC3 f x).host = s.host := rfl
@[simp] theorem State.setC3_ex (s : State) (f : Nat) (x : C3) : (s.setC3 f x).ex = s.ex := rfl
@[simp] theorem State.setC3_pa (s : State) (f : Nat) (x : C3) : (s.setC3 f x).pa = s.pa := rfl
@[simp] theorem State.setC3_svc (s : State) (f : Nat) (x : C3) : (s.setC3 f x).svc = s.svc := rfl
@[simp] theorem State.setC3_mem (s : State) (f : Nat) (x : C3) : (s.setC3 f x).mem = s.mem := rfl
@[simp] theorem State.setC3_ta (s : State) (f : Nat) (x : C3) : (s.setC3 f x).ta = s.ta := rfl
@[simp] theorem State.setC3_tb (s : State) (f : Nat) (x : C3) : (s.setC3 f x).tb = s.tb := rfl
@[simp] theorem State.setC3_ing (s : State) (f : Nat) (x : C3) : (s.setC3 f x).ing = s.ing := rfl
@[simp] theorem State.setC3_sp (s : State) (f : Nat) (x : C3) : (s.setC3 f x).sp = s.sp := rfl
@[simp] theorem State.setC3_ctl (s : State) (f : Nat) (x : C3) : (s.setC3 f x).ctl = s.ctl := rfl
@[simp] theorem State.setC3_truss (s : State) (f : Nat) (x : C3) : (s.setC3 f x).truss = s.truss := rfl
@[simp] theorem State.setC3_now (s : State) (f : Nat) (x : C3) : (s.setC3 f x).now = s.now := rfl
@[simp] theorem State.setC3_hostMem (s : State) (f : Nat) (x : C3) : (s.setC3 f x).hostMem = s.hostMem := rfl
@[simp] theorem State.setC3_drawn (s : State) (f : Nat) (x : C3) : (s.setC3 f x).drawn = s.drawn := rfl
@[simp] theorem State.setC3_pending (s : State) (f : Nat) (x : C3) : (s.setC3 f x).pending = s.pending := rfl
theorem State.setC3_get (s : State) (f : Nat) (x : C3) (h : x ≠ C3.rest) : (s.setC3 f x).c3 f = x :=
  Tab.get_set_self h
theorem State.setC3_other (s : State) (f : Nat) (x : C3) {other : Nat} (h : other ≠ f) : (s.setC3 f x).c3 other = s.c3 other :=
  Tab.get_set_other h
@[simp] theorem State.setRclass_fuses (s : State) (c : Nat) (x : RClass) : (s.setRclass c x).fuses = s.fuses := rfl
@[simp] theorem State.setRclass_lines (s : State) (c : Nat) (x : RClass) : (s.setRclass c x).lines = s.lines := rfl
@[simp] theorem State.setRclass_sup (s : State) (c : Nat) (x : RClass) : (s.setRclass c x).sup = s.sup := rfl
@[simp] theorem State.setRclass_host (s : State) (c : Nat) (x : RClass) : (s.setRclass c x).host = s.host := rfl
@[simp] theorem State.setRclass_ex (s : State) (c : Nat) (x : RClass) : (s.setRclass c x).ex = s.ex := rfl
@[simp] theorem State.setRclass_pa (s : State) (c : Nat) (x : RClass) : (s.setRclass c x).pa = s.pa := rfl
@[simp] theorem State.setRclass_svc (s : State) (c : Nat) (x : RClass) : (s.setRclass c x).svc = s.svc := rfl
@[simp] theorem State.setRclass_mem (s : State) (c : Nat) (x : RClass) : (s.setRclass c x).mem = s.mem := rfl
@[simp] theorem State.setRclass_ta (s : State) (c : Nat) (x : RClass) : (s.setRclass c x).ta = s.ta := rfl
@[simp] theorem State.setRclass_tb (s : State) (c : Nat) (x : RClass) : (s.setRclass c x).tb = s.tb := rfl
@[simp] theorem State.setRclass_ing (s : State) (c : Nat) (x : RClass) : (s.setRclass c x).ing = s.ing := rfl
@[simp] theorem State.setRclass_sp (s : State) (c : Nat) (x : RClass) : (s.setRclass c x).sp = s.sp := rfl
@[simp] theorem State.setRclass_ctl (s : State) (c : Nat) (x : RClass) : (s.setRclass c x).ctl = s.ctl := rfl
@[simp] theorem State.setRclass_truss (s : State) (c : Nat) (x : RClass) : (s.setRclass c x).truss = s.truss := rfl
@[simp] theorem State.setRclass_now (s : State) (c : Nat) (x : RClass) : (s.setRclass c x).now = s.now := rfl
@[simp] theorem State.setRclass_hostMem (s : State) (c : Nat) (x : RClass) : (s.setRclass c x).hostMem = s.hostMem := rfl
@[simp] theorem State.setRclass_drawn (s : State) (c : Nat) (x : RClass) : (s.setRclass c x).drawn = s.drawn := rfl
@[simp] theorem State.setRclass_pending (s : State) (c : Nat) (x : RClass) : (s.setRclass c x).pending = s.pending := rfl
theorem State.setRclass_get (s : State) (c : Nat) (x : RClass) (h : x ≠ RClass.rest) : (s.setRclass c x).rclass c = x :=
  Tab.get_set_self h
theorem State.setRclass_other (s : State) (c : Nat) (x : RClass) {other : Nat} (h : other ≠ c) : (s.setRclass c x).rclass other = s.rclass other :=
  Tab.get_set_other h
@[simp] theorem State.setComp_fuses (s : State) (k : Nat) (x : Component) : (s.setComp k x).fuses = s.fuses := rfl
@[simp] theorem State.setComp_lines (s : State) (k : Nat) (x : Component) : (s.setComp k x).lines = s.lines := rfl
@[simp] theorem State.setComp_sup (s : State) (k : Nat) (x : Component) : (s.setComp k x).sup = s.sup := rfl
@[simp] theorem State.setComp_host (s : State) (k : Nat) (x : Component) : (s.setComp k x).host = s.host := rfl
@[simp] theorem State.setComp_ex (s : State) (k : Nat) (x : Component) : (s.setComp k x).ex = s.ex := rfl
@[simp] theorem State.setComp_pa (s : State) (k : Nat) (x : Component) : (s.setComp k x).pa = s.pa := rfl
@[simp] theorem State.setComp_safe (s : State) (k : Nat) (x : Component) : (s.setComp k x).safe = s.safe := rfl
@[simp] theorem State.setComp_mem (s : State) (k : Nat) (x : Component) : (s.setComp k x).mem = s.mem := rfl
@[simp] theorem State.setComp_ta (s : State) (k : Nat) (x : Component) : (s.setComp k x).ta = s.ta := rfl
@[simp] theorem State.setComp_tb (s : State) (k : Nat) (x : Component) : (s.setComp k x).tb = s.tb := rfl
@[simp] theorem State.setComp_ing (s : State) (k : Nat) (x : Component) : (s.setComp k x).ing = s.ing := rfl
@[simp] theorem State.setComp_sp (s : State) (k : Nat) (x : Component) : (s.setComp k x).sp = s.sp := rfl
@[simp] theorem State.setComp_ctl (s : State) (k : Nat) (x : Component) : (s.setComp k x).ctl = s.ctl := rfl
@[simp] theorem State.setComp_truss (s : State) (k : Nat) (x : Component) : (s.setComp k x).truss = s.truss := rfl
@[simp] theorem State.setComp_now (s : State) (k : Nat) (x : Component) : (s.setComp k x).now = s.now := rfl
@[simp] theorem State.setComp_hostMem (s : State) (k : Nat) (x : Component) : (s.setComp k x).hostMem = s.hostMem := rfl
@[simp] theorem State.setComp_drawn (s : State) (k : Nat) (x : Component) : (s.setComp k x).drawn = s.drawn := rfl
@[simp] theorem State.setComp_pending (s : State) (k : Nat) (x : Component) : (s.setComp k x).pending = s.pending := rfl
theorem State.setComp_get (s : State) (k : Nat) (x : Component) (h : x ≠ Component.rest) : (s.setComp k x).comp k = x :=
  Tab.get_set_self h
theorem State.setComp_other (s : State) (k : Nat) (x : Component) {other : Nat} (h : other ≠ k) : (s.setComp k x).comp other = s.comp other :=
  Tab.get_set_other h
@[simp] theorem State.setAePort_fuses (s : State) (k : Nat) (x : AePort) : (s.setAePort k x).fuses = s.fuses := rfl
@[simp] theorem State.setAePort_lines (s : State) (k : Nat) (x : AePort) : (s.setAePort k x).lines = s.lines := rfl
@[simp] theorem State.setAePort_sup (s : State) (k : Nat) (x : AePort) : (s.setAePort k x).sup = s.sup := rfl
@[simp] theorem State.setAePort_host (s : State) (k : Nat) (x : AePort) : (s.setAePort k x).host = s.host := rfl
@[simp] theorem State.setAePort_ex (s : State) (k : Nat) (x : AePort) : (s.setAePort k x).ex = s.ex := rfl
@[simp] theorem State.setAePort_pa (s : State) (k : Nat) (x : AePort) : (s.setAePort k x).pa = s.pa := rfl
@[simp] theorem State.setAePort_safe (s : State) (k : Nat) (x : AePort) : (s.setAePort k x).safe = s.safe := rfl
@[simp] theorem State.setAePort_svc (s : State) (k : Nat) (x : AePort) : (s.setAePort k x).svc = s.svc := rfl
@[simp] theorem State.setAePort_mem (s : State) (k : Nat) (x : AePort) : (s.setAePort k x).mem = s.mem := rfl
@[simp] theorem State.setAePort_ta (s : State) (k : Nat) (x : AePort) : (s.setAePort k x).ta = s.ta := rfl
@[simp] theorem State.setAePort_tb (s : State) (k : Nat) (x : AePort) : (s.setAePort k x).tb = s.tb := rfl
@[simp] theorem State.setAePort_ing (s : State) (k : Nat) (x : AePort) : (s.setAePort k x).ing = s.ing := rfl
@[simp] theorem State.setAePort_sp (s : State) (k : Nat) (x : AePort) : (s.setAePort k x).sp = s.sp := rfl
@[simp] theorem State.setAePort_ctl (s : State) (k : Nat) (x : AePort) : (s.setAePort k x).ctl = s.ctl := rfl
@[simp] theorem State.setAePort_now (s : State) (k : Nat) (x : AePort) : (s.setAePort k x).now = s.now := rfl
@[simp] theorem State.setAePort_hostMem (s : State) (k : Nat) (x : AePort) : (s.setAePort k x).hostMem = s.hostMem := rfl
@[simp] theorem State.setAePort_drawn (s : State) (k : Nat) (x : AePort) : (s.setAePort k x).drawn = s.drawn := rfl
@[simp] theorem State.setAePort_pending (s : State) (k : Nat) (x : AePort) : (s.setAePort k x).pending = s.pending := rfl
theorem State.setAePort_get (s : State) (k : Nat) (x : AePort) (h : x ≠ AePort.rest) : (s.setAePort k x).aePort k = x :=
  Tab.get_set_self h
theorem State.setAePort_other (s : State) (k : Nat) (x : AePort) {other : Nat} (h : other ≠ k) : (s.setAePort k x).aePort other = s.aePort other :=
  Tab.get_set_other h
@[simp] theorem State.setMember_fuses (s : State) (m : Nat) (x : Member) : (s.setMember m x).fuses = s.fuses := rfl
@[simp] theorem State.setMember_lines (s : State) (m : Nat) (x : Member) : (s.setMember m x).lines = s.lines := rfl
@[simp] theorem State.setMember_sup (s : State) (m : Nat) (x : Member) : (s.setMember m x).sup = s.sup := rfl
@[simp] theorem State.setMember_host (s : State) (m : Nat) (x : Member) : (s.setMember m x).host = s.host := rfl
@[simp] theorem State.setMember_ex (s : State) (m : Nat) (x : Member) : (s.setMember m x).ex = s.ex := rfl
@[simp] theorem State.setMember_pa (s : State) (m : Nat) (x : Member) : (s.setMember m x).pa = s.pa := rfl
@[simp] theorem State.setMember_safe (s : State) (m : Nat) (x : Member) : (s.setMember m x).safe = s.safe := rfl
@[simp] theorem State.setMember_svc (s : State) (m : Nat) (x : Member) : (s.setMember m x).svc = s.svc := rfl
@[simp] theorem State.setMember_mem (s : State) (m : Nat) (x : Member) : (s.setMember m x).mem = s.mem := rfl
@[simp] theorem State.setMember_ta (s : State) (m : Nat) (x : Member) : (s.setMember m x).ta = s.ta := rfl
@[simp] theorem State.setMember_tb (s : State) (m : Nat) (x : Member) : (s.setMember m x).tb = s.tb := rfl
@[simp] theorem State.setMember_ing (s : State) (m : Nat) (x : Member) : (s.setMember m x).ing = s.ing := rfl
@[simp] theorem State.setMember_sp (s : State) (m : Nat) (x : Member) : (s.setMember m x).sp = s.sp := rfl
@[simp] theorem State.setMember_ctl (s : State) (m : Nat) (x : Member) : (s.setMember m x).ctl = s.ctl := rfl
@[simp] theorem State.setMember_now (s : State) (m : Nat) (x : Member) : (s.setMember m x).now = s.now := rfl
@[simp] theorem State.setMember_hostMem (s : State) (m : Nat) (x : Member) : (s.setMember m x).hostMem = s.hostMem := rfl
@[simp] theorem State.setMember_drawn (s : State) (m : Nat) (x : Member) : (s.setMember m x).drawn = s.drawn := rfl
@[simp] theorem State.setMember_pending (s : State) (m : Nat) (x : Member) : (s.setMember m x).pending = s.pending := rfl
theorem State.setMember_get (s : State) (m : Nat) (x : Member) (h : x ≠ Member.rest) : (s.setMember m x).member m = x :=
  Tab.get_set_self h
theorem State.setMember_other (s : State) (m : Nat) (x : Member) {other : Nat} (h : other ≠ m) : (s.setMember m x).member other = s.member other :=
  Tab.get_set_other h
@[simp] theorem State.setAperture_fuses (s : State) (k : Nat) (x : Aperture) : (s.setAperture k x).fuses = s.fuses := rfl
@[simp] theorem State.setAperture_lines (s : State) (k : Nat) (x : Aperture) : (s.setAperture k x).lines = s.lines := rfl
@[simp] theorem State.setAperture_sup (s : State) (k : Nat) (x : Aperture) : (s.setAperture k x).sup = s.sup := rfl
@[simp] theorem State.setAperture_host (s : State) (k : Nat) (x : Aperture) : (s.setAperture k x).host = s.host := rfl
@[simp] theorem State.setAperture_ex (s : State) (k : Nat) (x : Aperture) : (s.setAperture k x).ex = s.ex := rfl
@[simp] theorem State.setAperture_pa (s : State) (k : Nat) (x : Aperture) : (s.setAperture k x).pa = s.pa := rfl
@[simp] theorem State.setAperture_safe (s : State) (k : Nat) (x : Aperture) : (s.setAperture k x).safe = s.safe := rfl
@[simp] theorem State.setAperture_svc (s : State) (k : Nat) (x : Aperture) : (s.setAperture k x).svc = s.svc := rfl
@[simp] theorem State.setAperture_mem (s : State) (k : Nat) (x : Aperture) : (s.setAperture k x).mem = s.mem := rfl
@[simp] theorem State.setAperture_ta (s : State) (k : Nat) (x : Aperture) : (s.setAperture k x).ta = s.ta := rfl
@[simp] theorem State.setAperture_tb (s : State) (k : Nat) (x : Aperture) : (s.setAperture k x).tb = s.tb := rfl
@[simp] theorem State.setAperture_ing (s : State) (k : Nat) (x : Aperture) : (s.setAperture k x).ing = s.ing := rfl
@[simp] theorem State.setAperture_sp (s : State) (k : Nat) (x : Aperture) : (s.setAperture k x).sp = s.sp := rfl
@[simp] theorem State.setAperture_ctl (s : State) (k : Nat) (x : Aperture) : (s.setAperture k x).ctl = s.ctl := rfl
@[simp] theorem State.setAperture_now (s : State) (k : Nat) (x : Aperture) : (s.setAperture k x).now = s.now := rfl
@[simp] theorem State.setAperture_hostMem (s : State) (k : Nat) (x : Aperture) : (s.setAperture k x).hostMem = s.hostMem := rfl
@[simp] theorem State.setAperture_drawn (s : State) (k : Nat) (x : Aperture) : (s.setAperture k x).drawn = s.drawn := rfl
@[simp] theorem State.setAperture_pending (s : State) (k : Nat) (x : Aperture) : (s.setAperture k x).pending = s.pending := rfl
theorem State.setAperture_get (s : State) (k : Nat) (x : Aperture) (h : x ≠ Aperture.rest) : (s.setAperture k x).aperture k = x :=
  Tab.get_set_self h
theorem State.setAperture_other (s : State) (k : Nat) (x : Aperture) {other : Nat} (h : other ≠ k) : (s.setAperture k x).aperture other = s.aperture other :=
  Tab.get_set_other h
@[simp] theorem State.setPage_fuses (s : State) (k : Nat) (x : Page) : (s.setPage k x).fuses = s.fuses := rfl
@[simp] theorem State.setPage_lines (s : State) (k : Nat) (x : Page) : (s.setPage k x).lines = s.lines := rfl
@[simp] theorem State.setPage_sup (s : State) (k : Nat) (x : Page) : (s.setPage k x).sup = s.sup := rfl
@[simp] theorem State.setPage_host (s : State) (k : Nat) (x : Page) : (s.setPage k x).host = s.host := rfl
@[simp] theorem State.setPage_ex (s : State) (k : Nat) (x : Page) : (s.setPage k x).ex = s.ex := rfl
@[simp] theorem State.setPage_pa (s : State) (k : Nat) (x : Page) : (s.setPage k x).pa = s.pa := rfl
@[simp] theorem State.setPage_safe (s : State) (k : Nat) (x : Page) : (s.setPage k x).safe = s.safe := rfl
@[simp] theorem State.setPage_svc (s : State) (k : Nat) (x : Page) : (s.setPage k x).svc = s.svc := rfl
@[simp] theorem State.setPage_ta (s : State) (k : Nat) (x : Page) : (s.setPage k x).ta = s.ta := rfl
@[simp] theorem State.setPage_tb (s : State) (k : Nat) (x : Page) : (s.setPage k x).tb = s.tb := rfl
@[simp] theorem State.setPage_ing (s : State) (k : Nat) (x : Page) : (s.setPage k x).ing = s.ing := rfl
@[simp] theorem State.setPage_sp (s : State) (k : Nat) (x : Page) : (s.setPage k x).sp = s.sp := rfl
@[simp] theorem State.setPage_ctl (s : State) (k : Nat) (x : Page) : (s.setPage k x).ctl = s.ctl := rfl
@[simp] theorem State.setPage_truss (s : State) (k : Nat) (x : Page) : (s.setPage k x).truss = s.truss := rfl
@[simp] theorem State.setPage_now (s : State) (k : Nat) (x : Page) : (s.setPage k x).now = s.now := rfl
@[simp] theorem State.setPage_hostMem (s : State) (k : Nat) (x : Page) : (s.setPage k x).hostMem = s.hostMem := rfl
@[simp] theorem State.setPage_drawn (s : State) (k : Nat) (x : Page) : (s.setPage k x).drawn = s.drawn := rfl
@[simp] theorem State.setPage_pending (s : State) (k : Nat) (x : Page) : (s.setPage k x).pending = s.pending := rfl
theorem State.setPage_get (s : State) (k : Nat) (x : Page) (h : x ≠ Page.rest) : (s.setPage k x).page k = x :=
  Tab.get_set_self h
theorem State.setPage_other (s : State) (k : Nat) (x : Page) {other : Nat} (h : other ≠ k) : (s.setPage k x).page other = s.page other :=
  Tab.get_set_other h
@[simp] theorem State.setStream_fuses (s : State) (k : Nat) (x : Stream) : (s.setStream k x).fuses = s.fuses := rfl
@[simp] theorem State.setStream_lines (s : State) (k : Nat) (x : Stream) : (s.setStream k x).lines = s.lines := rfl
@[simp] theorem State.setStream_sup (s : State) (k : Nat) (x : Stream) : (s.setStream k x).sup = s.sup := rfl
@[simp] theorem State.setStream_host (s : State) (k : Nat) (x : Stream) : (s.setStream k x).host = s.host := rfl
@[simp] theorem State.setStream_ex (s : State) (k : Nat) (x : Stream) : (s.setStream k x).ex = s.ex := rfl
@[simp] theorem State.setStream_pa (s : State) (k : Nat) (x : Stream) : (s.setStream k x).pa = s.pa := rfl
@[simp] theorem State.setStream_safe (s : State) (k : Nat) (x : Stream) : (s.setStream k x).safe = s.safe := rfl
@[simp] theorem State.setStream_svc (s : State) (k : Nat) (x : Stream) : (s.setStream k x).svc = s.svc := rfl
@[simp] theorem State.setStream_mem (s : State) (k : Nat) (x : Stream) : (s.setStream k x).mem = s.mem := rfl
@[simp] theorem State.setStream_tb (s : State) (k : Nat) (x : Stream) : (s.setStream k x).tb = s.tb := rfl
@[simp] theorem State.setStream_ing (s : State) (k : Nat) (x : Stream) : (s.setStream k x).ing = s.ing := rfl
@[simp] theorem State.setStream_sp (s : State) (k : Nat) (x : Stream) : (s.setStream k x).sp = s.sp := rfl
@[simp] theorem State.setStream_ctl (s : State) (k : Nat) (x : Stream) : (s.setStream k x).ctl = s.ctl := rfl
@[simp] theorem State.setStream_truss (s : State) (k : Nat) (x : Stream) : (s.setStream k x).truss = s.truss := rfl
@[simp] theorem State.setStream_now (s : State) (k : Nat) (x : Stream) : (s.setStream k x).now = s.now := rfl
@[simp] theorem State.setStream_hostMem (s : State) (k : Nat) (x : Stream) : (s.setStream k x).hostMem = s.hostMem := rfl
@[simp] theorem State.setStream_drawn (s : State) (k : Nat) (x : Stream) : (s.setStream k x).drawn = s.drawn := rfl
@[simp] theorem State.setStream_pending (s : State) (k : Nat) (x : Stream) : (s.setStream k x).pending = s.pending := rfl
theorem State.setStream_get (s : State) (k : Nat) (x : Stream) (h : x ≠ Stream.rest) : (s.setStream k x).stream k = x :=
  Tab.get_set_self h
theorem State.setStream_other (s : State) (k : Nat) (x : Stream) {other : Nat} (h : other ≠ k) : (s.setStream k x).stream other = s.stream other :=
  Tab.get_set_other h

@[simp] theorem State.taken_fuses (s : State) (p : Packet) : (s.taken p).fuses = s.fuses := rfl
@[simp] theorem settle_fuses (s : State) : (settle s).fuses = s.fuses := rfl
@[simp] theorem State.taken_lines (s : State) (p : Packet) : (s.taken p).lines = s.lines := rfl
@[simp] theorem State.taken_sup (s : State) (p : Packet) : (s.taken p).sup = s.sup := rfl
@[simp] theorem settle_sup (s : State) : (settle s).sup = s.sup := rfl
@[simp] theorem State.taken_ex (s : State) (p : Packet) : (s.taken p).ex = s.ex := rfl
@[simp] theorem settle_ex (s : State) : (settle s).ex = s.ex := rfl
@[simp] theorem State.taken_pa (s : State) (p : Packet) : (s.taken p).pa = s.pa := rfl
@[simp] theorem settle_pa (s : State) : (settle s).pa = s.pa := rfl
@[simp] theorem State.taken_safe (s : State) (p : Packet) : (s.taken p).safe = s.safe := rfl
@[simp] theorem settle_safe (s : State) : (settle s).safe = s.safe := rfl
@[simp] theorem State.taken_svc (s : State) (p : Packet) : (s.taken p).svc = s.svc := rfl
@[simp] theorem settle_svc (s : State) : (settle s).svc = s.svc := rfl
@[simp] theorem State.taken_mem (s : State) (p : Packet) : (s.taken p).mem = s.mem := rfl
@[simp] theorem settle_mem (s : State) : (settle s).mem = s.mem := rfl
@[simp] theorem State.taken_ta (s : State) (p : Packet) : (s.taken p).ta = s.ta := rfl
@[simp] theorem settle_ta (s : State) : (settle s).ta = s.ta := rfl
@[simp] theorem State.taken_tb (s : State) (p : Packet) : (s.taken p).tb = s.tb := rfl
@[simp] theorem settle_tb (s : State) : (settle s).tb = s.tb := rfl
@[simp] theorem State.taken_ing (s : State) (p : Packet) : (s.taken p).ing = s.ing := rfl
@[simp] theorem settle_ing (s : State) : (settle s).ing = s.ing := rfl
@[simp] theorem State.taken_sp (s : State) (p : Packet) : (s.taken p).sp = s.sp := rfl
@[simp] theorem settle_sp (s : State) : (settle s).sp = s.sp := rfl
@[simp] theorem State.taken_ctl (s : State) (p : Packet) : (s.taken p).ctl = s.ctl := rfl
@[simp] theorem settle_ctl (s : State) : (settle s).ctl = s.ctl := rfl
@[simp] theorem State.taken_truss (s : State) (p : Packet) : (s.taken p).truss = s.truss := rfl
@[simp] theorem settle_truss (s : State) : (settle s).truss = s.truss := rfl
@[simp] theorem State.taken_now (s : State) (p : Packet) : (s.taken p).now = s.now := rfl
@[simp] theorem settle_now (s : State) : (settle s).now = s.now := rfl
@[simp] theorem State.taken_hostMem (s : State) (p : Packet) : (s.taken p).hostMem = s.hostMem := rfl
@[simp] theorem settle_hostMem (s : State) : (settle s).hostMem = s.hostMem := rfl
@[simp] theorem State.taken_drawn (s : State) (p : Packet) : (s.taken p).drawn = s.drawn := rfl
@[simp] theorem settle_drawn (s : State) : (settle s).drawn = s.drawn := rfl
@[simp] theorem State.taken_pending (s : State) (p : Packet) : (s.taken p).pending = s.pending := rfl
@[simp] theorem settle_pending (s : State) : (settle s).pending = s.pending := rfl
@[simp] theorem settle_host_ctxs (s : State) : (settle s).host.ctxs = s.host.ctxs := rfl
@[simp] theorem settle_host_taken (s : State) : (settle s).host.taken = s.host.taken := rfl
@[simp] theorem State.taken_host_fns (s : State) (p : Packet) : (s.taken p).host.fns = s.host.fns := rfl
@[simp] theorem settle_host_fns (s : State) : (settle s).host.fns = s.host.fns := rfl
@[simp] theorem State.taken_host_numVf (s : State) (p : Packet) : (s.taken p).host.numVf = s.host.numVf := rfl
@[simp] theorem settle_host_numVf (s : State) : (settle s).host.numVf = s.host.numVf := rfl
@[simp] theorem State.taken_host_cause (s : State) (p : Packet) : (s.taken p).host.cause = s.host.cause := rfl
@[simp] theorem settle_host_cause (s : State) : (settle s).host.cause = s.host.cause := rfl
@[simp] theorem State.taken_host_mask (s : State) (p : Packet) : (s.taken p).host.mask = s.host.mask := rfl
@[simp] theorem settle_host_mask (s : State) : (settle s).host.mask = s.host.mask := rfl
@[simp] theorem State.taken_host_log (s : State) (p : Packet) : (s.taken p).host.log = s.host.log := rfl
@[simp] theorem settle_host_log (s : State) : (settle s).host.log = s.host.log := rfl
@[simp] theorem State.taken_host_overflow (s : State) (p : Packet) : (s.taken p).host.overflow = s.host.overflow := rfl
@[simp] theorem settle_host_overflow (s : State) : (settle s).host.overflow = s.host.overflow := rfl
@[simp] theorem State.taken_host_attnLine (s : State) (p : Packet) : (s.taken p).host.attnLine = s.host.attnLine := rfl
@[simp] theorem State.taken_host_attnIrqs (s : State) (p : Packet) : (s.taken p).host.attnIrqs = s.host.attnIrqs := rfl
@[simp] theorem State.taken_host_linkUp (s : State) (p : Packet) : (s.taken p).host.linkUp = s.host.linkUp := rfl
@[simp] theorem settle_host_linkUp (s : State) : (settle s).host.linkUp = s.host.linkUp := rfl
@[simp] theorem State.taken_host_linkSpeed (s : State) (p : Packet) : (s.taken p).host.linkSpeed = s.host.linkSpeed := rfl
@[simp] theorem settle_host_linkSpeed (s : State) : (settle s).host.linkSpeed = s.host.linkSpeed := rfl
@[simp] theorem State.taken_host_linkWidth (s : State) (p : Packet) : (s.taken p).host.linkWidth = s.host.linkWidth := rfl
@[simp] theorem settle_host_linkWidth (s : State) : (settle s).host.linkWidth = s.host.linkWidth := rfl
@[simp] theorem State.taken_host_perst (s : State) (p : Packet) : (s.taken p).host.perst = s.host.perst := rfl
@[simp] theorem settle_host_perst (s : State) : (settle s).host.perst = s.host.perst := rfl
@[simp] theorem State.taken_host_hostRdy (s : State) (p : Packet) : (s.taken p).host.hostRdy = s.host.hostRdy := rfl
@[simp] theorem settle_host_hostRdy (s : State) : (settle s).host.hostRdy = s.host.hostRdy := rfl
@[simp] theorem State.taken_host_readData (s : State) (p : Packet) : (s.taken p).host.readData = s.host.readData := rfl
@[simp] theorem settle_host_readData (s : State) : (settle s).host.readData = s.host.readData := rfl
@[simp] theorem State.taken_host_latch (s : State) (p : Packet) : (s.taken p).host.latch = s.host.latch := rfl
@[simp] theorem settle_host_latch (s : State) : (settle s).host.latch = s.host.latch := rfl
@[simp] theorem State.taken_host_diagLatch (s : State) (p : Packet) : (s.taken p).host.diagLatch = s.host.diagLatch := rfl
@[simp] theorem settle_host_diagLatch (s : State) : (settle s).host.diagLatch = s.host.diagLatch := rfl
@[simp] theorem State.taken_host_hold (s : State) (p : Packet) : (s.taken p).host.hold = s.host.hold := rfl
@[simp] theorem settle_host_hold (s : State) : (settle s).host.hold = s.host.hold := rfl
@[simp] theorem settle_lines_run (s : State) : (settle s).lines.run = s.lines.run := rfl
@[simp] theorem settle_lines_safeCmd (s : State) : (settle s).lines.safeCmd = s.lines.safeCmd := rfl
@[simp] theorem settle_lines_safeAWrong (s : State) : (settle s).lines.safeAWrong = s.lines.safeAWrong := rfl
@[simp] theorem settle_lines_safeBWrong (s : State) : (settle s).lines.safeBWrong = s.lines.safeBWrong := rfl
@[simp] theorem settle_lines_tripA (s : State) : (settle s).lines.tripA = s.lines.tripA := rfl
@[simp] theorem settle_lines_tripB (s : State) : (settle s).lines.tripB = s.lines.tripB := rfl
@[simp] theorem settle_lines_wake (s : State) : (settle s).lines.wake = s.lines.wake := rfl
@[simp] theorem settle_lines_ppsSeen (s : State) : (settle s).lines.ppsSeen = s.lines.ppsSeen := rfl
@[simp] theorem settle_lines_vinGood (s : State) : (settle s).lines.vinGood = s.lines.vinGood := rfl
@[simp] theorem settle_lines_kaInRange (s : State) : (settle s).lines.kaInRange = s.lines.kaInRange := rfl
@[simp] theorem settle_lines_fault (s : State) : (settle s).lines.fault = s.lines.fault := rfl
@[simp] theorem settle_lines_mgmtAddr (s : State) : (settle s).lines.mgmtAddr = s.lines.mgmtAddr := rfl
@[simp] theorem settle_lines_trigLive (s : State) : (settle s).lines.trigLive = s.lines.trigLive := rfl
@[simp] theorem settle_lines_trigPulses (s : State) : (settle s).lines.trigPulses = s.lines.trigPulses := rfl
@[simp] theorem settle_lines_ppsOutEdges (s : State) : (settle s).lines.ppsOutEdges = s.lines.ppsOutEdges := rfl
@[simp] theorem settle_lines_lockdown (s : State) : (settle s).lines.lockdown = s.lines.lockdown := rfl
@[simp] theorem settle_lines_keystoneStopped (s : State) : (settle s).lines.keystoneStopped = s.lines.keystoneStopped := rfl
@[simp] theorem settle_lines_sideband (s : State) : (settle s).lines.sideband = s.lines.sideband := rfl
@[simp] theorem settle_lines_alertReplies (s : State) : (settle s).lines.alertReplies = s.lines.alertReplies := rfl
@[simp] theorem settle_loop (s : State) (k : Nat) : (settle s).loop k = s.loop k := rfl
@[simp] theorem settle_qp (s : State) (k : Nat) : (settle s).qp k = s.qp k := rfl
@[simp] theorem State.taken_signal (s : State) (p : Packet) (k : Nat) : (s.taken p).signal k = s.signal k := rfl
@[simp] theorem settle_signal (s : State) (k : Nat) : (settle s).signal k = s.signal k := rfl
@[simp] theorem settle_ffTable (s : State) (k : Nat) : (settle s).ffTable k = s.ffTable k := rfl
@[simp] theorem settle_traceCh (s : State) (k : Nat) : (settle s).traceCh k = s.traceCh k := rfl
@[simp] theorem State.taken_traj (s : State) (p : Packet) (k : Nat) : (s.taken p).traj k = s.traj k := rfl
@[simp] theorem settle_traj (s : State) (k : Nat) : (settle s).traj k = s.traj k := rfl
@[simp] theorem settle_flask (s : State) (f : Nat) : (settle s).flask f = s.flask f := rfl
@[simp] theorem settle_job (s : State) (j : Nat) : (settle s).job j = s.job j := rfl
@[simp] theorem settle_queue (s : State) (e q : Nat) : (settle s).queue e q = s.queue e q := rfl
@[simp] theorem settle_sync (s : State) (o : Nat) : (settle s).sync o = s.sync o := rfl
@[simp] theorem settle_fn (s : State) (f : Nat) : (settle s).fn f = s.fn f := rfl
@[simp] theorem settle_instream (s : State) (k : Nat) : (settle s).instream k = s.instream k := rfl
@[simp] theorem settle_tundish (s : State) (u : Nat) : (settle s).tundish u = s.tundish u := rfl
@[simp] theorem State.taken_moveCount (s : State) (p : Packet) (f : Nat) : (s.taken p).moveCount f = s.moveCount f := rfl
@[simp] theorem settle_moveCount (s : State) (f : Nat) : (settle s).moveCount f = s.moveCount f := rfl
@[simp] theorem settle_page (s : State) (k : Nat) : (settle s).page k = s.page k := rfl
@[simp] theorem State.taken_diePower (s : State) (p : Packet) (n : Nat) : (s.taken p).diePower n = s.diePower n := rfl
@[simp] theorem settle_diePower (s : State) (n : Nat) : (settle s).diePower n = s.diePower n := rfl
@[simp] theorem settle_flaskPower (s : State) (f : Nat) : (settle s).flaskPower f = s.flaskPower f := rfl
@[simp] theorem settle_c3 (s : State) (f : Nat) : (settle s).c3 f = s.c3 f := rfl
@[simp] theorem settle_rclass (s : State) (c : Nat) : (settle s).rclass c = s.rclass c := rfl
@[simp] theorem settle_lattice (s : State) (k : Nat) : (settle s).lattice k = s.lattice k := rfl
@[simp] theorem settle_planCount (s : State) (f : Nat) : (settle s).planCount f = s.planCount f := rfl
@[simp] theorem settle_projection (s : State) (k : Nat) : (settle s).projection k = s.projection k := rfl
@[simp] theorem settle_trackSet (s : State) (k : Nat) : (settle s).trackSet k = s.trackSet k := rfl
@[simp] theorem settle_die (s : State) (n : Nat) : (settle s).die n = s.die n := rfl
@[simp] theorem settle_comp (s : State) (k : Nat) : (settle s).comp k = s.comp k := rfl
@[simp] theorem settle_kvCount (s : State) (f : Nat) : (settle s).kvCount f = s.kvCount f := rfl
@[simp] theorem State.taken_group (s : State) (p : Packet) (g : Nat) : (s.taken p).group g = s.group g := rfl
@[simp] theorem settle_group (s : State) (g : Nat) : (settle s).group g = s.group g := rfl
@[simp] theorem settle_mapTable (s : State) (m : Nat) : (settle s).mapTable m = s.mapTable m := rfl
@[simp] theorem settle_seq (s : State) (q : Nat) : (settle s).seq q = s.seq q := rfl
@[simp] theorem settle_stream (s : State) (k : Nat) : (settle s).stream k = s.stream k := rfl
@[simp] theorem settle_port (s : State) (k : Nat) : (settle s).port k = s.port k := rfl
@[simp] theorem settle_source (s : State) (k : Nat) : (settle s).source k = s.source k := rfl
@[simp] theorem settle_trig (s : State) (n : Nat) : (settle s).trig n = s.trig n := rfl
@[simp] theorem settle_aperture (s : State) (k : Nat) : (settle s).aperture k = s.aperture k := rfl
@[simp] theorem settle_member (s : State) (m : Nat) : (settle s).member m = s.member m := rfl
@[simp] theorem settle_aePort (s : State) (k : Nat) : (settle s).aePort k = s.aePort k := rfl
@[simp] theorem settle_ctx (s : State) (c : Nat) : (settle s).ctx c = s.ctx c := rfl

end Sys2Proof.Machine
end

