-- ==== Sys2Proof/Laws/Take.lean ====
section
/-!
SUPPORT. What the take-up of an accepted packet answers: one lemma for each kind of answer of the opcode's own part.
-/

namespace Sys2Proof.Machine

theorem State.accepts.passes {s : State} {p : Packet} {op least : Nat} {pf : Bool} (h : s.accepts p op least pf) :
    s.passes p op least pf = true := by
  obtain ⟨h1, h2, h3⟩ := h
  rw [State.passes, h1, h2, h3]
  rfl

theorem takeUp_accepted {s : State} {p : Packet} {op least : Nat} {pf : Bool} {body : State → Ticket → Answer}
    (h : s.accepts p op least pf) :
    takeUp op least true pf p s body = giveAnswer p (s.ticketOf p op) (s.taken p) (body (s.taken p) (s.ticketOf p op)) := by
  obtain ⟨h1, h2, h3⟩ := h
  rw [takeUp, h1, h2, h3]
  rfl

theorem takeUp_waits {s : State} {p : Packet} {op least : Nat} {known pf : Bool} {body : State → Ticket → Answer}
    (h : s.host.hostRdy = false ∨ (s.ctx p.ring).mayTake (p.flags.getLsbD 0) = false) :
    takeUp op least known pf p s body = s := by
  rw [takeUp, if_pos]
  rcases h with h | h <;> rw [h]
  · rfl
  · cases s.host.hostRdy <;> rfl

theorem takeUp_refused {s : State} {p : Packet} {op least d : Nat} {known pf : Bool} {body : State → Ticket → Answer}
    (h1 : s.host.hostRdy = true) (h2 : (s.ctx p.ring).mayTake (p.flags.getLsbD 0) = true)
    (h3 : s.packetCheck p op known least pf = some d) :
    takeUp op least known pf p s body = refuseTaken p op d s := by
  rw [takeUp, h1, h2, h3]
  rfl

/-- `command` is `commandThen` with nothing after it. -/
theorem command_eq_then (op least : Nat) (pf : Bool) (p : Packet) (s : State) (body : State → Ticket → Answer) :
    command op least pf p s body = commandThen id op least pf p s body := by
  simp [command, commandThen]

theorem commandThen_waits {f : State → State} {s : State} {p : Packet} {op least : Nat} {pf : Bool}
    {body : State → Ticket → Answer}
    (h : s.host.hostRdy = false ∨ (s.ctx p.ring).mayTake (p.flags.getLsbD 0) = false) :
    commandThen f op least pf p s body = .next (settle s) := by
  have hp : s.passes p op least pf = false := by
    rcases h with h | h <;> rw [State.passes, h]
    · rfl
    · cases s.host.hostRdy <;> rfl
  simp only [commandThen, takeUp_waits h, hp, next]
  rfl

theorem commandThen_refused {f : State → State} {s : State} {p : Packet} {op least d : Nat} {pf : Bool}
    {body : State → Ticket → Answer}
    (h1 : s.host.hostRdy = true) (h2 : (s.ctx p.ring).mayTake (p.flags.getLsbD 0) = true)
    (h3 : s.packetCheck p op true least pf = some d) :
    commandThen f op least pf p s body = .next (settle (refuseTaken p op d s)) := by
  have hp : s.passes p op least pf = false := by simp [State.passes, h3]
  simp only [commandThen, takeUp_refused h1 h2 h3, hp, next]
  rfl

theorem then_done {f : State → State} {s s2 : State} {p : Packet} {op least c a b d : Nat} {pf : Bool} {ret : List Byte}
    {body : State → Ticket → Answer} (h : s.accepts p op least pf)
    (hb : body (s.taken p) (s.ticketOf p op) = .done s2 c b d ret) (ha : (if d = 0 then op / 256 else b) = a) :
    commandThen f op least pf p s body = .next (settle (f (replyTo p c a d ret s2))) := by
  subst ha
  rw [commandThen, next, takeUp_accepted h, hb, h.passes]
  rfl

theorem then_later {f : State → State} {s s2 : State} {p : Packet} {op least : Nat} {pf : Bool}
    {body : State → Ticket → Answer} (h : s.accepts p op least pf)
    (hb : body (s.taken p) (s.ticketOf p op) = .later s2) :
    commandThen f op least pf p s body = .next (settle (f (waitReply (s.ticketOf p op) s2))) := by
  rw [commandThen, next, takeUp_accepted h, hb, h.passes]
  rfl

theorem then_reject {f : State → State} {s : State} {p : Packet} {op least a d : Nat} {pf : Bool}
    {body : State → Ticket → Answer} (h : s.accepts p op least pf)
    (hb : body (s.taken p) (s.ticketOf p op) = .reject a d) :
    commandThen f op least pf p s body = .next (settle (f (replyTo p 3 a d [] (s.taken p)))) := by
  rw [commandThen, next, takeUp_accepted h, hb, h.passes]
  rfl

theorem command_done {s s2 : State} {p : Packet} {op least c a b d : Nat} {pf : Bool} {ret : List Byte}
    {body : State → Ticket → Answer} (h : s.accepts p op least pf)
    (hb : body (s.taken p) (s.ticketOf p op) = .done s2 c b d ret) (ha : (if d = 0 then op / 256 else b) = a) :
    command op least pf p s body = .next (answered p c a d ret s2) := by
  rw [command_eq_then, then_done h hb ha]
  rfl

theorem command_later {s s2 : State} {p : Packet} {op least : Nat} {pf : Bool} {body : State → Ticket → Answer}
    (h : s.accepts p op least pf) (hb : body (s.taken p) (s.ticketOf p op) = .later s2) :
    command op least pf p s body = .next (awaiting (s.ticketOf p op) s2) := by
  rw [command_eq_then, then_later h hb]
  rfl

theorem command_reject {s : State} {p : Packet} {op least a d : Nat} {pf : Bool} {body : State → Ticket → Answer}
    (h : s.accepts p op least pf) (hb : body (s.taken p) (s.ticketOf p op) = .reject a d) :
    command op least pf p s body = .next (answered p 3 a d [] (s.taken p)) := by
  rw [command_eq_then, then_reject h hb]
  rfl

end Sys2Proof.Machine
end

