-- ==== Sys2Proof/Laws/Taken.lean ====
section
/-!
SUPPORT. The take-up of a packet changes the host side only: every reading of the state that a command's own part makes reads
after the take-up what it read before.
-/

namespace Sys2Proof.Machine

@[simp] theorem State.taken_field_fuses (s : State) (p : Packet) : (s.taken p).fuses = s.fuses := rfl
@[simp] theorem State.taken_field_lines (s : State) (p : Packet) : (s.taken p).lines = s.lines := rfl
@[simp] theorem State.taken_field_sup (s : State) (p : Packet) : (s.taken p).sup = s.sup := rfl
@[simp] theorem State.taken_field_ex (s : State) (p : Packet) : (s.taken p).ex = s.ex := rfl
@[simp] theorem State.taken_field_pa (s : State) (p : Packet) : (s.taken p).pa = s.pa := rfl
@[simp] theorem State.taken_field_safe (s : State) (p : Packet) : (s.taken p).safe = s.safe := rfl
@[simp] theorem State.taken_field_svc (s : State) (p : Packet) : (s.taken p).svc = s.svc := rfl
@[simp] theorem State.taken_field_mem (s : State) (p : Packet) : (s.taken p).mem = s.mem := rfl
@[simp] theorem State.taken_field_ta (s : State) (p : Packet) : (s.taken p).ta = s.ta := rfl
@[simp] theorem State.taken_field_tb (s : State) (p : Packet) : (s.taken p).tb = s.tb := rfl
@[simp] theorem State.taken_field_ing (s : State) (p : Packet) : (s.taken p).ing = s.ing := rfl
@[simp] theorem State.taken_field_sp (s : State) (p : Packet) : (s.taken p).sp = s.sp := rfl
@[simp] theorem State.taken_field_ctl (s : State) (p : Packet) : (s.taken p).ctl = s.ctl := rfl
@[simp] theorem State.taken_field_truss (s : State) (p : Packet) : (s.taken p).truss = s.truss := rfl
@[simp] theorem State.taken_field_now (s : State) (p : Packet) : (s.taken p).now = s.now := rfl
@[simp] theorem State.taken_field_hostMem (s : State) (p : Packet) : (s.taken p).hostMem = s.hostMem := rfl
@[simp] theorem State.taken_field_drawn (s : State) (p : Packet) : (s.taken p).drawn = s.drawn := rfl
@[simp] theorem State.taken_field_pending (s : State) (p : Packet) : (s.taken p).pending = s.pending := rfl
@[simp] theorem State.taken_loopRecOk (s : State) (p : Packet) (a0 : Nat) (a1 : List Byte) :
    (s.taken p).loopRecOk a0 a1 = s.loopRecOk a0 a1 := rfl
@[simp] theorem State.taken_tableFor (s : State) (p : Packet) (a0 : Nat) (a1 : Nat) :
    (s.taken p).tableFor a0 a1 = s.tableFor a0 a1 := rfl
@[simp] theorem State.taken_mapOk (s : State) (p : Packet) (a0 : Bool) (a1 : List Byte) (a2 : List Byte) :
    (s.taken p).mapOk a0 a1 a2 = s.mapOk a0 a1 a2 := rfl
@[simp] theorem State.taken_txLets (s : State) (p : Packet) (a0 : FrameMap) :
    (s.taken p).txLets a0 = s.txLets a0 := rfl
@[simp] theorem State.taken_traceRead (s : State) (p : Packet) (a0 : TraceCh) :
    (s.taken p).traceRead a0 = s.traceRead a0 := rfl
@[simp] theorem State.taken_loopIn (s : State) (p : Packet) (a0 : LoopCh) (a1 : Nat) :
    (s.taken p).loopIn a0 a1 = s.loopIn a0 a1 := rfl
@[simp] theorem State.taken_loop (s : State) (p : Packet) (a0 : Nat) : (s.taken p).loop a0 = s.loop a0 := rfl
@[simp] theorem State.taken_ffTable (s : State) (p : Packet) (a0 : Nat) : (s.taken p).ffTable a0 = s.ffTable a0 := rfl
@[simp] theorem State.taken_traceCh (s : State) (p : Packet) (a0 : Nat) : (s.taken p).traceCh a0 = s.traceCh a0 := rfl
@[simp] theorem State.taken_qp (s : State) (p : Packet) (a0 : Nat) : (s.taken p).qp a0 = s.qp a0 := rfl
@[simp] theorem State.taken_port (s : State) (p : Packet) (a0 : Nat) : (s.taken p).port a0 = s.port a0 := rfl
@[simp] theorem State.taken_rateFits (s : State) (p : Packet) (a0 : Nat) (a1 : Nat) (a2 : Nat) :
    (s.taken p).rateFits a0 a1 a2 = s.rateFits a0 a1 a2 := rfl
@[simp] theorem State.taken_loopWord (s : State) (p : Packet) (a0 : Nat) (a1 : Nat) :
    (s.taken p).loopWord a0 a1 = s.loopWord a0 a1 := rfl
@[simp] theorem State.taken_solverUsed (s : State) (p : Packet) : (s.taken p).solverUsed = s.solverUsed := rfl
@[simp] theorem State.taken_qpWord (s : State) (p : Packet) (a0 : Nat) (a1 : Nat) :
    (s.taken p).qpWord a0 a1 = s.qpWord a0 a1 := rfl
@[simp] theorem State.taken_streamState (s : State) (p : Packet) (a0 : Nat) (a1 : Bool) :
    (s.taken p).streamState a0 a1 = s.streamState a0 a1 := rfl
@[simp] theorem State.taken_streamFor (s : State) (p : Packet) (a0 : PourRun) (a1 : Nat) (a2 : Nat) (a3 : Nat) :
    (s.taken p).streamFor a0 a1 a2 a3 = s.streamFor a0 a1 a2 a3 := rfl
@[simp] theorem State.taken_inSeries (s : State) (p : Packet) (a0 : Nat) :
    (s.taken p).inSeries a0 = s.inSeries a0 := rfl
@[simp] theorem State.taken_anySeries (s : State) (p : Packet) (a0 : Nat) :
    (s.taken p).anySeries a0 = s.anySeries a0 := rfl
@[simp] theorem State.taken_bankSeries (s : State) (p : Packet) : (s.taken p).bankSeries = s.bankSeries := rfl
@[simp] theorem State.taken_c3Dies (s : State) (p : Packet) : (s.taken p).c3Dies = s.c3Dies := rfl
@[simp] theorem State.taken_reservations (s : State) (p : Packet) : (s.taken p).reservations = s.reservations := rfl
@[simp] theorem State.taken_homeDie (s : State) (p : Packet) (a0 : Nat) : (s.taken p).homeDie a0 = s.homeDie a0 := rfl
@[simp] theorem State.taken_syncNamed (s : State) (p : Packet) (a0 : Nat) :
    (s.taken p).syncNamed a0 = s.syncNamed a0 := rfl
@[simp] theorem State.taken_allowanceOf (s : State) (p : Packet) (a0 : Nat) :
    (s.taken p).allowanceOf a0 = s.allowanceOf a0 := rfl
@[simp] theorem State.taken_ctxBusy (s : State) (p : Packet) (a0 : Nat) : (s.taken p).ctxBusy a0 = s.ctxBusy a0 := rfl
@[simp] theorem State.taken_barServed (s : State) (p : Packet) (a0 : Nat) :
    (s.taken p).barServed a0 = s.barServed a0 := rfl
@[simp] theorem State.taken_anchorOf (s : State) (p : Packet) (a0 : Nat) :
    (s.taken p).anchorOf a0 = s.anchorOf a0 := rfl
@[simp] theorem State.taken_camera (s : State) (p : Packet) (a0 : Nat) : (s.taken p).camera a0 = s.camera a0 := rfl
@[simp] theorem State.taken_takeSlot (s : State) (p : Packet) (a0 : Nat) (a1 : Nat) (a2 : Bool) :
    (s.taken p).takeSlot a0 a1 a2 = s.takeSlot a0 a1 a2 := rfl
@[simp] theorem State.taken_perSecond (s : State) (p : Packet) (a0 : Nat) (a1 : Nat) :
    (s.taken p).perSecond a0 a1 = s.perSecond a0 a1 := rfl
@[simp] theorem State.taken_rateBroken (s : State) (p : Packet) (a0 : Nat) (a1 : CamRec) (a2 : Bool) :
    (s.taken p).rateBroken a0 a1 a2 = s.rateBroken a0 a1 a2 := rfl
@[simp] theorem State.taken_tundishNamed (s : State) (p : Packet) (a0 : Nat) :
    (s.taken p).tundishNamed a0 = s.tundishNamed a0 := rfl
@[simp] theorem State.taken_instream (s : State) (p : Packet) (a0 : Nat) :
    (s.taken p).instream a0 = s.instream a0 := rfl
@[simp] theorem State.taken_tundish (s : State) (p : Packet) (a0 : Nat) : (s.taken p).tundish a0 = s.tundish a0 := rfl
@[simp] theorem State.taken_session (s : State) (p : Packet) (a0 : Nat) (a1 : Nat) :
    (s.taken p).session a0 a1 = s.session a0 a1 := rfl
@[simp] theorem State.taken_membersOf (s : State) (p : Packet) (a0 : Nat) :
    (s.taken p).membersOf a0 = s.membersOf a0 := rfl
@[simp] theorem State.taken_streamWord (s : State) (p : Packet) (a0 : Nat) (a1 : Nat) :
    (s.taken p).streamWord a0 a1 = s.streamWord a0 a1 := rfl
@[simp] theorem State.taken_tundishWord (s : State) (p : Packet) (a0 : Nat) (a1 : Nat) :
    (s.taken p).tundishWord a0 a1 = s.tundishWord a0 a1 := rfl
@[simp] theorem State.taken_place (s : State) (p : Packet) (a0 : Nat) : (s.taken p).place a0 = s.place a0 := rfl
@[simp] theorem State.taken_fits (s : State) (p : Packet) (a0 : Nat) : (s.taken p).fits a0 = s.fits a0 := rfl
@[simp] theorem State.taken_readyJobs (s : State) (p : Packet) (a0 : Nat) :
    (s.taken p).readyJobs a0 = s.readyJobs a0 := rfl
@[simp] theorem State.taken_waitsMet (s : State) (p : Packet) (a0 : PourRun) (a1 : Entry) :
    (s.taken p).waitsMet a0 a1 = s.waitsMet a0 a1 := rfl
@[simp] theorem State.taken_waitAbandoned (s : State) (p : Packet) (a0 : Entry) :
    (s.taken p).waitAbandoned a0 = s.waitAbandoned a0 := rfl
@[simp] theorem State.taken_mayIssue (s : State) (p : Packet) (a0 : PourRun) :
    (s.taken p).mayIssue a0 = s.mayIssue a0 := rfl
@[simp] theorem State.taken_sourceOut (s : State) (p : Packet) (a0 : Nat) (a1 : PourRun) :
    (s.taken p).sourceOut a0 a1 = s.sourceOut a0 a1 := rfl
@[simp] theorem State.taken_entryOut (s : State) (p : Packet) (a0 : PourRun) (a1 : Nat) (a2 : Entry) :
    (s.taken p).entryOut a0 a1 a2 = s.entryOut a0 a1 a2 := rfl
@[simp] theorem State.taken_entryHeld (s : State) (p : Packet) (a0 : PourRun) (a1 : Nat) :
    (s.taken p).entryHeld a0 a1 = s.entryHeld a0 a1 := rfl
@[simp] theorem State.taken_takeWaits (s : State) (p : Packet) (a0 : Nat) (a1 : Nat) :
    (s.taken p).takeWaits a0 a1 = s.takeWaits a0 a1 := rfl
@[simp] theorem State.taken_entryInFlight (s : State) (p : Packet) (a0 : Nat) (a1 : Nat) :
    (s.taken p).entryInFlight a0 a1 = s.entryInFlight a0 a1 := rfl
@[simp] theorem State.taken_tokenHeld (s : State) (p : Packet) (a0 : Nat) (a1 : Step) :
    (s.taken p).tokenHeld a0 a1 = s.tokenHeld a0 a1 := rfl
@[simp] theorem State.taken_isNextStep (s : State) (p : Packet) (a0 : Nat) (a1 : Nat) (a2 : Step) :
    (s.taken p).isNextStep a0 a1 a2 = s.isNextStep a0 a1 a2 := rfl
@[simp] theorem State.taken_lenRows (s : State) (p : Packet) (a0 : Nat) (a1 : Nat) :
    (s.taken p).lenRows a0 a1 = s.lenRows a0 a1 := rfl
@[simp] theorem State.taken_lenTableBad (s : State) (p : Packet) (a0 : Nat) (a1 : Nat) (a2 : Nat) (a3 : Nat) (a4 : Nat) :
    (s.taken p).lenTableBad a0 a1 a2 a3 a4 = s.lenTableBad a0 a1 a2 a3 a4 := rfl
@[simp] theorem State.taken_rowMayOpen (s : State) (p : Packet) (a0 : Nat) (a1 : LenRow) :
    (s.taken p).rowMayOpen a0 a1 = s.rowMayOpen a0 a1 := rfl
@[simp] theorem State.taken_theta (s : State) (p : Packet) (a0 : Nat) (a1 : Nat) (a2 : Nat) :
    (s.taken p).theta a0 a1 a2 = s.theta a0 a1 a2 := rfl
@[simp] theorem State.taken_rowHeld (s : State) (p : Packet) (a0 : Nat) (a1 : LenRow) :
    (s.taken p).rowHeld a0 a1 = s.rowHeld a0 a1 := rfl
@[simp] theorem State.taken_spilledGroups (s : State) (p : Packet) (a0 : List LenRow) :
    (s.taken p).spilledGroups a0 = s.spilledGroups a0 := rfl
@[simp] theorem State.taken_layerPage (s : State) (p : Packet) (a0 : Nat) (a1 : Nat) :
    (s.taken p).layerPage a0 a1 = s.layerPage a0 a1 := rfl
@[simp] theorem State.taken_rowHeader (s : State) (p : Packet) (a0 : PourRun) (a1 : Nat) (a2 : Entry) (a3 : Nat) (a4 : LenRow) :
    (s.taken p).rowHeader a0 a1 a2 a3 a4 = s.rowHeader a0 a1 a2 a3 a4 := rfl
@[simp] theorem State.taken_groupsIn (s : State) (p : Packet) (a0 : Nat) (a1 : Nat) :
    (s.taken p).groupsIn a0 a1 = s.groupsIn a0 a1 := rfl
@[simp] theorem State.taken_freeRun (s : State) (p : Packet) (a0 : Nat) : (s.taken p).freeRun a0 = s.freeRun a0 := rfl
@[simp] theorem State.taken_familyGroups (s : State) (p : Packet) (a0 : Nat) :
    (s.taken p).familyGroups a0 = s.familyGroups a0 := rfl
@[simp] theorem State.taken_seq (s : State) (p : Packet) (a0 : Nat) : (s.taken p).seq a0 = s.seq a0 := rfl
@[simp] theorem State.taken_kvCount (s : State) (p : Packet) (a0 : Nat) : (s.taken p).kvCount a0 = s.kvCount a0 := rfl
@[simp] theorem State.taken_members (s : State) (p : Packet) (a0 : Nat) : (s.taken p).members a0 = s.members a0 := rfl
@[simp] theorem State.taken_families (s : State) (p : Packet) : (s.taken p).families = s.families := rfl
@[simp] theorem State.taken_refs (s : State) (p : Packet) (a0 : Nat) : (s.taken p).refs a0 = s.refs a0 := rfl
@[simp] theorem State.taken_forkPending (s : State) (p : Packet) (a0 : Nat) (a1 : Nat) :
    (s.taken p).forkPending a0 a1 = s.forkPending a0 a1 := rfl
@[simp] theorem State.taken_forkNames (s : State) (p : Packet) (a0 : Nat) :
    (s.taken p).forkNames a0 = s.forkNames a0 := rfl
@[simp] theorem State.taken_pourValid (s : State) (p : Packet) (a0 : Nat) (a1 : Pour) :
    (s.taken p).pourValid a0 a1 = s.pourValid a0 a1 := rfl
@[simp] theorem State.taken_engineGone (s : State) (p : Packet) (a0 : Nat) :
    (s.taken p).engineGone a0 = s.engineGone a0 := rfl
@[simp] theorem State.taken_position (s : State) (p : Packet) : (s.taken p).position = s.position := rfl
@[simp] theorem State.taken_takenVa (s : State) (p : Packet) (a0 : Nat) : (s.taken p).takenVa a0 = s.takenVa a0 := rfl
@[simp] theorem State.taken_senderFlask (s : State) (p : Packet) (a0 : Ticket) :
    (s.taken p).senderFlask a0 = s.senderFlask a0 := rfl
@[simp] theorem State.taken_pacedMaps (s : State) (p : Packet) (a0 : List Nat) :
    (s.taken p).pacedMaps a0 = s.pacedMaps a0 := rfl
@[simp] theorem State.taken_memSource (s : State) (p : Packet) (a0 : Nat) :
    (s.taken p).memSource a0 = s.memSource a0 := rfl
@[simp] theorem State.taken_mayEvacuate (s : State) (p : Packet) (a0 : Nat) :
    (s.taken p).mayEvacuate a0 = s.mayEvacuate a0 := rfl
@[simp] theorem State.taken_entryOf (s : State) (p : Packet) (a0 : Nat) (a1 : Nat) (a2 : Nat) (a3 : Nat) :
    (s.taken p).entryOf a0 a1 a2 a3 = s.entryOf a0 a1 a2 a3 := rfl
@[simp] theorem State.taken_holderOf (s : State) (p : Packet) (a0 : Nat) (a1 : Nat) :
    (s.taken p).holderOf a0 a1 = s.holderOf a0 a1 := rfl
@[simp] theorem State.taken_page (s : State) (p : Packet) (a0 : Nat) : (s.taken p).page a0 = s.page a0 := rfl
@[simp] theorem State.taken_allocFrames (s : State) (p : Packet) (a0 : Nat) (a1 : Nat) (a2 : Nat) (a3 : Bool) (a4 : Bool) (a5 : Nat) :
    (s.taken p).allocFrames a0 a1 a2 a3 a4 a5 = s.allocFrames a0 a1 a2 a3 a4 a5 := rfl
@[simp] theorem State.taken_uncleared (s : State) (p : Packet) (a0 : List Nat) (a1 : Bool) :
    (s.taken p).uncleared a0 a1 = s.uncleared a0 a1 := rfl
@[simp] theorem State.taken_mapAt (s : State) (p : Packet) (a0 : Nat) (a1 : Nat) :
    (s.taken p).mapAt a0 a1 = s.mapAt a0 a1 := rfl
@[simp] theorem State.taken_rangeUsed (s : State) (p : Packet) (a0 : Nat) (a1 : Nat) (a2 : Nat) :
    (s.taken p).rangeUsed a0 a1 a2 = s.rangeUsed a0 a1 a2 := rfl
@[simp] theorem State.taken_xlatUsed (s : State) (p : Packet) : (s.taken p).xlatUsed = s.xlatUsed := rfl
@[simp] theorem State.taken_charge (s : State) (p : Packet) (a0 : Nat) (a1 : Nat) :
    (s.taken p).charge a0 a1 = s.charge a0 a1 := rfl
@[simp] theorem State.taken_pinCharge (s : State) (p : Packet) (a0 : Nat) (a1 : Nat) :
    (s.taken p).pinCharge a0 a1 = s.pinCharge a0 a1 := rfl
@[simp] theorem State.taken_quotaOf (s : State) (p : Packet) (a0 : Nat) (a1 : Nat) :
    (s.taken p).quotaOf a0 a1 = s.quotaOf a0 a1 := rfl
@[simp] theorem State.taken_pinQuotaOf (s : State) (p : Packet) (a0 : Nat) (a1 : Nat) :
    (s.taken p).pinQuotaOf a0 a1 = s.pinQuotaOf a0 a1 := rfl
@[simp] theorem State.taken_roomFor (s : State) (p : Packet) (a0 : Nat) (a1 : Nat) (a2 : Nat) (a3 : Nat) :
    (s.taken p).roomFor a0 a1 a2 a3 = s.roomFor a0 a1 a2 a3 := rfl
@[simp] theorem State.taken_pinRoom (s : State) (p : Packet) (a0 : Nat) (a1 : Nat) (a2 : Nat) :
    (s.taken p).pinRoom a0 a1 a2 = s.pinRoom a0 a1 a2 := rfl
@[simp] theorem State.taken_capacity (s : State) (p : Packet) (a0 : Nat) :
    (s.taken p).capacity a0 = s.capacity a0 := rfl
@[simp] theorem State.taken_quotaSum (s : State) (p : Packet) (a0 : Nat) :
    (s.taken p).quotaSum a0 = s.quotaSum a0 := rfl
@[simp] theorem State.taken_vbyte (s : State) (p : Packet) (a0 : Nat) (a1 : Nat) :
    (s.taken p).vbyte a0 a1 = s.vbyte a0 a1 := rfl
@[simp] theorem State.taken_entryMoving (s : State) (p : Packet) (a0 : Nat) (a1 : Nat) (a2 : Nat) :
    (s.taken p).entryMoving a0 a1 a2 = s.entryMoving a0 a1 a2 := rfl
@[simp] theorem State.taken_toRelocate (s : State) (p : Packet) : (s.taken p).toRelocate = s.toRelocate := rfl
@[simp] theorem State.taken_pte (s : State) (p : Packet) (a0 : Mapping) (a1 : Nat) :
    (s.taken p).pte a0 a1 = s.pte a0 a1 := rfl
@[simp] theorem State.taken_fn (s : State) (p : Packet) (a0 : Nat) : (s.taken p).fn a0 = s.fn a0 := rfl
@[simp] theorem State.taken_die (s : State) (p : Packet) (a0 : Nat) : (s.taken p).die a0 = s.die a0 := rfl
@[simp] theorem State.taken_flask (s : State) (p : Packet) (a0 : Nat) : (s.taken p).flask a0 = s.flask a0 := rfl
@[simp] theorem State.taken_job (s : State) (p : Packet) (a0 : Nat) : (s.taken p).job a0 = s.job a0 := rfl
@[simp] theorem State.taken_sync (s : State) (p : Packet) (a0 : Nat) : (s.taken p).sync a0 = s.sync a0 := rfl
@[simp] theorem State.taken_queue (s : State) (p : Packet) (a0 : Nat) (a1 : Nat) :
    (s.taken p).queue a0 a1 = s.queue a0 a1 := rfl
@[simp] theorem State.taken_flaskPower (s : State) (p : Packet) (a0 : Nat) :
    (s.taken p).flaskPower a0 = s.flaskPower a0 := rfl
@[simp] theorem State.taken_c3 (s : State) (p : Packet) (a0 : Nat) : (s.taken p).c3 a0 = s.c3 a0 := rfl
@[simp] theorem State.taken_rclass (s : State) (p : Packet) (a0 : Nat) : (s.taken p).rclass a0 = s.rclass a0 := rfl
@[simp] theorem State.taken_comp (s : State) (p : Packet) (a0 : Nat) : (s.taken p).comp a0 = s.comp a0 := rfl
@[simp] theorem State.taken_causeWord (s : State) (p : Packet) : (s.taken p).causeWord = s.causeWord := rfl
@[simp] theorem State.taken_isRetired (s : State) (p : Packet) (a0 : Nat) (a1 : Nat) (a2 : Nat) :
    (s.taken p).isRetired a0 a1 a2 = s.isRetired a0 a1 a2 := rfl
@[simp] theorem State.taken_affected (s : State) (p : Packet) (a0 : Mode) :
    (s.taken p).affected a0 = s.affected a0 := rfl
@[simp] theorem State.taken_modeRefused (s : State) (p : Packet) (a0 : Mode) :
    (s.taken p).modeRefused a0 = s.modeRefused a0 := rfl
@[simp] theorem State.taken_reachable (s : State) (p : Packet) (a0 : Nat) :
    (s.taken p).reachable a0 = s.reachable a0 := rfl
@[simp] theorem State.taken_claimUnits (s : State) (p : Packet) (a0 : Nat) (a1 : Nat) (a2 : Bool) (a3 : List Nat) :
    (s.taken p).claimUnits a0 a1 a2 a3 = s.claimUnits a0 a1 a2 a3 := rfl
@[simp] theorem State.taken_raiseFits (s : State) (p : Packet) (a0 : Nat) (a1 : Nat) (a2 : Option Nat) (a3 : List Nat) :
    (s.taken p).raiseFits a0 a1 a2 a3 = s.raiseFits a0 a1 a2 a3 := rfl
@[simp] theorem State.taken_diagServed (s : State) (p : Packet) (a0 : List Byte) (a1 : Nat) :
    (s.taken p).diagServed a0 a1 = s.diagServed a0 a1 := rfl
@[simp] theorem State.taken_diagMayWrite (s : State) (p : Packet) : (s.taken p).diagMayWrite = s.diagMayWrite := rfl
@[simp] theorem State.taken_forkRow (s : State) (p : Packet) (a0 : Nat) (a1 : Nat) (a2 : Nat) :
    (s.taken p).forkRow a0 a1 a2 = s.forkRow a0 a1 a2 := rfl
@[simp] theorem State.taken_mapTable (s : State) (p : Packet) (a0 : Nat) :
    (s.taken p).mapTable a0 = s.mapTable a0 := rfl
@[simp] theorem State.taken_w4Bytes (s : State) (p : Packet) (a0 : Nat) (a1 : Entry) (a2 : TDesc) (a3 : Nat) (a4 : Nat) :
    (s.taken p).w4Bytes a0 a1 a2 a3 a4 = s.w4Bytes a0 a1 a2 a3 a4 := rfl
@[simp] theorem State.taken_columnExps (s : State) (p : Packet) (a0 : Nat) (a1 : Entry) (a2 : TDesc) (a3 : Nat) (a4 : Nat) :
    (s.taken p).columnExps a0 a1 a2 a3 a4 = s.columnExps a0 a1 a2 a3 a4 := rfl
@[simp] theorem State.taken_storedMasters (s : State) (p : Packet) (a0 : Nat) (a1 : Entry) (a2 : TDesc) (a3 : Nat) (a4 : Nat) :
    (s.taken p).storedMasters a0 a1 a2 a3 a4 = s.storedMasters a0 a1 a2 a3 a4 := rfl
@[simp] theorem State.taken_outMode (s : State) (p : Packet) : (s.taken p).outMode = s.outMode := rfl
@[simp] theorem State.taken_ownerCopy (s : State) (p : Packet) (a0 : Nat) :
    (s.taken p).ownerCopy a0 = s.ownerCopy a0 := rfl
@[simp] theorem State.taken_halfSite (s : State) (p : Packet) (a0 : Nat) (a1 : Nat) (a2 : Step) :
    (s.taken p).halfSite a0 a1 a2 = s.halfSite a0 a1 a2 := rfl
@[simp] theorem State.taken_imageFails (s : State) (p : Packet) (a0 : FwImage) :
    (s.taken p).imageFails a0 = s.imageFails a0 := rfl
@[simp] theorem State.taken_bankFlasks (s : State) (p : Packet) (a0 : Nat) :
    (s.taken p).bankFlasks a0 = s.bankFlasks a0 := rfl
@[simp] theorem State.taken_bankLocked (s : State) (p : Packet) (a0 : Nat) :
    (s.taken p).bankLocked a0 = s.bankLocked a0 := rfl
@[simp] theorem State.taken_swapReady (s : State) (p : Packet) (a0 : Reload) :
    (s.taken p).swapReady a0 = s.swapReady a0 := rfl
@[simp] theorem State.taken_reloadCleared (s : State) (p : Packet) (a0 : Reload) :
    (s.taken p).reloadCleared a0 = s.reloadCleared a0 := rfl
@[simp] theorem State.taken_canCarryWithout (s : State) (p : Packet) (a0 : Nat) :
    (s.taken p).canCarryWithout a0 = s.canCarryWithout a0 := rfl
@[simp] theorem State.taken_jobsOf (s : State) (p : Packet) (a0 : Nat) : (s.taken p).jobsOf a0 = s.jobsOf a0 := rfl
@[simp] theorem State.taken_jobsOfCtx (s : State) (p : Packet) (a0 : Nat) :
    (s.taken p).jobsOfCtx a0 = s.jobsOfCtx a0 := rfl
@[simp] theorem State.taken_flaskOfCtx (s : State) (p : Packet) (a0 : Nat) :
    (s.taken p).flaskOfCtx a0 = s.flaskOfCtx a0 := rfl
@[simp] theorem State.taken_dieEmpty (s : State) (p : Packet) (a0 : Nat) :
    (s.taken p).dieEmpty a0 = s.dieEmpty a0 := rfl
@[simp] theorem State.taken_nextFifty (s : State) (p : Packet) : (s.taken p).nextFifty = s.nextFifty := rfl
@[simp] theorem State.taken_nextEdge (s : State) (p : Packet) : (s.taken p).nextEdge = s.nextEdge := rfl
@[simp] theorem State.taken_atParting (s : State) (p : Packet) (a0 : Nat) :
    (s.taken p).atParting a0 = s.atParting a0 := rfl
@[simp] theorem State.taken_tablesToBuild (s : State) (p : Packet) (a0 : Nat) (a1 : Nat) (a2 : Nat) (a3 : Bool) :
    (s.taken p).tablesToBuild a0 a1 a2 a3 = s.tablesToBuild a0 a1 a2 a3 := rfl
@[simp] theorem State.taken_objectNamed (s : State) (p : Packet) (a0 : Nat) (a1 : Nat) :
    (s.taken p).objectNamed a0 a1 = s.objectNamed a0 a1 := rfl
@[simp] theorem State.taken_entryOnce (s : State) (p : Packet) (a0 : Nat) (a1 : Nat) (a2 : Nat) (a3 : Nat) :
    (s.taken p).entryOnce a0 a1 a2 a3 = s.entryOnce a0 a1 a2 a3 := rfl
@[simp] theorem State.taken_timedPoints (s : State) (p : Packet) (a0 : Nat) (a1 : Nat) (a2 : Nat) (a3 : Int) :
    (s.taken p).timedPoints a0 a1 a2 a3 = s.timedPoints a0 a1 a2 a3 := rfl
@[simp] theorem State.taken_memberTime (s : State) (p : Packet) (a0 : Nat) (a1 : Nat) (a2 : Nat) (a3 : Nat) :
    (s.taken p).memberTime a0 a1 a2 a3 = s.memberTime a0 a1 a2 a3 := rfl
@[simp] theorem State.taken_costCube (s : State) (p : Packet) (a0 : PourRun) (a1 : Entry) (a2 : CostRec) :
    (s.taken p).costCube a0 a1 a2 = s.costCube a0 a1 a2 := rfl
@[simp] theorem State.taken_regionPoints (s : State) (p : Packet) (a0 : Nat) (a1 : Nat) :
    (s.taken p).regionPoints a0 a1 = s.regionPoints a0 a1 := rfl
@[simp] theorem State.taken_planSearch (s : State) (p : Packet) (a0 : PourRun) (a1 : Entry) (a2 : PlanRec) (a3 : LatticeImg) (a4 : Nat) :
    (s.taken p).planSearch a0 a1 a2 a3 a4 = s.planSearch a0 a1 a2 a3 a4 := rfl
@[simp] theorem State.taken_projection (s : State) (p : Packet) (a0 : Nat) :
    (s.taken p).projection a0 = s.projection a0 := rfl
@[simp] theorem State.taken_trackSet (s : State) (p : Packet) (a0 : Nat) :
    (s.taken p).trackSet a0 = s.trackSet a0 := rfl
@[simp] theorem State.taken_lattice (s : State) (p : Packet) (a0 : Nat) : (s.taken p).lattice a0 = s.lattice a0 := rfl
@[simp] theorem State.taken_planCount (s : State) (p : Packet) (a0 : Nat) :
    (s.taken p).planCount a0 = s.planCount a0 := rfl
@[simp] theorem State.taken_cal (s : State) (p : Packet) (a0 : Nat) (a1 : Nat) :
    (s.taken p).cal a0 a1 = s.cal a0 a1 := rfl
@[simp] theorem State.taken_calOf (s : State) (p : Packet) (a0 : Nat) : (s.taken p).calOf a0 = s.calOf a0 := rfl
@[simp] theorem State.taken_calInUse (s : State) (p : Packet) (a0 : Nat) :
    (s.taken p).calInUse a0 = s.calInUse a0 := rfl
@[simp] theorem State.taken_calBuilt (s : State) (p : Packet) (a0 : Nat) :
    (s.taken p).calBuilt a0 = s.calBuilt a0 := rfl
@[simp] theorem State.taken_calBytes (s : State) (p : Packet) (a0 : Nat) :
    (s.taken p).calBytes a0 = s.calBytes a0 := rfl
@[simp] theorem State.taken_tracksReserved (s : State) (p : Packet) :
    (s.taken p).tracksReserved = s.tracksReserved := rfl
@[simp] theorem State.taken_spatialWord (s : State) (p : Packet) (a0 : Nat) :
    (s.taken p).spatialWord a0 = s.spatialWord a0 := rfl
@[simp] theorem State.taken_trackSetWord (s : State) (p : Packet) (a0 : Nat) (a1 : Nat) :
    (s.taken p).trackSetWord a0 a1 = s.trackSetWord a0 a1 := rfl
@[simp] theorem State.taken_planWord (s : State) (p : Packet) (a0 : Nat) (a1 : Nat) :
    (s.taken p).planWord a0 a1 = s.planWord a0 a1 := rfl
@[simp] theorem State.taken_ego (s : State) (p : Packet) : (s.taken p).ego = s.ego := rfl
@[simp] theorem State.taken_poseAt (s : State) (p : Packet) (a0 : Nat) : (s.taken p).poseAt a0 = s.poseAt a0 := rfl
@[simp] theorem State.taken_digestFor (s : State) (p : Packet) (a0 : Option Nat) :
    (s.taken p).digestFor a0 = s.digestFor a0 := rfl
@[simp] theorem State.taken_driftDecl (s : State) (p : Packet) (a0 : Nat) (a1 : Nat) :
    (s.taken p).driftDecl a0 a1 = s.driftDecl a0 a1 := rfl
@[simp] theorem State.taken_drift (s : State) (p : Packet) (a0 : Nat) (a1 : Nat) :
    (s.taken p).drift a0 a1 = s.drift a0 a1 := rfl
@[simp] theorem State.taken_stream (s : State) (p : Packet) (a0 : Nat) : (s.taken p).stream a0 = s.stream a0 := rfl
@[simp] theorem State.taken_streamOf (s : State) (p : Packet) (a0 : Nat) (a1 : Nat) :
    (s.taken p).streamOf a0 a1 = s.streamOf a0 a1 := rfl
@[simp] theorem State.taken_capsule (s : State) (p : Packet) (a0 : Nat) : (s.taken p).capsule a0 = s.capsule a0 := rfl
@[simp] theorem State.taken_isFused (s : State) (p : Packet) (a0 : Nat) (a1 : Nat) :
    (s.taken p).isFused a0 a1 = s.isFused a0 a1 := rfl
@[simp] theorem State.taken_keystoneRestarting (s : State) (p : Packet) :
    (s.taken p).keystoneRestarting = s.keystoneRestarting := rfl
@[simp] theorem State.taken_dieIdle (s : State) (p : Packet) (a0 : Nat) : (s.taken p).dieIdle a0 = s.dieIdle a0 := rfl
@[simp] theorem State.taken_pfServed (s : State) (p : Packet) : (s.taken p).pfServed = s.pfServed := rfl
@[simp] theorem State.taken_sidebandLive (s : State) (p : Packet) : (s.taken p).sidebandLive = s.sidebandLive := rfl
@[simp] theorem State.taken_arrayEntry (s : State) (p : Packet) (a0 : Nat) (a1 : Nat) (a2 : Nat) :
    (s.taken p).arrayEntry a0 a1 a2 = s.arrayEntry a0 a1 a2 := rfl
@[simp] theorem State.taken_arrayOnce (s : State) (p : Packet) (a0 : Nat) (a1 : Nat) (a2 : Nat) :
    (s.taken p).arrayOnce a0 a1 a2 = s.arrayOnce a0 a1 a2 := rfl
@[simp] theorem State.taken_impossible (s : State) (p : Packet) (a0 : DateTime) :
    (s.taken p).impossible a0 = s.impossible a0 := rfl
@[simp] theorem State.taken_taiOf (s : State) (p : Packet) (a0 : DateTime) : (s.taken p).taiOf a0 = s.taiOf a0 := rfl
@[simp] theorem State.taken_leapEnd (s : State) (p : Packet) : (s.taken p).leapEnd = s.leapEnd := rfl
@[simp] theorem State.taken_source (s : State) (p : Packet) (a0 : Nat) : (s.taken p).source a0 = s.source a0 := rfl
@[simp] theorem State.taken_tbErr (s : State) (p : Packet) : (s.taken p).tbErr = s.tbErr := rfl
@[simp] theorem State.taken_traceable (s : State) (p : Packet) : (s.taken p).traceable = s.traceable := rfl
@[simp] theorem State.taken_pacedActive (s : State) (p : Packet) : (s.taken p).pacedActive = s.pacedActive := rfl
@[simp] theorem State.taken_trig (s : State) (p : Packet) (a0 : Nat) : (s.taken p).trig a0 = s.trig a0 := rfl
@[simp] theorem State.taken_tbStatus (s : State) (p : Packet) : (s.taken p).tbStatus = s.tbStatus := rfl
@[simp] theorem State.taken_tbOffset (s : State) (p : Packet) : (s.taken p).tbOffset = s.tbOffset := rfl
@[simp] theorem State.taken_comparable (s : State) (p : Packet) (a0 : Nat) :
    (s.taken p).comparable a0 = s.comparable a0 := rfl
@[simp] theorem State.taken_periodStart (s : State) (p : Packet) (a0 : Nat) :
    (s.taken p).periodStart a0 = s.periodStart a0 := rfl
@[simp] theorem State.taken_laneOk (s : State) (p : Packet) (a0 : Nat) (a1 : Nat) :
    (s.taken p).laneOk a0 a1 = s.laneOk a0 a1 := rfl
@[simp] theorem State.taken_laneGroup (s : State) (p : Packet) (a0 : Nat) :
    (s.taken p).laneGroup a0 = s.laneGroup a0 := rfl
@[simp] theorem State.taken_aePort (s : State) (p : Packet) (a0 : Nat) : (s.taken p).aePort a0 = s.aePort a0 := rfl
@[simp] theorem State.taken_member (s : State) (p : Packet) (a0 : Nat) : (s.taken p).member a0 = s.member a0 := rfl
@[simp] theorem State.taken_aperture (s : State) (p : Packet) (a0 : Nat) :
    (s.taken p).aperture a0 = s.aperture a0 := rfl
@[simp] theorem State.taken_joined (s : State) (p : Packet) : (s.taken p).joined = s.joined := rfl
@[simp] theorem State.taken_nextBoundary (s : State) (p : Packet) (a0 : Nat) :
    (s.taken p).nextBoundary a0 = s.nextBoundary a0 := rfl
@[simp] theorem State.taken_pacedFlasks (s : State) (p : Packet) : (s.taken p).pacedFlasks = s.pacedFlasks := rfl
@[simp] theorem State.taken_trussStatus (s : State) (p : Packet) (a0 : Nat) :
    (s.taken p).trussStatus a0 = s.trussStatus a0 := rfl
@[simp] theorem State.taken_memberWord (s : State) (p : Packet) (a0 : Nat) (a1 : Nat) :
    (s.taken p).memberWord a0 a1 = s.memberWord a0 a1 := rfl
@[simp] theorem State.taken_moduleId (s : State) (p : Packet) : (s.taken p).moduleId = s.moduleId := rfl
@[simp] theorem State.taken_signalStatus (s : State) (p : Packet) : (s.taken p).signalStatus = s.signalStatus := rfl
@[simp] theorem State.taken_signalFault (s : State) (p : Packet) : (s.taken p).signalFault = s.signalFault := rfl
@[simp] theorem State.taken_startStatus (s : State) (p : Packet) : (s.taken p).startStatus = s.startStatus := rfl
@[simp] theorem State.taken_flaskWord (s : State) (p : Packet) (a0 : Nat) (a1 : Nat) (a2 : Holdings) :
    (s.taken p).flaskWord a0 a1 a2 = s.flaskWord a0 a1 a2 := rfl
@[simp] theorem State.taken_syncState (s : State) (p : Packet) (a0 : Nat) :
    (s.taken p).syncState a0 = s.syncState a0 := rfl
@[simp] theorem State.taken_powerStatus (s : State) (p : Packet) (a0 : Nat) :
    (s.taken p).powerStatus a0 = s.powerStatus a0 := rfl
@[simp] theorem State.taken_selfTestOk (s : State) (p : Packet) : (s.taken p).selfTestOk = s.selfTestOk := rfl
@[simp] theorem State.taken_safetyStatus (s : State) (p : Packet) (a0 : Nat) :
    (s.taken p).safetyStatus a0 = s.safetyStatus a0 := rfl
@[simp] theorem State.taken_safeCauseWord (s : State) (p : Packet) (a0 : Nat) :
    (s.taken p).safeCauseWord a0 = s.safeCauseWord a0 := rfl
@[simp] theorem State.taken_classWord (s : State) (p : Packet) (a0 : Nat) (a1 : Nat) :
    (s.taken p).classWord a0 a1 = s.classWord a0 a1 := rfl
@[simp] theorem State.taken_errSource (s : State) (p : Packet) (a0 : Nat) :
    (s.taken p).errSource a0 = s.errSource a0 := rfl
@[simp] theorem State.taken_fwWord (s : State) (p : Packet) (a0 : Nat) (a1 : Nat) :
    (s.taken p).fwWord a0 a1 = s.fwWord a0 a1 := rfl
@[simp] theorem State.taken_serviceWord (s : State) (p : Packet) (a0 : Nat) :
    (s.taken p).serviceWord a0 = s.serviceWord a0 := rfl
@[simp] theorem State.taken_runningVersion (s : State) (p : Packet) (a0 : Nat) :
    (s.taken p).runningVersion a0 = s.runningVersion a0 := rfl

end Sys2Proof.Machine
end

