-- ==== Sys2Proof/Tests/Slice0.lean ====
section
/-!
SUPPORT. The author's own tests: ill-formed commands are refused; small checks of single steps against worked examples and
tables of the spec; and, for every statement with hypotheses, witnesses: `witness_<statement>_<k>` discharges, by evaluation, every
hypothesis of the k-th clause of the statement on a concrete state and command, and so reaches its conclusion.
-/

namespace Sys2Proof.Tests

open Sys2Proof.Machine

set_option linter.all false
set_option Elab.async false

/-- Parameter bytes from fields: (offset in the packet, bytes, value), little-endian. -/
def pbytes (fs : List (Nat × Nat × Nat)) : List Byte :=
  (List.range 52).map fun i => fs.foldl (fun b f =>
    if f.1 ≤ i + 12 ∧ i + 12 < f.1 + f.2.1 then BitVec.ofNat 8 (f.2.2 / 256 ^ (i + 12 - f.1)) else b) 0

/-- A packet in the ring of context 0, with the sequence number that it expects. -/
def pk (fs : List (Nat × Nat × Nat)) : Packet := { ring := 0, seq := 1, paramLen := 52, params := pbytes fs }

/-- Context 0 with its rings attached and one packet waiting. -/
def ctx0 : Ctx := { Ctx.rest with state := .opened, anchored := true, enable := true, sqTail := 1 }

/-- A compute die in service with its cores in their roles. -/
def up : Die := { rails := .good, bist1 := true, active := 128, reserve := 16,
                  order := List.range 128, spares := (List.range 16).map (128 + ·) }

/-- The state after reset, with the host interface up and context 0 open. -/
def w : State := { State.reset with
  host := { State.reset.host with hostRdy := true, linkUp := true, ctxs := [(0, ctx0)] }
  lines := { State.reset.lines with run := .running, trigLive := true }
  sup := { State.reset.sup with full := true, dies := [0, 1, 2, 3].map fun n => (n, up) }
  pa := { State.reset.pa with mode := .drive }, now := 1000000000 }

/-- A free-running C0 flask 1 with context 0 as tenant and quotas in T1 and T2. -/
def f1 : Flask := { state := .active, mode := .free, tenants := [0], committed := { quota := [(1, 4096, 4096), (2, 4096, 4096)] } }
def wf : State := w.setFlask 1 f1

/-- `wf` with one page of 2 MiB of context 0 at 0x200000, holding `bytes` from its first address on. -/
def wm (bytes : List Byte) : State := vwrite 0 0x200000 bytes { wf with mem := { wf.mem with
  maps := [{ ctx := 0, flask := 1, va := 0x200000, pages := [0], big := true, write := true, own := true }]
  pages := [(0, { used := true, big := true, owner := 1, ctx := 0, homeFrame := 0x2000000 })], made := 1 } }

/-- A command that waits, as a ticket. -/
def tk : Ticket := { ctx := 0, uid := 7, seq := 9, opcode := 0x0000, quiet := false }

/-- A record of `n` bytes from fields: (offset, bytes, value), little-endian. -/
def raw (n : Nat) (fs : List (Nat × Nat × Nat)) : List Byte :=
  (List.range n).map fun i => fs.foldl (fun b f =>
    if f.1 ≤ i ∧ i < f.1 + f.2.1 then BitVec.ofNat 8 (f.2.2 / 256 ^ (i - f.1)) else b) 0

/-- An entry of an operation on tensors, in flight as entry 0 of a pour of context 0 in flask 1, on queue 0 of an engine. -/
def en (op : Nat) (ts : List Nat) : Entry := { op := op, tensors := ts }
def pr (op : Nat) (ts : List Nat) : PourRun := { job := none, ctx := 0, flask := 1, entries := [en op ts], inFlight := [0] }
def run (e op : Nat) (ts : List Nat) (s : State) : State := s.setQueue e 0 { pours := [pr op ts] }

/-- The state and the list that an allocation answers. -/
def okOf (e : Except Nat (State × List Nat)) : State × List Nat := match e with | .ok x => x | .error _ => (State.reset, [])

/-- The state after a kept-alive dip; context 0 detached; a full attention log. -/
def raise (s : State) : State := settle (setFault 7 s)
def shut : State := { w with host := { w.host with ctxs := [(0, { ctx0 with state := .detached })] } }
def fullLog : State := { w with host := { w.host with log := List.replicate 64 ⟨0, 0, 0, 0, 0x3FF, 0⟩ } }
theorem witness_StepRunsFrontCommand_1 (h : Obligations.StepRunsFrontCommand) :
       step { w with pending := [.kaDip, .vinLoss] } = exec .kaDip { w with pending := [.vinLoss] } := h.1 .kaDip _ [.vinLoss]
theorem witness_StepRunsFrontCommand_2 (h : Obligations.StepRunsFrontCommand) : step w = .next w := h.2 w rfl
theorem witness_EveryStepKeepsTheLines (h : Obligations.EveryStepKeepsTheLines) : (raise w).linesFollow :=
     h { w with pending := [.kaDip] } (raise w) (by decide +kernel) rfl
theorem witness_NoCommandStops_1 (h : Obligations.NoCommandStops) :
    ∃ t, exec (.kaDip)
      (w) = .next t := by
  refine ⟨_, (h .kaDip w).choose_spec.1⟩ <;> decide +kernel

theorem witness_PacketWaits_1 (h : Obligations.PacketWaits) :
    ∃ t, exec (.nop (pk []))
      (State.reset) = .next t := by
  refine ⟨_, h _ ⟨0x0000, 0, false, pk []⟩ _ ?_ ?_⟩ <;> decide +kernel

theorem witness_PacketWaits_2 (h : Obligations.PacketWaits) :
    ∃ t, exec (.nop (pk []))
      ({ w with host := { w.host with ctxs := [(0, { ctx0 with state := .closing })] } }) = .next t := by
  refine ⟨_, h _ ⟨0x0000, 0, false, pk []⟩ _ ?_ ?_⟩ <;> decide +kernel

theorem witness_PacketRefusedByChecks_1 (h : Obligations.PacketRefusedByChecks) :
    ∃ t, exec (.ackAttention { pk [] with paramLen := 3 })
      (w) = .next t := by
  refine ⟨_, h.1 _ ⟨0x0003, 4, true, { pk [] with paramLen := 3 }⟩ _ 3 ?_ ?_ ?_ ?_⟩ <;> decide +kernel

theorem witness_PacketRefusedByChecks_2 (h : Obligations.PacketRefusedByChecks) :
    ∃ t, exec (.undefinedOpcodePacket 0xFFFF (pk []))
      (w) = .next t := by
  refine ⟨_, h.2.1 0xFFFF _ _ 1 ?_ ?_ ?_⟩ <;> decide +kernel

theorem witness_PacketRefusedByChecks_3 (h : Obligations.PacketRefusedByChecks) :
       ∃ t, refuseTaken (pk []) 0xFFFF 6 w = t := ⟨_, h.2.2 0xFFFF 6 (pk []) w (by decide +kernel)⟩
theorem witness_ReplyGoesToTheRing_1 (h : Obligations.ReplyGoesToTheRing) : ((post 0 1 false 0 1 0 [] w).ctx 0).cqTail = 1 := by
     rw [((h 0 1 false 0 1 0 [] w).1 (by decide +kernel)).2]; decide +kernel
theorem witness_ReplyGoesToTheRing_2 (h : Obligations.ReplyGoesToTheRing) : ((post 0 1 false 0 1 0 [] shut).ctx 0).dropped = 1 := by
     rw [((h 0 1 false 0 1 0 [] shut).2.1 (by decide +kernel) (by decide +kernel)).2]; decide +kernel
theorem witness_ReplyGoesToTheRing_3 (h : Obligations.ReplyGoesToTheRing) : post 767 1 false 0 1 0 [] w = w :=
     (h 767 1 false 0 1 0 [] w).2.2.1 (by decide +kernel)
theorem witness_ReplyGoesToTheRing_4 (h : Obligations.ReplyGoesToTheRing) : (post 0 1 false 0 1 0 [] w).ctx 1 = w.ctx 1 :=
     (h 0 1 false 0 1 0 [] w).2.2.2.1 1 (by decide)
theorem witness_EventsAreRecorded_1 (h : Obligations.EventsAreRecorded) : (attn 15 1 2 w).host.log.length = 1 := by
     rw [((h.1 15 1 2 w (by decide)).2.1 (by decide +kernel)).1]; decide +kernel
theorem witness_EventsAreRecorded_2 (h : Obligations.EventsAreRecorded) : (attn 15 1 2 fullLog).host.overflow = true :=
     ((h.1 15 1 2 fullLog (by decide)).2.2.1 (by decide +kernel)).2
theorem witness_EventsAreRecorded_3 (h : Obligations.EventsAreRecorded) : (setFault 7 w).host.log.length = 1 := by
     rw [(h.2.1 7 w (by decide)).2.2.2.1 (by decide +kernel)]; decide +kernel
theorem witness_EventsAreRecorded_4 (h : Obligations.EventsAreRecorded) :
       (clearAttnCause 0x8000 (attn 15 1 2 w)).host.cause.getLsbD 15 = false := by
     rw [h.2.2.1 0x8000 _ 15 (by decide)]; decide +kernel
theorem witness_EventsAreRecorded_5 (h : Obligations.EventsAreRecorded) :
       (clearSignalFault 0x80 (setFault 7 w)).lines.fault.getLsbD 7 = false := by
     rw [h.2.2.2 0x80 _ 7 (by decide)]; decide +kernel
def w1ibc : State := { w with sup := { w.sup with ibcA := true } }
def sby : State := State.reset
def lin (l : Lines) (s : State) : State := { s with lines := l }
def su : State := lin { w.lines with run := .startUp } w
def dieW (n : Nat) (d : Die) (s : State) : State := s.setDie n d
theorem witness_LineEventsTakeEffect_1 (h : Obligations.LineEventsTakeEffect) :
    ∃ t, exec (.wakeAccepted)
      (sby) = .next t := by
  refine ⟨_, h.1 _ ?_⟩ <;> decide +kernel

theorem witness_LineEventsTakeEffect_2 (h : Obligations.LineEventsTakeEffect) :
    ∃ t, exec (.wakeFall)
      (su) = .next t := by
  refine ⟨_, h.2.1 _ ?_⟩ <;> decide +kernel

theorem witness_LineEventsTakeEffect_3 (h : Obligations.LineEventsTakeEffect) :
    ∃ t, exec (.wakeFall)
      (sby) = .next t := by
  refine ⟨_, h.2.2.1 _ ?_⟩ <;> decide +kernel

theorem witness_LineEventsTakeEffect_4 (h : Obligations.LineEventsTakeEffect) :
    ∃ t, exec (.kaDip)
      (sby) = .next t := by
  refine ⟨_, h.2.2.2.1 _ ?_⟩ <;> decide +kernel

theorem witness_LineEventsTakeEffect_5 (h : Obligations.LineEventsTakeEffect) :
    ∃ t, exec (.kaOutOfRange true)
      (sby) = .next t := by
  refine ⟨_, h.2.2.2.2.1 _ true ?_⟩ <;> decide +kernel

theorem witness_LineEventsTakeEffect_6 (h : Obligations.LineEventsTakeEffect) :
    ∃ t, exec (.vinExtendedRange)
      (w) = .next t := by
  refine ⟨_, h.2.2.2.2.2.1 _ ?_⟩ <;> decide +kernel

theorem witness_LineEventsTakeEffect_7 (h : Obligations.LineEventsTakeEffect) :
    ∃ t, exec (.tripInputAssert 0)
      (sby) = .next t := by
  refine ⟨_, (h.2.2.2.2.2.2.1 _ ?_).1⟩ <;> decide +kernel

theorem witness_LineEventsTakeEffect_8 (h : Obligations.LineEventsTakeEffect) :
    ∃ t, exec (.tripInputAssert 1)
      (w) = .next t := by
  refine ⟨_, (h.2.2.2.2.2.2.2.1 _ ?_).2⟩ <;> decide +kernel

theorem witness_LineEventsTakeEffect_9 (h : Obligations.LineEventsTakeEffect) :
    ∃ t, exec (.tripInputDeassert 1)
      (sby) = .next t := by
  refine ⟨_, (h.2.2.2.2.2.2.2.2.1 _ ?_).2⟩ <;> decide +kernel

theorem witness_LineEventsTakeEffect_10 (h : Obligations.LineEventsTakeEffect) :
    ∃ t, exec (.signalFaultClear 0xFF)
      (w) = .next t := by
  refine ⟨_, (h.2.2.2.2.2.2.2.2.2.1 _ 0xFF ?_).1⟩ <;> decide +kernel

theorem witness_LineEventsTakeEffect_11 (h : Obligations.LineEventsTakeEffect) :
    ∃ t, exec (.resetCauseRead)
      (w) = .next t := by
  refine ⟨_, (h.2.2.2.2.2.2.2.2.2.1 _ 0 ?_).2.2.2⟩ <;> decide +kernel

theorem witness_LineEventsTakeEffect_12 (h : Obligations.LineEventsTakeEffect) :
    ∃ t, exec (.smbusBlockRead 2)
      (w) = .next t := by
  refine ⟨_, h.2.2.2.2.2.2.2.2.2.2.1 _ 2 ?_⟩ <;> decide +kernel

theorem witness_LineEventsTakeEffect_13 (h : Obligations.LineEventsTakeEffect) :
    ∃ t, exec (.smbusWrite 0 [0xFF])
      (w) = .next t := by
  refine ⟨_, h.2.2.2.2.2.2.2.2.2.2.2.1 _ 0 [0xFF]⟩ <;> decide +kernel

theorem witness_LineEventsTakeEffect_14 (h : Obligations.LineEventsTakeEffect) :
    ∃ t, exec (.alertResponse)
      (lin { w.lines with fault := 1, alert := true } w) = .next t := by
  refine ⟨_, h.2.2.2.2.2.2.2.2.2.2.2.2 _ ?_ ?_⟩ <;> decide +kernel

theorem witness_SafetyOutputErrors_1 (h : Obligations.SafetyOutputErrors) :
    ∃ t, exec (.safeOutReadbackError 1)
      (lin { w.lines with safeCmd := true } w) = .next t := by
  refine ⟨_, h.1 _ 1 ?_ ?_ ?_⟩ <;> decide +kernel

theorem witness_SafetyOutputErrors_2 (h : Obligations.SafetyOutputErrors) :
    ∃ t, exec (.safeOutReadbackError 0)
      (sby) = .next t := by
  refine ⟨_, (h.2.1 _ 0 ?_ ?_ ?_).choose_spec.1⟩ <;> decide +kernel

theorem witness_SafetyOutputErrors_3 (h : Obligations.SafetyOutputErrors) :
    ∃ t, exec (.keystoneHalfMismatch)
      (w) = .next t := by
  refine ⟨_, h.2.2 _⟩ <;> decide +kernel

theorem witness_SupplyEvents_1 (h : Obligations.SupplyEvents) :
    ∃ t, exec (.coldStart 7 true true none)
      (lin { sby.lines with run := .off } sby) = .next t := by
  refine ⟨_, (h.1 _ 7 true none ?_).choose_spec.1⟩ <;> decide +kernel

theorem witness_SupplyEvents_2 (h : Obligations.SupplyEvents) :
    ∃ t, exec (.kaLoss)
      (sby) = .next t := by
  refine ⟨_, (h.2.1 _ ?_).choose_spec.1⟩ <;> decide +kernel

theorem witness_SupplyEvents_3 (h : Obligations.SupplyEvents) :
    ∃ t, exec (.kaLoss)
      (w) = .next t := by
  refine ⟨_, (h.2.2.1 _ ?_).1.choose_spec.1⟩ <;> decide +kernel

theorem witness_SupplyEvents_4 (h : Obligations.SupplyEvents) :
    ∃ t, exec (.keystoneLost)
      (su) = .next t := by
  refine ⟨_, (h.2.2.1 _ ?_).2.choose_spec.1⟩ <;> decide +kernel

theorem witness_SupplyEvents_5 (h : Obligations.SupplyEvents) :
    ∃ t, exec (.vinLoss)
      (w) = .next t := by
  refine ⟨_, (h.2.2.2.1 _ ?_).choose_spec.1⟩ <;> decide +kernel

theorem witness_SupplyEvents_6 (h : Obligations.SupplyEvents) :
    ∃ t, exec (.vinLowExt)
      ({ w with pa := { w.pa with mode := .robot } }) = .next t := by
  refine ⟨_, h.2.2.2.2.1 _ ?_ ?_ ?_⟩ <;> decide +kernel

theorem witness_SupplyEvents_7 (h : Obligations.SupplyEvents) :
    ∃ t, exec (.vinLowExt)
      (w) = .next t := by
  refine ⟨_, h.2.2.2.2.2.1 _ ?_ ?_ ?_⟩ <;> decide +kernel

theorem witness_SupplyEvents_8 (h : Obligations.SupplyEvents) :
    ∃ t, exec (.vinCapLift)
      ({ w with sup := { w.sup with ibcA := true, ibcB := true, vinLowExt := true } }) = .next t := by
  refine ⟨_, h.2.2.2.2.2.2.1 _ ?_ ?_⟩ <;> decide +kernel

theorem witness_SupplyEvents_9 (h : Obligations.SupplyEvents) :
    ∃ t, exec (.ibcRegulationTimeout 0)
      ({ su with sup := { w.sup with ibcA := true, ibcB := true }, pa := { w.pa with mode := .none } }) = .next t := by
  refine ⟨_, (h.2.2.2.2.2.2.2.1 _ ?_ ?_ ?_ ?_).1⟩ <;> decide +kernel

theorem witness_SupplyEvents_10 (h : Obligations.SupplyEvents) :
    ∃ t, exec (.ibcRegulationLoss 1)
      ({ su with sup := { w.sup with ibcA := true, ibcB := true }, pa := { w.pa with mode := .none } }) = .next t := by
  refine ⟨_, (h.2.2.2.2.2.2.2.1 _ ?_ ?_ ?_ ?_).2⟩ <;> decide +kernel

theorem witness_SupplyEvents_11 (h : Obligations.SupplyEvents) : (refreshSupply w1ibc).pa.supplyW ≤ 250 :=
     h.2.2.2.2.2.2.2.2 w1ibc _ rfl (by decide +kernel)
theorem witness_RailAndPhaseFaults_1 (h : Obligations.RailAndPhaseFaults) :
    ∃ t, exec (.railSoftStartTimeout (.die 3))
      (dieW 3 { rails := .softStart, attempts := 3 } su) = .next t := by
  refine ⟨_, h.1 _ 3 ?_ ?_ ?_⟩ <;> decide +kernel

theorem witness_RailAndPhaseFaults_2 (h : Obligations.RailAndPhaseFaults) :
    ∃ t, exec (.railSoftStartTimeout .hub)
      (su) = .next t := by
  refine ⟨_, h.2.1 _ ?_ ?_ ?_⟩ <;> decide +kernel

theorem witness_RailAndPhaseFaults_3 (h : Obligations.RailAndPhaseFaults) :
    ∃ t, exec (.railRetry (.die 3) true)
      (dieW 3 { rails := .softStart, attempts := 3 } su) = .next t := by
  refine ⟨_, h.2.2.1 _ 3 ?_ ?_ ?_ ?_⟩ <;> decide +kernel

theorem witness_RailAndPhaseFaults_4 (h : Obligations.RailAndPhaseFaults) :
    ∃ t, exec (.railRetry (.die 3) false)
      (dieW 3 { rails := .softStart, attempts := 4 } su) = .next t := by
  refine ⟨_, (h.2.2.2.1 _ 3 false ?_ ?_ ?_ ?_ ?_).choose_spec.1⟩ <;> decide +kernel

theorem witness_RailAndPhaseFaults_5 (h : Obligations.RailAndPhaseFaults) :
    ∃ t, exec (.railRetry .hub true)
      ({ su with sup := { su.sup with hubAttempts := 4 } }) = .next t := by
  refine ⟨_, (h.2.2.2.2.1 _ true ?_ ?_ ?_).choose_spec.1⟩ <;> decide +kernel

theorem witness_RailAndPhaseFaults_6 (h : Obligations.RailAndPhaseFaults) :
    ∃ t, exec (.railUndervoltage (.die 3))
      (w) = .next t := by
  refine ⟨_, h.2.2.2.2.2.1 _ 3 ?_ ?_⟩ <;> decide +kernel

theorem witness_RailAndPhaseFaults_7 (h : Obligations.RailAndPhaseFaults) :
    ∃ t, exec (.railUndervoltage .hub)
      ({ w with sup := { w.sup with hubOk := true } }) = .next t := by
  refine ⟨_, h.2.2.2.2.2.2.1 _ ?_⟩ <;> decide +kernel

theorem witness_RailAndPhaseFaults_8 (h : Obligations.RailAndPhaseFaults) :
    ∃ t, exec (.openPhase 3 15)
      (w) = .next t := by
  refine ⟨_, h.2.2.2.2.2.2.2.1 _ 3 15 ?_ ?_ ?_ ?_⟩ <;> decide +kernel

theorem witness_RailAndPhaseFaults_9 (h : Obligations.RailAndPhaseFaults) :
    ∃ t, exec (.senseLocalisation 3 (some 15))
      (w) = .next t := by
  refine ⟨_, h.2.2.2.2.2.2.2.2.1 _ 3 15 ?_ ?_ ?_ ?_ ?_⟩ <;> decide +kernel

theorem witness_RailAndPhaseFaults_10 (h : Obligations.RailAndPhaseFaults) :
    ∃ t, exec (.senseLocalisation 3 none)
      (w) = .next t := by
  refine ⟨_, h.2.2.2.2.2.2.2.2.2.1 _ 3⟩ <;> decide +kernel

theorem witness_RailAndPhaseFaults_11 (h : Obligations.RailAndPhaseFaults) :
    ∃ t, exec (.viaductLaneFailure 7 0)
      (w) = .next t := by
  refine ⟨_, h.2.2.2.2.2.2.2.2.2.2 _ 7 0 ?_ ?_⟩ <;> decide +kernel

theorem witness_StartUpSequence_1 (h : Obligations.StartUpSequence) :
    ∃ t, exec (.startUp {} [0, 1, 2, 3] true)
      (lin { sby.lines with wake := true } sby) = .next t := by
  refine ⟨_, (h.1 _ {} [0, 1, 2, 3] true ?_ ?_ ?_ ?_ ?_ ?_ ?_).choose_spec.1⟩ <;> decide +kernel

theorem witness_StartUpSequence_2 (h : Obligations.StartUpSequence) :
    ∃ t, exec (.bistPass1Complete 3 [35])
      (dieW 3 { rails := .good } su) = .next t := by
  refine ⟨_, (h.2.1 _ 3 [35] ?_ ?_ ?_ ?_ ?_ ?_ ?_).choose_spec.1⟩ <;> decide +kernel

theorem witness_StartUpSequence_3 (h : Obligations.StartUpSequence) :
    ∃ t, exec (.hostRdyRise 6 16)
      ({ su with sup := { su.sup with hubOk := true, steps := 0x0980 } }) = .next t := by
  refine ⟨_, (h.2.2.1 _ 6 16 ?_ ?_ ?_ ?_ ?_ ?_ ?_ ?_ ?_ ?_).choose_spec.1⟩ <;> decide +kernel

theorem witness_StartUpSequence_4 (h : Obligations.StartUpSequence) :
    ∃ t, exec (.fullCompute [])
      ({ w with sup := { w.sup with full := false, steps := 0x1FFE } }) = .next t := by
  refine ⟨_, (h.2.2.2 _ [] ?_ ?_ ?_).choose_spec.1⟩ <;> decide +kernel

theorem witness_StandbyAndResets_1 (h : Obligations.StandbyAndResets) :
    ∃ t, exec (.enterStandby (pk []))
      ({ w with pa := { w.pa with mode := .depot } }) = .next t := by
  refine ⟨_, h.1 _ _ ?_ ?_⟩ <;> decide +kernel

theorem witness_StandbyAndResets_2 (h : Obligations.StandbyAndResets) :
    ∃ t, exec (.standbyReached)
      ({ w with sup := { w.sup with enteringStandby := true } }) = .next t := by
  refine ⟨_, (h.2.1 _ ?_).choose_spec.1⟩ <;> decide +kernel

theorem witness_StandbyAndResets_3 (h : Obligations.StandbyAndResets) :
    ∃ t, exec (.resetModule (pk [(12, 1, 0xA5)]))
      ({ w with pa := { w.pa with mode := .park } }) = .next t := by
  refine ⟨_, h.2.2.1 _ _ ?_ ?_ ?_⟩ <;> decide +kernel

theorem witness_StandbyAndResets_4 (h : Obligations.StandbyAndResets) :
    ∃ t, exec (.moduleResetBegin {})
      ({ w with sup := { w.sup with resetDue := some true } }) = .next t := by
  refine ⟨_, (h.2.2.2.1 _ {} true ?_).choose_spec.1⟩ <;> decide +kernel

theorem witness_StandbyAndResets_5 (h : Obligations.StandbyAndResets) :
    ∃ t, exec (.mpHeartbeatMissed)
      (w) = .next t := by
  refine ⟨_, h.2.2.2.2.1 _ ?_⟩ <;> decide +kernel

theorem witness_StandbyAndResets_6 (h : Obligations.StandbyAndResets) :
    ∃ t, exec (.paHeartbeatMissed)
      (w) = .next t := by
  refine ⟨_, h.2.2.2.2.2.1 _ ?_⟩ <;> decide +kernel

theorem witness_StandbyAndResets_7 (h : Obligations.StandbyAndResets) :
    ∃ t, exec (.resetDie (pk [(12, 1, 3)]))
      (w) = .next t := by
  refine ⟨_, h.2.2.2.2.2.2.1 _ _ ?_ ?_ ?_ ?_ ?_ ?_ ?_⟩ <;> decide +kernel

theorem witness_StandbyAndResets_8 (h : Obligations.StandbyAndResets) :
    ∃ t, exec (.dieResetComplete 3 { railsLock := true })
      (dieW 3 { resetting := true, resetTicket := some tk } w) = .next t := by
  refine ⟨_, (h.2.2.2.2.2.2.2 _ 3 { railsLock := true } tk ?_ ?_ ?_ ?_).choose_spec.1⟩ <;> decide +kernel

def addCtx (c : Nat) (x : Ctx) (s : State) : State := s.setCtx c x
def withHost (g : HostIf → HostIf) (s : State) : State := { s with host := g s.host }
def vf1 : State := addCtx 1 { Ctx.rest with state := .detached, anchored := true, fn := 1 }
     (withHost (fun x => { x with numVf := 1, fns := [(1, { granted := true, home := 1, allowance := 1, areas := 3 })] }) w)
def dg : State := { w with
     sup := { w.sup with steps := 0x1FFE }
     tb := { w.tb with ports := [(6, { up := true })] }
     svc := { w.svc with diagEn := true, diagPeer := [1, 2, 3, 4], diagPort := 5, diagWrite := true,
                         log := [⟨0, 0x0C, 0, 0, 0, 0, 0⟩] } }
theorem witness_IdentityAndAttentionCommands_1 (h : Obligations.IdentityAndAttentionCommands) :
    ∃ t, exec (.nop (pk []))
      (w) = .next t := by
  refine ⟨_, h.1 _ _ ?_⟩ <;> decide +kernel

theorem witness_IdentityAndAttentionCommands_2 (h : Obligations.IdentityAndAttentionCommands) :
    ∃ t, exec (.getIdentity (pk []))
      (w) = .next t := by
  refine ⟨_, h.2.1 _ _ ?_⟩ <;> decide +kernel

theorem witness_IdentityAndAttentionCommands_3 (h : Obligations.IdentityAndAttentionCommands) :
    ∃ t, exec (.readAttention (pk []))
      (withHost (fun x => { x with log := [⟨5, 15, 1, 2, 0x3FF, 0⟩], overflow := true }) w) = .next t := by
  refine ⟨_, h.2.2.1 _ _ ⟨5, 15, 1, 2, 0x3FF, 0⟩ [] ?_ ?_⟩ <;> decide +kernel

theorem witness_IdentityAndAttentionCommands_4 (h : Obligations.IdentityAndAttentionCommands) :
    ∃ t, exec (.readAttention (pk []))
      (w) = .next t := by
  refine ⟨_, h.2.2.2.1 _ _ ?_ ?_⟩ <;> decide +kernel

theorem witness_IdentityAndAttentionCommands_5 (h : Obligations.IdentityAndAttentionCommands) :
    ∃ t, exec (.ackAttention (pk [(12, 4, 0xFFFF)]))
      (w) = .next t := by
  refine ⟨_, h.2.2.2.2.1 _ _ ?_ ?_⟩ <;> decide +kernel

theorem witness_IdentityAndAttentionCommands_6 (h : Obligations.IdentityAndAttentionCommands) :
    ∃ t, exec (.setAttnMask (pk []))
      (w) = .next t := by
  refine ⟨_, h.2.2.2.2.2.1 _ _ ?_ ?_⟩ <;> decide +kernel

theorem witness_IdentityAndAttentionCommands_7 (h : Obligations.IdentityAndAttentionCommands) :
    ∃ t, exec (.queryOccupancy (pk []))
      (w) = .next t := by
  refine ⟨_, (h.2.2.2.2.2.2.1 _ _ ?_).choose_spec.2⟩ <;> decide +kernel

theorem witness_IdentityAndAttentionCommands_8 (h : Obligations.IdentityAndAttentionCommands) :
    ∃ t, exec (.undefinedOpcodePacket 0xFFFF (pk []))
      (w) = .next t := by
  refine ⟨_, h.2.2.2.2.2.2.2 _ _ 0xFFFF ?_ ?_ ?_ ?_ ?_ ?_ ?_⟩ <;> decide +kernel

theorem witness_ContextCommands_1 (h : Obligations.ContextCommands) :
    ∃ t, exec (.openContext (pk [(40, 1, 0x44), (41, 1, 63)]))
      (w) = .next t := by
  refine ⟨_, h.1 _ _ 1 ?_ ?_ ?_ ?_ ?_⟩ <;> decide +kernel

theorem witness_ContextCommands_2 (h : Obligations.ContextCommands) :
    ∃ t, exec (.closeContext (pk [(12, 2, 1023)]))
      (addCtx 1023 { ctx0 with anchored := false } w) = .next t := by
  refine ⟨_, h.2.1 _ _ ?_ ?_ ?_ ?_ ?_ ?_ ?_ ?_ ?_ ?_⟩ <;> decide +kernel

theorem witness_ContextCommands_3 (h : Obligations.ContextCommands) :
    ∃ t, exec (.attachContext (pk [(12, 2, 1), (40, 1, 0xCC), (41, 1, 1)]))
      (addCtx 1 { ctx0 with anchored := false, state := .halted } w) = .next t := by
  refine ⟨_, h.2.2.1 _ _ ?_ ?_ ?_ ?_ ?_ ?_⟩ <;> decide +kernel

theorem witness_ContextCommands_4 (h : Obligations.ContextCommands) :
    ∃ t, exec (.queryContext (pk [(12, 2, 1023)]))
      (w) = .next t := by
  refine ⟨_, h.2.2.2.1 _ _ ?_ ?_ ?_⟩ <;> decide +kernel

theorem witness_ContextCommands_5 (h : Obligations.ContextCommands) :
    ∃ t, exec (.grantFunction (pk [(12, 1, 255), (14, 2, 1023), (16, 2, 0xFFF)]))
      (withHost (fun x => { x with numVf := 255 }) w) = .next t := by
  refine ⟨_, h.2.2.2.2.1 _ _ 1 ?_ ?_ ?_ ?_ ?_ ?_ ?_ ?_⟩ <;> decide +kernel

theorem witness_ContextCommands_6 (h : Obligations.ContextCommands) :
    ∃ t, exec (.revokeFunction (pk [(12, 1, 1)]))
      (vf1) = .next t := by
  refine ⟨_, (h.2.2.2.2.2 _ _ ?_ ?_ ?_ ?_ ?_ ?_ ?_ ?_ ?_).choose_spec.1⟩ <;> decide +kernel

theorem witness_RingAndLinkEvents_1 (h : Obligations.RingAndLinkEvents) :
    ∃ t, exec (.sqTail 0 0 15)
      (w) = .next t := by
  refine ⟨_, h.1 _ 0 0 15 ?_ ?_ ?_ ?_ ?_⟩ <;> decide +kernel

theorem witness_RingAndLinkEvents_2 (h : Obligations.RingAndLinkEvents) :
    ∃ t, exec (.sqTail 0 0 16)
      (w) = .next t := by
  refine ⟨_, h.2.1 _ 0 0 16 ?_ ?_ ?_ ?_⟩ <;> decide +kernel

theorem witness_RingAndLinkEvents_3 (h : Obligations.RingAndLinkEvents) :
    ∃ t, exec (.cqHead 0 0 3)
      (addCtx 0 { ctx0 with cqTail := 3 } w) = .next t := by
  refine ⟨_, h.2.2.1 _ 0 0 3 ?_ ?_ ?_ ?_ ?_ ?_⟩ <;> decide +kernel

theorem witness_RingAndLinkEvents_4 (h : Obligations.RingAndLinkEvents) :
    ∃ t, exec (.cqHead 0 0 4)
      (addCtx 0 { ctx0 with cqTail := 3 } w) = .next t := by
  refine ⟨_, h.2.2.2.1 _ 0 0 4 ?_ ?_ ?_ ?_ ?_ ?_⟩ <;> decide +kernel

theorem witness_RingAndLinkEvents_5 (h : Obligations.RingAndLinkEvents) :
    ∃ t, exec (.enable 0 0x10144)
      (addCtx 0 { ctx0 with state := .detached, enable := false } w) = .next t := by
  refine ⟨_, h.2.2.2.2.1 _ 0 0 0x10144 ?_ ?_ ?_ ?_ ?_ ?_⟩ <;> decide +kernel

theorem witness_RingAndLinkEvents_6 (h : Obligations.RingAndLinkEvents) :
    ∃ t, exec (.droppedRead 0)
      (w) = .next t := by
  refine ⟨_, h.2.2.2.2.2.1 _ 0 0 ?_ ?_⟩ <;> decide +kernel

theorem witness_RingAndLinkEvents_7 (h : Obligations.RingAndLinkEvents) :
    ∃ t, exec (.interimReply 0 9)
      (addCtx 0 { ctx0 with inFlight := [tk] } w) = .next t := by
  refine ⟨_, h.2.2.2.2.2.2.1 _ 0 tk ?_ ?_ ?_⟩ <;> decide +kernel

theorem witness_RingAndLinkEvents_8 (h : Obligations.RingAndLinkEvents) :
    ∃ t, exec (.msixInterrupt 0)
      (addCtx 0 { ctx0 with irqPending := true } w) = .next t := by
  refine ⟨_, h.2.2.2.2.2.2.2.1 _ 0 (by decide +kernel) (fun t e => by cases e)⟩ <;> decide +kernel

theorem witness_RingAndLinkEvents_9 (h : Obligations.RingAndLinkEvents) :
    ∃ t, exec (.hostDmaFailure 0 none)
      (w) = .next t := by
  refine ⟨_, h.2.2.2.2.2.2.2.2.1 _ 0 ?_⟩ <;> decide +kernel

theorem witness_RingAndLinkEvents_10 (h : Obligations.RingAndLinkEvents) :
    ∃ t, exec (.pciePerstNAssert)
      (w) = .next t := by
  refine ⟨_, (h.2.2.2.2.2.2.2.2.2.1 _ ?_).choose_spec.1⟩ <;> decide +kernel

theorem witness_RingAndLinkEvents_11 (h : Obligations.RingAndLinkEvents) :
    ∃ t, exec (.pciePerstNRelease)
      (w) = .next t := by
  refine ⟨_, h.2.2.2.2.2.2.2.2.2.2.1 _⟩ <;> decide +kernel

theorem witness_RingAndLinkEvents_12 (h : Obligations.RingAndLinkEvents) :
    ∃ t, exec (.linkDown)
      (w) = .next t := by
  refine ⟨_, (h.2.2.2.2.2.2.2.2.2.2.2.1 _ ?_).choose_spec.1⟩ <;> decide +kernel

theorem witness_RingAndLinkEvents_13 (h : Obligations.RingAndLinkEvents) :
    ∃ t, exec (.functionLevelReset 1)
      (vf1) = .next t := by
  refine ⟨_, (h.2.2.2.2.2.2.2.2.2.2.2.2.1 _ 1).1⟩ <;> decide +kernel

theorem witness_RingAndLinkEvents_14 (h : Obligations.RingAndLinkEvents) :
    ∃ t, exec (.flrComplete 1)
      (vf1) = .next t := by
  refine ⟨_, (h.2.2.2.2.2.2.2.2.2.2.2.2.1 _ 1).2.1⟩ <;> decide +kernel

theorem witness_RingAndLinkEvents_15 (h : Obligations.RingAndLinkEvents) :
    ∃ t, exec (.d3hot 1)
      (vf1) = .next t := by
  refine ⟨_, (h.2.2.2.2.2.2.2.2.2.2.2.2.1 _ 1).2.2⟩ <;> decide +kernel

theorem witness_RingAndLinkEvents_16 (h : Obligations.RingAndLinkEvents) :
    ∃ t, exec (.sriovVfEnable 300)
      (w) = .next t := by
  refine ⟨_, h.2.2.2.2.2.2.2.2.2.2.2.2.2.1 _ 300⟩ <;> decide +kernel

theorem witness_RingAndLinkEvents_17 (h : Obligations.RingAndLinkEvents) :
    ∃ t, exec (.pcieLinkDegraded 5 16)
      (withHost (fun x => { x with linkSpeed := 6 }) w) = .next t := by
  refine ⟨_, h.2.2.2.2.2.2.2.2.2.2.2.2.2.2 _ 5 16 ?_ ?_ ?_⟩ <;> decide +kernel

theorem witness_RegisterAndDiagnosticAccesses_1 (h : Obligations.RegisterAndDiagnosticAccesses) :
    ∃ t, exec (.conversionCountRead 3 143 3)
      (w) = .next t := by
  refine ⟨_, h.1 _ 3 143 3 ?_ ?_ ?_ ?_ ?_⟩ <;> decide +kernel

theorem witness_RegisterAndDiagnosticAccesses_2 (h : Obligations.RegisterAndDiagnosticAccesses) :
    ∃ t, exec (.rcCounterRead 0x20)
      (w) = .next t := by
  refine ⟨_, (h.2.1 _ 0x20 ?_).1⟩ <;> decide +kernel

theorem witness_RegisterAndDiagnosticAccesses_3 (h : Obligations.RegisterAndDiagnosticAccesses) :
    ∃ t, exec (.registerWrite 0 0x40 1)
      (w) = .next t := by
  refine ⟨_, (h.2.2.1 _ 0x40 1 ?_).2⟩ <;> decide +kernel

theorem witness_RegisterAndDiagnosticAccesses_4 (h : Obligations.RegisterAndDiagnosticAccesses) :
    ∃ t, exec (.lowHalfRead 1 0x10)
      (vf1) = .next t := by
  refine ⟨_, h.2.2.2.1 _ 1 0x10 ?_ ?_⟩ <;> decide +kernel

theorem witness_RegisterAndDiagnosticAccesses_5 (h : Obligations.RegisterAndDiagnosticAccesses) :
    ∃ t, exec (.highHalfWrite 1 0x14 0)
      (vf1) = .next t := by
  refine ⟨_, (h.2.2.2.2.1 _ 1 0x14 0 ?_ ?_).1⟩ <;> decide +kernel

theorem witness_RegisterAndDiagnosticAccesses_6 (h : Obligations.RegisterAndDiagnosticAccesses) :
    ∃ t, exec (.unalignedAccess 2 4 false)
      (w) = .next t := by
  refine ⟨_, (h.2.2.2.2.2.1 _ 2 4 ?_).1⟩ <;> decide +kernel

theorem witness_RegisterAndDiagnosticAccesses_7 (h : Obligations.RegisterAndDiagnosticAccesses) :
    ∃ t, exec (.unalignedAccess 0 3 true)
      (w) = .next t := by
  refine ⟨_, (h.2.2.2.2.2.1 _ 0 3 ?_).2⟩ <;> decide +kernel

theorem witness_RegisterAndDiagnosticAccesses_8 (h : Obligations.RegisterAndDiagnosticAccesses) :
    ∃ t, exec (.readWords [1, 2, 3, 4] 5 7 0 256)
      (dg) = .next t := by
  refine ⟨_, h.2.2.2.2.2.2.1 _ [1, 2, 3, 4] 5 7 0 256 ?_ ?_⟩ <;> decide +kernel

theorem witness_RegisterAndDiagnosticAccesses_9 (h : Obligations.RegisterAndDiagnosticAccesses) :
    ∃ t, exec (.writeWords [1, 2, 3, 4] 5 7 0x10 [0])
      ({ dg with fuses := { w.fuses with grade := .ld600 }, pa := { w.pa with mode := .depot } }) = .next t := by
  refine ⟨_, h.2.2.2.2.2.2.2.1 _ [1, 2, 3, 4] 5 7 0x10 [0] ?_ ?_ ?_ ?_⟩ <;> decide +kernel

theorem witness_RegisterAndDiagnosticAccesses_10 (h : Obligations.RegisterAndDiagnosticAccesses) :
    ∃ t, exec (.writeWords [1, 2, 3, 4] 5 7 0x10 [0])
      (dg) = .next t := by
  refine ⟨_, h.2.2.2.2.2.2.2.2.1 _ [1, 2, 3, 4] 5 7 0x10 [0] ?_ ?_⟩ <;> decide +kernel

theorem witness_RegisterAndDiagnosticAccesses_11 (h : Obligations.RegisterAndDiagnosticAccesses) :
    ∃ t, exec (.diagReadServiceLog [1, 2, 3, 4] 5 7 0 32)
      (dg) = .next t := by
  refine ⟨_, h.2.2.2.2.2.2.2.2.2.1 _ [1, 2, 3, 4] 5 7 0 32 ?_ ?_ ?_⟩ <;> decide +kernel

theorem witness_RegisterAndDiagnosticAccesses_12 (h : Obligations.RegisterAndDiagnosticAccesses) :
    ∃ t, exec (.diagReadSafetyLog [1, 2, 3, 4] 5 7 0 32)
      (dg) = .next t := by
  refine ⟨_, h.2.2.2.2.2.2.2.2.2.2.1 _ [1, 2, 3, 4] 5 7 0 32 ?_ ?_⟩ <;> decide +kernel

theorem witness_RegisterAndDiagnosticAccesses_13 (h : Obligations.RegisterAndDiagnosticAccesses) :
    ∃ t, exec (.diagReadRetirement [1, 2, 3, 4] 5 7 0 64)
      (dg) = .next t := by
  refine ⟨_, h.2.2.2.2.2.2.2.2.2.2.2.1 _ [1, 2, 3, 4] 5 7 0 64 ?_ ?_ ?_⟩ <;> decide +kernel

def job1 : Job := { used := true, flask := 1, state := .loaded }
def jb (x : Job) (s : State) : State := s.setJob 1 x
def loadOf (e : Except (Nat × Nat) (State × Nat × List Nat)) : State × Nat := match e with | .ok x => (x.1, x.2.1) | .error _ => (State.reset, 0)
def q2 (r : PourRun) (s : State) : State := s.setQueue 2 0 { pours := [r] }
def nopEn : Entry := { op := 0x2000 }
def stepJob : Job := { used := true, flask := 1, state := .running, cores := [(0, 0)], tokens := [(0, 1)], image := {
     cores := [1, 0, 0, 0], edges := [1, 1], pours := [{ engine := 1, queue := 0, entries := [{ op := 0x1000 }] }]
     steps := [{ core := 0, entry := 0, ins := [0], outs := [1] }] } }
def stepState : State := (jb stepJob wf).setQueue 1 0 { pours := [{ job := some 1, ctx := 0, flask := 1, entries := [{ op := 0x1000 }], inFlight := [0] }] }
def pacedF (s : State) : State := s.setFlask 1 { f1 with mode := .paced, spanUs := 100, inPeriod := true, span := 1, lastBoundary := some 1000000000 }
theorem witness_FlaskConfigurationCommands_1 (h : Obligations.FlaskConfigurationCommands) :
    ∃ t, exec (.createFlask (pk [(12, 1, 15), (13, 1, 3), (14, 1, 0), (16, 2, 1000), (18, 1, 1)]))
      (w) = .next t := by
  refine ⟨_, h.1 _ _ ?_ ?_ ?_ ?_ ?_ ?_ ?_ ?_ ?_ ?_ ?_⟩ <;> decide +kernel

theorem witness_FlaskConfigurationCommands_2 (h : Obligations.FlaskConfigurationCommands) :
    ∃ t, exec (.removeFlask (pk [(12, 1, 1)]))
      (wf) = .next t := by
  refine ⟨_, h.2.1 _ _ ?_ ?_ ?_ ?_ ?_⟩ <;> decide +kernel

theorem witness_FlaskConfigurationCommands_3 (h : Obligations.FlaskConfigurationCommands) :
    ∃ t, exec (.stageFlask (pk [(12, 1, 1), (13, 1, 2), (14, 1, 13), (16, 4, 1000)]))
      (wf) = .next t := by
  refine ⟨_, h.2.2.1 _ _ ?_ ?_ ?_ ?_ ?_ ?_ ?_ ?_ ?_ ?_⟩ <;> decide +kernel

theorem witness_FlaskConfigurationCommands_4 (h : Obligations.FlaskConfigurationCommands) :
    ∃ t, exec (.stageFlask (pk [(12, 1, 1), (13, 1, 1), (14, 1, 0), (16, 1, 2), (17, 1, 1)]))
      (wf) = .next t := by
  refine ⟨_, h.2.2.2.1 _ _ ?_ ?_ ?_ ?_ ?_ ?_ ?_ ?_ ?_ ?_ ?_⟩ <;> decide +kernel

theorem witness_FlaskConfigurationCommands_5 (h : Obligations.FlaskConfigurationCommands) :
    ∃ t, exec (.commitConfig (pk [(12, 1, 1), (14, 1, 1)]))
      (wf) = .next t := by
  refine ⟨_, h.2.2.2.2.1 _ _ ?_ ?_ ?_ ?_ ?_ ?_ ?_ ?_ ?_⟩ <;> decide +kernel

theorem witness_FlaskConfigurationCommands_6 (h : Obligations.FlaskConfigurationCommands) :
    ∃ t, exec (.admitTenant (pk [(12, 1, 1), (14, 2, 1023)]))
      (wf.setCtx 1023 { ctx0 with anchored := false }) = .next t := by
  refine ⟨_, h.2.2.2.2.2.1 _ _ ?_ ?_ ?_ ?_ ?_ ?_ ?_ ?_ ?_ ?_⟩ <;> decide +kernel

theorem witness_FlaskConfigurationCommands_7 (h : Obligations.FlaskConfigurationCommands) :
    ∃ t, exec (.releaseTenant (pk [(12, 1, 1)]))
      (wf) = .next t := by
  refine ⟨_, h.2.2.2.2.2.2 _ _ ?_ ?_ ?_ ?_ ?_ ?_ ?_⟩ <;> decide +kernel

theorem witness_FlaskLifecycle_1 (h : Obligations.FlaskLifecycle) :
    ∃ t, exec (.resetFlask (pk [(12, 1, 1)]))
      (wf) = .next t := by
  refine ⟨_, h.1 _ _ ?_ ?_ ?_⟩ <;> decide +kernel

theorem witness_FlaskLifecycle_2 (h : Obligations.FlaskLifecycle) :
    ∃ t, exec (.queryFlask (pk [(12, 1, 1), (13, 1, 1)]))
      (wf) = .next t := by
  refine ⟨_, h.2.1 _ _ ?_ ?_ ?_ ?_⟩ <;> decide +kernel

theorem witness_FlaskLifecycle_3 (h : Obligations.FlaskLifecycle) :
    ∃ t, exec (.startFlask (pk [(12, 1, 1)]))
      (w.setFlask 1 { f1 with state := .loaded }) = .next t := by
  refine ⟨_, h.2.2.1 _ _ ?_ ?_ ?_ ?_ ?_ ?_ ?_⟩ <;> decide +kernel

theorem witness_FlaskLifecycle_4 (h : Obligations.FlaskLifecycle) :
    ∃ t, exec (.stopFlask (pk [(12, 1, 1)]))
      (wf) = .next t := by
  refine ⟨_, h.2.2.2.1 _ _ ?_ ?_ ?_ ?_⟩ <;> decide +kernel

theorem witness_FlaskLifecycle_5 (h : Obligations.FlaskLifecycle) :
    ∃ t, exec (.flaskResetComplete 1)
      (w.setFlask 1 { f1 with state := .resetting }) = .next t := by
  refine ⟨_, h.2.2.2.2.1 _ 1 ?_ ?_⟩ <;> decide +kernel

theorem witness_FlaskLifecycle_6 (h : Obligations.FlaskLifecycle) :
    ∃ t, exec (.revocationConfirm 1 6)
      (w.setFlask 1 { f1 with state := .resetting, unconfirmed := [6] }) = .next t := by
  refine ⟨_, h.2.2.2.2.2.1 _ 1 6⟩ <;> decide +kernel

theorem witness_FlaskLifecycle_7 (h : Obligations.FlaskLifecycle) :
    ∃ t, exec (.revokeTimeout 1 3)
      (w.setFlask 1 { f1 with state := .resetting, unconfirmed := [3] }) = .next t := by
  refine ⟨_, (h.2.2.2.2.2.2.1 _ 1 3 ?_).1 ?_⟩ <;> decide +kernel

theorem witness_FlaskLifecycle_8 (h : Obligations.FlaskLifecycle) :
    ∃ t, exec (.revokeTimeout 1 4)
      (w.setFlask 1 { f1 with state := .resetting, unconfirmed := [4] }) = .next t := by
  refine ⟨_, (h.2.2.2.2.2.2.1 _ 1 4 ?_).2 ?_⟩ <;> decide +kernel

theorem witness_FlaskLifecycle_9 (h : Obligations.FlaskLifecycle) :
    ∃ t, exec (.seriesTimeout 1)
      ({ wf with ex := { wf.ex with series := [{ kind := .config, generation := 1, members := [1], ticket := some tk }] } }) = .next t := by
  refine ⟨_, h.2.2.2.2.2.2.2 _ { kind := .config, generation := 1, members := [1], ticket := some tk } tk ?_ ?_ ?_ ?_⟩ <;> decide +kernel

theorem witness_JobCommands_1 (h : Obligations.JobCommands) :
    ∃ t, exec (.loadPourImage (pk [(12, 1, 1)]) { digest := moduleDigest wf })
      (wf) = .next t := by
  refine ⟨_, h.1 _ _ _ (loadOf (loadImage 1 0 { digest := moduleDigest wf } none (wf.taken (pk [(12, 1, 1)])))).1 (loadOf (loadImage 1 0 { digest := moduleDigest wf } none (wf.taken (pk [(12, 1, 1)])))).2 ?_ ?_ ?_ ?_ ?_ ?_ ?_ ?_⟩ <;> decide +kernel

theorem witness_JobCommands_2 (h : Obligations.JobCommands) :
    ∃ t, exec (.startJob (pk [(12, 2, 1), (14, 1, 1)]))
      (jb { job1 with image := { digest := moduleDigest wf } } wf) = .next t := by
  refine ⟨_, h.2.1 _ _ ?_ ?_ ?_ ?_ ?_ ?_ ?_ ?_⟩ <;> decide +kernel

theorem witness_JobCommands_3 (h : Obligations.JobCommands) :
    ∃ t, exec (.stopJob (pk [(12, 2, 1)]))
      (jb { job1 with state := .running } wf) = .next t := by
  refine ⟨_, h.2.2.1 _ _ ?_ ?_ ?_ ?_ ?_ ?_⟩ <;> decide +kernel

theorem witness_JobCommands_4 (h : Obligations.JobCommands) :
    ∃ t, exec (.queryJob (pk [(12, 2, 1)]))
      (jb job1 wf) = .next t := by
  refine ⟨_, h.2.2.2.1 _ _ ?_ ?_ ?_ ?_⟩ <;> decide +kernel

theorem witness_JobCommands_5 (h : Obligations.JobCommands) :
    ∃ t, exec (.unloadJob (pk [(12, 2, 1)]))
      (jb job1 wf) = .next t := by
  refine ⟨_, h.2.2.2.2.1 _ _ ?_ ?_ ?_ ?_ ?_⟩ <;> decide +kernel

theorem witness_JobCommands_6 (h : Obligations.JobCommands) :
    ∃ t, exec (.jobPlacement 1)
      (jb { job1 with state := .ready } wf) = .next t := by
  refine ⟨_, h.2.2.2.2.2.1 _ 1 1 [] [] ?_ ?_ ?_ ?_ ?_⟩ <;> decide +kernel

theorem witness_JobCommands_7 (h : Obligations.JobCommands) :
    ∃ t, exec (.jobStall 1)
      (jb { job1 with state := .running } wf) = .next t := by
  refine ⟨_, h.2.2.2.2.2.2 _ 1 ?_ ?_ ?_⟩ <;> decide +kernel

theorem witness_SynchronisationObjects_1 (h : Obligations.SynchronisationObjects) :
    ∃ t, exec (.createSync (pk [(12, 1, 3), (14, 1, 1), (18, 2, 1024)]))
      (wf) = .next t := by
  refine ⟨_, h.1 _ _ 0 ?_ ?_ ?_ ?_ ?_ ?_ ?_ ?_⟩ <;> decide +kernel

theorem witness_SynchronisationObjects_2 (h : Obligations.SynchronisationObjects) :
    ∃ t, exec (.destroySync (pk [(12, 2, 16383)]))
      (wf.setSync 16383 { kind := .counter, holder := 1 }) = .next t := by
  refine ⟨_, h.2.1 _ _ ?_ ?_ ?_ ?_ ?_⟩ <;> decide +kernel

theorem witness_SynchronisationObjects_3 (h : Obligations.SynchronisationObjects) :
    ∃ t, exec (.signalSync (pk [(12, 2, 16383), (16, 4, 65535)]))
      (wf.setSync 16383 { kind := .counter, holder := 1, value := 0xFFFFFFFF }) = .next t := by
  refine ⟨_, (h.2.2.1 _ _ ?_ ?_ ?_).1 ?_ ?_ ?_ ?_ ?_⟩ <;> decide +kernel

theorem witness_SynchronisationObjects_4 (h : Obligations.SynchronisationObjects) :
    ∃ t, exec (.signalSync (pk [(12, 2, 16383), (14, 1, 1)]))
      (wf.setSync 16383 { kind := .event, holder := 1 }) = .next t := by
  refine ⟨_, (h.2.2.1 _ _ ?_ ?_ ?_).2.1 ?_ ?_ ?_⟩ <;> decide +kernel

theorem witness_SynchronisationObjects_5 (h : Obligations.SynchronisationObjects) :
    ∃ t, exec (.signalSync (pk [(12, 2, 16383), (16, 4, 1024)]))
      (wf.setSync 16383 { kind := .barrier, holder := 1, parties := 3, arrivals := 2, value := 65535 }) = .next t := by
  refine ⟨_, (h.2.2.1 _ _ ?_ ?_ ?_).2.2.1 ?_ ?_ ?_ ?_ ?_⟩ <;> decide +kernel

theorem witness_SynchronisationObjects_6 (h : Obligations.SynchronisationObjects) :
    ∃ t, exec (.signalSync (pk [(12, 2, 16383), (14, 1, 3), (16, 4, 0x12345678)]))
      (wf.setSync 16383 { kind := .barrier, holder := 1, parties := 3, abandoned := true }) = .next t := by
  refine ⟨_, (h.2.2.1 _ _ ?_ ?_ ?_).2.2.2.1 ?_ ?_⟩ <;> decide +kernel

theorem witness_SynchronisationObjects_7 (h : Obligations.SynchronisationObjects) :
    ∃ t, exec (.signalSync (pk [(12, 2, 16383), (16, 4, 1)]))
      (wf.setSync 16383 { kind := .counter, holder := 1, abandoned := true }) = .next t := by
  refine ⟨_, (h.2.2.1 _ _ ?_ ?_ ?_).2.2.2.2 ?_ ?_ ?_ ?_ ?_⟩ <;> decide +kernel

theorem witness_SynchronisationObjects_8 (h : Obligations.SynchronisationObjects) :
    ∃ t, exec (.querySync (pk [(12, 2, 16383)]))
      (wf.setSync 16383 { kind := .event, holder := 1 }) = .next t := by
  refine ⟨_, h.2.2.2.1 _ _ ?_ ?_ ?_ ?_⟩ <;> decide +kernel

theorem witness_SynchronisationObjects_9 (h : Obligations.SynchronisationObjects) :
    ∃ t, exec (.stallMs 10000)
      (w) = .next t := by
  refine ⟨_, h.2.2.2.2 _ 10000 ?_ ?_ ?_⟩ <;> decide +kernel

theorem witness_IssueAndFiring_1 (h : Obligations.IssueAndFiring) :
    ∃ t, exec (.entryIssue 2 0)
      (q2 { job := none, ctx := 0, flask := 1, entries := [nopEn] } wf) = .next t := by
  refine ⟨_, h.1 _ 2 0 { job := none, ctx := 0, flask := 1, entries := [nopEn] } [] nopEn ?_ ?_ ?_ ?_ ?_ ?_ ?_ ?_⟩ <;> decide +kernel

theorem witness_IssueAndFiring_2 (h : Obligations.IssueAndFiring) :
    ∃ t, exec (.entryIssue 1 0)
      ((jb stepJob wf).setQueue 1 0 { pours := [{ job := some 1, ctx := 0, flask := 1, entries := [{ op := 0x1000 }] }] }) = .next t := by
  refine ⟨_, h.2.1 _ 0 1 { job := some 1, ctx := 0, flask := 1, entries := [{ op := 0x1000 }] } [] { op := 0x1000 } ?_ ?_ ?_ ?_ ?_ ?_ ?_ ?_⟩ <;> decide +kernel

theorem witness_IssueAndFiring_3 (h : Obligations.IssueAndFiring) :
    ∃ t, exec (.entryComplete 2 0 0 1 0)
      (q2 { job := none, ctx := 0, flask := 1, entries := [nopEn], inFlight := [0] } wf) = .next t := by
  refine ⟨_, h.2.2.1 _ 2 0 0 1 0 { job := none, ctx := 0, flask := 1, entries := [nopEn], inFlight := [0] } [] ?_ ?_ ?_ ?_ ?_ ?_ ?_⟩ <;> decide +kernel

theorem witness_IssueAndFiring_4 (h : Obligations.IssueAndFiring) :
    ∃ t, exec (.nopEntry 2 0 0)
      (q2 { job := none, ctx := 0, flask := 1, entries := [nopEn], inFlight := [0] } wf) = .next t := by
  refine ⟨_, h.2.2.2.1 _ 2 0 0 { job := none, ctx := 0, flask := 1, entries := [nopEn], inFlight := [0] } [] nopEn ?_ ?_ ?_⟩ <;> decide +kernel

theorem witness_IssueAndFiring_5 (h : Obligations.IssueAndFiring) :
    ∃ t, exec (.coreStepFire 1 0 .none)
      (stepState) = .next t := by
  refine ⟨_, (h.2.2.2.2.1 _ 1 0 { core := 0, entry := 0, ins := [0], outs := [1] } ?_ ?_ ?_ ?_ ?_ ?_ ?_ ?_ ?_).1⟩ <;> decide +kernel

theorem witness_IssueAndFiring_6 (h : Obligations.IssueAndFiring) :
    ∃ t, exec (.coreStepFire 1 0 .translation)
      (stepState) = .next t := by
  refine ⟨_, (h.2.2.2.2.1 _ 1 0 { core := 0, entry := 0, ins := [0], outs := [1] } ?_ ?_ ?_ ?_ ?_ ?_ ?_ ?_ ?_).2.2⟩ <;> decide +kernel

theorem witness_IssueAndFiring_7 (h : Obligations.IssueAndFiring) :
    ∃ t, exec (.paceOverrun 1 0)
      (pacedF (jb { stepJob with begun := true, inFlight := [0] } stepState)) = .next t := by
  refine ⟨_, h.2.2.2.2.2.1 _ 1 0 { core := 0, entry := 0, ins := [0], outs := [1] } ?_ ?_ ?_ ?_ ?_ ?_ ?_⟩ <;> decide +kernel

theorem witness_IssueAndFiring_8 (h : Obligations.IssueAndFiring) :
    ∃ t, exec (.spanBoundary [])
      (pacedF w) = .next t := by
  refine ⟨_, (h.2.2.2.2.2.2.1 _ [] ?_).2 ?_⟩ <;> decide +kernel

theorem witness_IssueAndFiring_9 (h : Obligations.IssueAndFiring) :
    ∃ t, exec (.spanBoundary [])
      ({ w with now := 1000000001 }.setFlask 1 { f1 with mode := .paced, spanUs := 30, lastBoundary := some 1000000000 }) = .next t := by
  refine ⟨_, (h.2.2.2.2.2.2.1 _ [] ?_).1 ?_⟩ <;> decide +kernel

theorem witness_IssueAndFiring_10 (h : Obligations.IssueAndFiring) :
    ∃ t, exec (.partingLine 1)
      (wf) = .next t := by
  refine ⟨_, h.2.2.2.2.2.2.2 _ 1 ?_ ?_⟩ <;> decide +kernel

theorem witness_StepsAndFaults_1 (h : Obligations.StepsAndFaults) :
       Tab.get 0 ((fireStep 1 0 { core := 0, entry := 0, ins := [0], outs := [1] } stepState).job 1).tokens 1 = 1 := by
     rw [(h.1 stepState 1 0 { core := 0, entry := 0, ins := [0], outs := [1] } (by decide) (by decide) (by decide)).1 1 (by decide +kernel)]
     decide +kernel
theorem witness_StepsAndFaults_2 (h : Obligations.StepsAndFaults) : jobFault 1 4 wf = wf := h.2.1 _ _ _ (by decide +kernel)
theorem witness_StepsAndFaults_3 (h : Obligations.StepsAndFaults) : jobFault 1 7 stepState = jobFaulted 1 7 stepState :=
     h.2.2.1 _ _ (by decide +kernel)
theorem witness_StepsAndFaults_4 (h : Obligations.StepsAndFaults) :
       jobFault 1 4 (stepState.setFlask 1 { f1 with tenants := [0, 1] })
         = contextTeardown 0 (jobFaulted 1 4 (stepState.setFlask 1 { f1 with tenants := [0, 1] })) :=
     h.2.2.2.1 _ _ _ (by decide +kernel) (by decide) (by decide +kernel) (by decide +kernel)
theorem witness_StepsAndFaults_5 (h : Obligations.StepsAndFaults) :
       jobFault 1 1 stepState = flaskReset 1 none (jobFaulted 1 1 stepState) :=
     h.2.2.2.2 _ _ _ (by decide +kernel) (by decide) (by decide +kernel)
theorem witness_SubmittedWork_1 (h : Obligations.SubmittedWork) :
    ∃ t, exec (.submitPour (pk [(16, 8, 0x200000), (24, 4, 1)]) 1 [])
      ((wm (leBytes 2 0x2000)).setFlask 1 { f1 with committed := { f1.committed with queues := [(2, 0)] } }) = .next t := by
  refine ⟨_, h.1 _ _ 1 1 ?_ ?_ ?_ ?_ ?_ ?_ ?_ ?_ ?_ ?_ ?_ ?_ ?_⟩ <;> decide +kernel

theorem witness_SubmittedWork_2 (h : Obligations.SubmittedWork) :
    ∃ t, exec (.loadTileProgram (pk [(12, 1, 1)]))
      (w.setFlask 1 { f1 with mode := .tile, state := .created }) = .next t := by
  refine ⟨_, h.2.1 _ _ ?_ ?_ ?_ ?_ ?_ ?_ ?_⟩ <;> decide +kernel

theorem witness_SubmittedWork_3 (h : Obligations.SubmittedWork) :
    ∃ t, exec (.submitTiles (pk [(24, 4, 1)]) [(none, 0x100000)])
      (w.setFlask 1 { f1 with mode := .tile, tileProgram := true, committed := { f1.committed with cores := [(0, 0)] } }) = .next t := by
  refine ⟨_, h.2.2.1 _ _ 1 [(none, 0x100000)] ?_ ?_ ?_ ?_ ?_ ?_ ?_ ?_⟩ <;> decide +kernel

theorem witness_SubmittedWork_4 (h : Obligations.SubmittedWork) :
    ∃ t, exec (.tileTaskComplete 1 (0, 0))
      (w.setFlask 1 { f1 with mode := .tile, tileProgram := true, tasks := [{ ctx := 0, core := some (0, 0) }] }) = .next t := by
  refine ⟨_, h.2.2.2 _ 1 (0, 0)⟩ <;> decide +kernel

def streamJob : Job := { used := true, flask := 1, image := { drifts := [⟨0, 0, 0, {}⟩] } }
def strm (x : Stream) (s : State) : State := { s.setJob 1 streamJob with ta := { s.ta with streams := [(0, x)] } }
def str1 : Stream := { used := true, job := 1, state := leBytes 4 0x3F800000 }
def withHostMem (a : Nat) (b : List Byte) (s : State) : State := { s with hostMem := Memory.write s.hostMem a b }
def capOf (s : State) : List Byte := (s.taken (pk [])).capsule 0
theorem witness_PartialRecords_1 (h : Obligations.PartialRecords) :
    ({ v := -1, nan := true } : Acc).bytes[12]? = some 1 → (1 : Byte).toNat < 8 := fun e => ((h.1 { v := -1, nan := true }).2.2.2 1 e).2.2.2
theorem witness_PartialRecords_2 (h : Obligations.PartialRecords) :
    [(Num.fin false 1 0, Num.fin true 3 0), (Num.nan, Num.nan)].foldl (fun (a : Acc) p => a.add p.1 p.2) {}
      = [(Num.nan, Num.nan), (Num.fin false 1 0, Num.fin true 3 0)].foldl (fun (a : Acc) p => a.add p.1 p.2) {} :=
    h.2.2.2 _ _ (List.Perm.swap _ _ _)
theorem witness_DriftKeepsItsBounds_1 (h : Obligations.DriftKeepsItsBounds) :
    (({ exp := 127, maxExp := 127 } : Drift).move { sat := 1 }).exp ≤ 127 := (h.1 { exp := 127, maxExp := 127 } { sat := 1 } (by decide) (by decide)).2.1
theorem witness_DriftKeepsItsBounds_2 (h : Obligations.DriftKeepsItsBounds) :
    (({ exp := 3, maxExp := 127, holdLeft := 1 } : Drift).move { sat := 1 }).exp = 3 :=
    ((h.1 { exp := 3, maxExp := 127, holdLeft := 1 } { sat := 1 } (by decide) (by decide)).2.2.2.2.1 (by decide)).1
theorem witness_DriftKeepsItsBounds_3 (h : Obligations.DriftKeepsItsBounds) :
    ({ nan := true } : Acc).readout 0 0 0 = .nan ∧ ({ pinf := true, ninf := true } : Acc).readout 0 0 0 = .nan
      ∧ ({ ninf := true } : Acc).readout 0 0 0 = .inf true ∧ ({} : Acc).readout 5 0 0 = .fin false 0 0 :=
    ⟨(h.2 _ 0 0 0).1 (.inl rfl), (h.2 _ 0 0 0).1 (.inr ⟨rfl, rfl⟩), (h.2 _ 0 0 0).2.2.1 rfl rfl rfl,
      (h.2 _ 5 0 0).2.2.2 rfl rfl rfl rfl⟩
theorem witness_DriftAndStreamCommands_1 (h : Obligations.DriftAndStreamCommands) :
    ∃ t, exec (.queryDrift (pk [(12, 2, 1)]))
      (wf.setJob 1 streamJob) = .next t := by
  refine ⟨_, h.1 _ _ ?_ ?_ ?_ ?_ ?_⟩ <;> decide +kernel

theorem witness_DriftAndStreamCommands_2 (h : Obligations.DriftAndStreamCommands) :
    ∃ t, exec (.setDrift (pk [(12, 2, 1), (16, 1, 0x81), (17, 1, 0x81), (18, 1, 0x7F), (20, 2, 4095), (22, 2, 4095), (24, 1, 15)]))
      (wf.setJob 1 streamJob) = .next t := by
  refine ⟨_, h.2.1 _ _ ?_ ?_ ?_ ?_ ?_ ?_ ?_ ?_⟩ <;> decide +kernel

theorem witness_DriftAndStreamCommands_3 (h : Obligations.DriftAndStreamCommands) :
    ∃ t, exec (.queryStream (pk [(12, 2, 1)]))
      (strm str1 wf) = .next t := by
  refine ⟨_, (h.2.2 _ _ 0 ?_ ?_ ?_ ?_).1 ?_⟩ <;> decide +kernel

theorem witness_DriftAndStreamCommands_4 (h : Obligations.DriftAndStreamCommands) :
    ∃ t, exec (.resetStream (pk [(12, 2, 1)]))
      (strm str1 wf) = .next t := by
  refine ⟨_, (h.2.2 _ _ 0 ?_ ?_ ?_ ?_).2.1 ?_⟩ <;> decide +kernel

theorem witness_DriftAndStreamCommands_5 (h : Obligations.DriftAndStreamCommands) :
    ∃ t, exec (.exportStream (pk [(12, 2, 1), (24, 8, 0x1000), (32, 8, 68)]))
      ((strm str1 wf).setFlask 1 { f1 with state := .stopped }) = .next t := by
  refine ⟨_, (h.2.2 _ _ 0 ?_ ?_ ?_ ?_).2.2.1 ?_ ?_ ?_ ?_ ?_⟩ <;> decide +kernel

theorem witness_DriftAndStreamCommands_6 (h : Obligations.DriftAndStreamCommands) :
    ∃ t, exec (.exportStream (pk [(12, 2, 1), (24, 8, 0x1000), (32, 8, 68)]))
      (strm str1 wf) = .next t := by
  refine ⟨_, (h.2.2 _ _ 0 ?_ ?_ ?_ ?_).2.2.2.1 ?_ ?_ ?_ ?_⟩ <;> decide +kernel

theorem witness_DriftAndStreamCommands_7 (h : Obligations.DriftAndStreamCommands) :
    ∃ t, exec (.importStream (pk [(12, 2, 1), (24, 8, 0x1000)]))
      (withHostMem 0x1000 (capOf (strm str1 wf)) (strm str1 wf)) = .next t := by
  refine ⟨_, (h.2.2 _ _ 0 ?_ ?_ ?_ ?_).2.2.2.2 ?_ ?_ ?_ ?_ ?_ ?_ ?_ ?_ ?_⟩ <;> decide +kernel

def jr (op : Nat) : PourRun := { job := some 1, ctx := 0, flask := 1, entries := [en op [0x200000, 0x200040, 0x200080]], inFlight := [0] }
def sjob (s : State) : State := { s.setJob 1 { used := true, flask := 1 } with ta := { s.ta with streams := [(0, { used := true, job := 1, state := leBytes 4 0x3F800000 })] } }
def jrun (op : Nat) (s : State) : State := (sjob s).setQueue 1 0 { pours := [jr op] }
theorem witness_ConvolutionAndSequenceOperations_1 (h : Obligations.ConvolutionAndSequenceOperations) :
    ∃ t, exec (.conv 0 0 (0, 0) {} [] [])
      (run 1 0x010 [0x200000, 0x200040, 0x200080] (wm (leBytes 4 0x3F800000))) = .next t := by
  refine ⟨_, (h.1 _ 0 0 (0, 0) {} [] [] (pr 0x010 [0x200000, 0x200040, 0x200080]) (en 0x010 [0x200000, 0x200040, 0x200080])).1 ?_ ?_ ?_⟩ <;> decide +kernel

theorem witness_ConvolutionAndSequenceOperations_2 (h : Obligations.ConvolutionAndSequenceOperations) :
    ∃ t, exec (.dwconv 0 0 (0, 0) {} [] [])
      (run 1 0x013 [0x200000, 0x200040, 0x200080] (wm (leBytes 4 0x3F800000))) = .next t := by
  refine ⟨_, (h.1 _ 0 0 (0, 0) {} [] [] (pr 0x013 [0x200000, 0x200040, 0x200080]) (en 0x013 [0x200000, 0x200040, 0x200080])).2 ?_ ?_⟩ <;> decide +kernel

theorem witness_ConvolutionAndSequenceOperations_3 (h : Obligations.ConvolutionAndSequenceOperations) :
    ∃ t, exec (.s2c 0 0 {} [])
      (run 1 0x014 [0x200000, 0x200040, 0x200080] (wm (leBytes 4 0x3F800000))) = .next t := by
  refine ⟨_, (h.2.1 _ 0 0 {} [] (pr 0x014 [0x200000, 0x200040, 0x200080]) (en 0x014 [0x200000, 0x200040, 0x200080]) ?_).1 ?_⟩ <;> decide +kernel

theorem witness_ConvolutionAndSequenceOperations_4 (h : Obligations.ConvolutionAndSequenceOperations) :
    ∃ t, exec (.c2s 0 0 { b := 8 } [])
      (run 1 0x015 [0x200000, 0x200040, 0x200080] (wm (leBytes 4 0x3F800000))) = .next t := by
  refine ⟨_, (h.2.1 _ 0 0 { b := 8 } [] (pr 0x015 [0x200000, 0x200040, 0x200080]) (en 0x015 [0x200000, 0x200040, 0x200080]) ?_).2 ?_⟩ <;> decide +kernel

theorem witness_ConvolutionAndSequenceOperations_5 (h : Obligations.ConvolutionAndSequenceOperations) :
    ∃ t, exec (.recur 0 0 (0, 0) { program := [⟨0, 0, 0, 0⟩] } [] (some (1, true)))
      (jrun 0x020 (wm (leBytes 4 0x3F800000))) = .next t := by
  refine ⟨_, h.2.2.1 _ 0 0 0 (0, 0) { program := [⟨0, 0, 0, 0⟩] } [] (some (1, true)) (jr 0x020) (en 0x020 [0x200000, 0x200040, 0x200080]) (by decide +kernel) (by decide +kernel) (by decide +kernel) (fun y e => by cases e; decide)⟩ <;> decide +kernel

theorem witness_ConvolutionAndSequenceOperations_6 (h : Obligations.ConvolutionAndSequenceOperations) :
    ∃ t, exec (.ssmStep 0 0 (0, 0) { n := 64 } [] none)
      (jrun 0x021 (wm (leBytes 4 0x3F800000))) = .next t := by
  refine ⟨_, h.2.2.2.1 _ 0 0 0 (0, 0) { n := 64 } [] none (jr 0x021) (en 0x021 [0x200000, 0x200040, 0x200080]) (by decide +kernel) (by decide +kernel) (by decide) (by decide) (fun y e => by cases e)⟩ <;> decide +kernel

theorem witness_ConvolutionAndSequenceOperations_7 (h : Obligations.ConvolutionAndSequenceOperations) :
    ∃ t, exec (.scan 0 0 (0, 0) {} [] none)
      (jrun 0x022 (wm (leBytes 4 0x3F800000))) = .next t := by
  refine ⟨_, h.2.2.2.2 _ 0 0 0 (0, 0) {} [] none (jr 0x022) (en 0x022 [0x200000, 0x200040, 0x200080]) (by decide +kernel) (by decide +kernel) (fun y e => by cases e)⟩ <;> decide +kernel

theorem witness_WindowsAndChunks_1 (h : Obligations.WindowsAndChunks) : 2 < 5 ∧ 4 < 5 :=
    ⟨h.1 2 5 2 (-2) (by decide) (by decide) (by decide) (by decide), h.1 1 5 4 4 (by decide) (by decide) (by decide) (by decide)⟩
theorem witness_WindowsAndChunks_2 (h : Obligations.WindowsAndChunks) : (chunkLengths 7 3)[2]? = some 2 :=
    (h.2.1 7 3 (by decide)).2.2 2 (by decide)
theorem witness_WindowsAndChunks_3 (h : Obligations.WindowsAndChunks) :
    runGates ([⟨1, 7, 0, 1⟩] ++ ⟨0, 0, 0, 0⟩ :: [⟨1, 8, 0, 1⟩]) (List.replicate 16 0) = runGates [⟨1, 7, 0, 1⟩] (List.replicate 16 0) :=
    h.2.2.2 _ _ _ _ rfl
def oks (e : Except Nat State) : State := match e with | .ok x => x | .error _ => State.reset
def mkp : Packet := pk [(12, 1, 1), (14, 2, 1), (16, 2, 64), (24, 4, 1048576)]
def mkq : Seq := { owner := 0, flask := 1, layers := 1, lLat := 64, maxTokens := 1048576 }
def mkx : Seq := { mkq with pTok := pTokOf (bytesOf false) mkq.recSize, hash := mkq.layoutHash, key := 0 }
def seq1 : Seq := { mkx with state := .live, fill := 2, wbase := kvBase, hash := 0 }
def sq (x : Seq) (s : State) : State := s.setSeq 0 x
def frk : Packet := pk [(14, 2, 1), (20, 4, 5)]
def fam : Seq := { seq1 with family := some 0 }
def famT : Seq := { fam with owner := 0, family := some 0, groups := [], step := none, stepLen := 0, stepHeld := false, trim := [], closers := [], cause := 0 }
def lenT (s : State) : State := vwrite 0 0x200000 (raw 0x70 [(0x40, 2, 1), (0x44, 4, 1), (0x58, 2, 1)]) s
def row1 : LenRow := { seq := 0, offset := 0, len := 1, reset := false, noAppend := false, held := false, clean := true }
def att (op : Nat) (x : Seq) : State := run 1 op [0x200000, 0x200040, 0x200080] (sq x (lenT (wm [])))
def forkS : State := run 1 0x033 [0x200000] (sq fam (wm (raw 32 [(0, 2, 1), (16, 2, 0xFFFF), (20, 2, 1), (22, 1, 1)])))
theorem witness_SequenceAndFamilyCommands_1 (h : Obligations.SequenceAndFamilyCommands) :
    ∃ t, exec (.createSequence mkp)
      (wf) = .next t := by
  refine ⟨_, h.1 _ mkp 0 (oks (makeSeq 0 mkx (wf.taken mkp))) ?_ ?_ ?_ ?_ ?_ ?_ ?_ ?_ ?_⟩ <;> decide +kernel

theorem witness_SequenceAndFamilyCommands_2 (h : Obligations.SequenceAndFamilyCommands) :
    ∃ t, exec (.destroySequence (pk []))
      (sq seq1 wf) = .next t := by
  refine ⟨_, (h.2.1 _ _ ?_ ?_).1 ?_ ?_⟩ <;> decide +kernel

theorem witness_SequenceAndFamilyCommands_3 (h : Obligations.SequenceAndFamilyCommands) :
    ∃ t, exec (.destroySequence (pk []))
      (sq { seq1 with step := some 0x200040 } wf) = .next t := by
  refine ⟨_, (h.2.1 _ _ ?_ ?_).2.1 ?_ ?_⟩ <;> decide +kernel

theorem witness_SequenceAndFamilyCommands_4 (h : Obligations.SequenceAndFamilyCommands) :
    ∃ t, exec (.querySequence (pk []))
      (sq seq1 wf) = .next t := by
  refine ⟨_, (h.2.1 _ _ ?_ ?_).2.2.1 ?_⟩ <;> decide +kernel

theorem witness_SequenceAndFamilyCommands_5 (h : Obligations.SequenceAndFamilyCommands) :
    ∃ t, exec (.trimSequence (pk [(16, 4, 2)]))
      (sq seq1 wf) = .next t := by
  refine ⟨_, ((h.2.1 _ _ ?_ ?_).2.2.2 ?_ ?_ ?_).1 ?_⟩ <;> decide +kernel

theorem witness_SequenceAndFamilyCommands_6 (h : Obligations.SequenceAndFamilyCommands) :
    ∃ t, exec (.trimSequence (pk [(16, 4, 0)]))
      (sq { seq1 with step := some 0x200040 } wf) = .next t := by
  refine ⟨_, ((h.2.1 _ _ ?_ ?_).2.2.2 ?_ ?_ ?_).2 ?_⟩ <;> decide +kernel

theorem witness_SequenceAndFamilyCommands_7 (h : Obligations.SequenceAndFamilyCommands) :
    ∃ t, exec (.forkSequence frk)
      (sq fam wf) = .next t := by
  refine ⟨_, h.2.2.1 _ frk 1 0 (oks (makeTargets famT [(1, false)] (((sq fam wf).taken frk).setSeq 0 fam))) ?_ ?_ ?_ ?_ ?_ ?_ ?_ ?_ ?_ ?_ ?_ ?_⟩ <;> decide +kernel

theorem witness_SequenceAndFamilyCommands_8 (h : Obligations.SequenceAndFamilyCommands) :
    ∃ t, exec (.queryFamily (pk []))
      (sq fam wf) = .next t := by
  refine ⟨_, (h.2.2.2 _ (pk []) 0 [] ?_ ?_).1 ?_⟩ <;> decide +kernel

theorem witness_SequenceAndFamilyCommands_9 (h : Obligations.SequenceAndFamilyCommands) :
    ∃ t, exec (.destroyFamily (pk []))
      (sq fam wf) = .next t := by
  refine ⟨_, (h.2.2.2 _ (pk []) 0 [] ?_ ?_).2 ?_ ?_⟩ <;> decide +kernel

theorem witness_AttentionOperations_1 (h : Obligations.AttentionOperations) :
    ∃ t, exec (.kvAppend 0 0 (0, 0) {} [])
      (att 0x030 { seq1 with step := some 0x200040, stepLen := 1 }) = .next t := by
  refine ⟨_, (h.1 _ 0 0 (0, 0) {} [] (pr 0x030 [0x200000, 0x200040, 0x200080]) (en 0x030 [0x200000, 0x200040, 0x200080]) row1 [] ?_ ?_ ?_ ?_).1 ?_⟩ <;> decide +kernel

theorem witness_AttentionOperations_2 (h : Obligations.AttentionOperations) :
    ∃ t, exec (.kvAppend 0 0 (0, 0) { first := true } [])
      (att 0x030 seq1) = .next t := by
  refine ⟨_, (h.1 _ 0 0 (0, 0) { first := true } [] (pr 0x030 [0x200000, 0x200040, 0x200080]) (en 0x030 [0x200000, 0x200040, 0x200080]) row1 [] ?_ ?_ ?_ ?_).2 ?_ ?_ (openSteps 0 0x200040 0 [row1] (att 0x030 seq1)).1 ?_⟩ <;> decide +kernel

theorem witness_AttentionOperations_3 (h : Obligations.AttentionOperations) :
    ∃ t, exec (.attend 0 0 (0, 0) {} [])
      (att 0x031 seq1) = .next t := by
  refine ⟨_, h.2.1 _ 0 0 (0, 0) {} [] (pr 0x031 [0x200000, 0x200040, 0x200080]) (en 0x031 [0x200000, 0x200040, 0x200080]) row1 [] ?_ ?_ ?_⟩ <;> decide +kernel

theorem witness_AttentionOperations_4 (h : Obligations.AttentionOperations) :
    ∃ t, exec (.attendPacked 0 0 (0, 0) {} [])
      (run 1 0x032 [0x200000, 0x200040, 0x200080] (wm [])) = .next t := by
  refine ⟨_, h.2.2.1 _ 0 0 (0, 0) {} [] (pr 0x032 [0x200000, 0x200040, 0x200080]) (en 0x032 [0x200000, 0x200040, 0x200080]) ?_⟩ <;> decide +kernel

theorem witness_AttentionOperations_5 (h : Obligations.AttentionOperations) :
    ∃ t, exec (.kvFork 0 0)
      (forkS) = .next t := by
  refine ⟨_, h.2.2.2.1 _ 0 0 (pr 0x033 [0x200000]) (en 0x033 [0x200000]) (forkRows 0 0 0 0x200000 1 0 [forkS.forkRow 0 0x200000 0] [] (noteActed 0 0 forkS)).1 ?_ ?_ ?_ ?_ ?_⟩ <;> decide +kernel

theorem witness_AttentionOperations_6 (h : Obligations.AttentionOperations) :
    ∃ t, exec (.sample 0 0 {} [])
      (att 0x034 seq1) = .next t := by
  refine ⟨_, h.2.2.2.2 _ 0 0 {} [] (pr 0x034 [0x200000, 0x200040, 0x200080]) (en 0x034 [0x200000, 0x200040, 0x200080]) ?_ ?_ ?_⟩ <;> decide +kernel

def arr (op : Nat) (bytes : List Byte) : State := run 1 op [0x200000, 0x200040, 0x200080, 0x2000C0, 0x200100, 0x200140, 0x200180] (wm bytes)
def ar (op : Nat) : PourRun := pr op [0x200000, 0x200040, 0x200080, 0x2000C0, 0x200100, 0x200140, 0x200180]
def ae (op : Nat) : Entry := en op [0x200000, 0x200040, 0x200080, 0x2000C0, 0x200100, 0x200140, 0x200180]
def mapT : MapTable := { created := true, owner := 1, rowBytes := 64, rows := 32768, slots := 1, t3Bytes := 0x200000, default := List.replicate 64 0 }
def mp (x : MapTable) (s : State) : State := s.setMapTable 15 x
def withT3 (s : State) : State := s.setFlask 1 { f1 with committed := { quota := [(1, 4096, 4096), (2, 4096, 4096), (3, 4096, 0)] } }
def routed (s : State) : State := { s with ta := { s.ta with route := { mode := 2, points := [(0, 0), (1000000, 0)], at_ := some (0, 0) } } }
theorem witness_GatherAndTrainingOperations_1 (h : Obligations.GatherAndTrainingOperations) :
    ∃ t, exec (.vqEncode 0 0 1 2 1 [])
      (arr 0x035 []) = .next t := by
  refine ⟨_, (h.1 _ 0 0 1 2 1 [] (ar 0x035) (ae 0x035)).1 ?_⟩ <;> decide +kernel

theorem witness_GatherAndTrainingOperations_2 (h : Obligations.GatherAndTrainingOperations) :
    ∃ t, exec (.codeGather 0 0 2 8 1 [])
      (arr 0x036 (leBytes 4 7 ++ leBytes 4 0xFFFFFFFF)) = .next t := by
  refine ⟨_, (h.1 _ 0 0 2 8 1 [] (ar 0x036) (ae 0x036)).2 ?_ ?_⟩ <;> decide +kernel

theorem witness_GatherAndTrainingOperations_3 (h : Obligations.GatherAndTrainingOperations) :
    ∃ t, exec (.tableGather 0 0 { table := 15 })
      (mp mapT (arr 0x037 (leBytes 8 32767))) = .next t := by
  refine ⟨_, h.2.1 _ 0 0 { table := 15 } (ar 0x037) (ae 0x037) ?_ ?_ ?_ ?_⟩ <;> decide +kernel

theorem witness_GatherAndTrainingOperations_4 (h : Obligations.GatherAndTrainingOperations) :
    ∃ t, exec (.gradW 0 0 (0, 0) 1 1 [] [])
      (arr 0x060 []) = .next t := by
  refine ⟨_, h.2.2.1 _ 0 0 (0, 0) 1 1 [] [] (ar 0x060) (ae 0x060) ?_⟩ <;> decide +kernel

theorem witness_GatherAndTrainingOperations_5 (h : Obligations.GatherAndTrainingOperations) :
    ∃ t, exec (.attendGrad 0 0 (0, 0) { dh := 1 } [])
      (arr 0x061 []) = .next t := by
  refine ⟨_, h.2.2.2.1 _ 0 0 (0, 0) { dh := 1 } [] (ar 0x061) (ae 0x061) ?_⟩ <;> decide +kernel

theorem witness_GatherAndTrainingOperations_6 (h : Obligations.GatherAndTrainingOperations) :
    ∃ t, exec (.optStep 0 0 {})
      (arr 0x062 (raw 68 [(64, 4, 0x7F800000)])) = .next t := by
  refine ⟨_, (h.2.2.2.2.1 _ 0 0 {} (ar 0x062) (ae 0x062) ?_).1 ⟨0, by decide +kernel⟩⟩ <;> decide +kernel

theorem witness_GatherAndTrainingOperations_7 (h : Obligations.GatherAndTrainingOperations) :
    ∃ t, exec (.optStep 0 0 {})
      (arr 0x062 []) = .next t := by
  refine ⟨_, (h.2.2.2.2.1 _ 0 0 {} (ar 0x062) (ae 0x062) ?_).2 ?_⟩ <;> decide +kernel

theorem witness_GatherAndTrainingOperations_8 (h : Obligations.GatherAndTrainingOperations) :
    ∃ t, exec (.quantize 0 0 (0, 0) 1 1 [{}, {}, { w4 := true }])
      (arr 0x063 []) = .next t := by
  refine ⟨_, (h.2.2.2.2.2 _ 0 0 (0, 0) 1 1 [{}, {}, { w4 := true }] (ar 0x063) (ae 0x063) ?_).1 ?_⟩ <;> decide +kernel

theorem witness_GatherAndTrainingOperations_9 (h : Obligations.GatherAndTrainingOperations) :
    ∃ t, exec (.quantize 0 0 (0, 0) 1 1 [])
      (arr 0x063 []) = .next t := by
  refine ⟨_, (h.2.2.2.2.2 _ 0 0 (0, 0) 1 1 [] (ar 0x063) (ae 0x063) ?_).2 ?_⟩ <;> decide +kernel

theorem witness_MapTablesAndRoute_1 (h : Obligations.MapTablesAndRoute) :
    ∃ t, exec (.createMapTable (pk [(12, 1, 15), (13, 1, 1), (16, 2, 64), (18, 1, 0), (20, 4, 32768), (24, 2, 1), (28, 4, 1), (32, 8, 0x200000)]))
      (withT3 (wm [])) = .next t := by
  refine ⟨_, h.1 _ _ ?_ ?_ ?_ ?_ ?_ ?_ ?_ ?_ ?_⟩ <;> decide +kernel

theorem witness_MapTablesAndRoute_2 (h : Obligations.MapTablesAndRoute) :
    ∃ t, exec (.writeMapTiles (pk [(12, 1, 15), (16, 8, 0x1000)]))
      (mp mapT wf) = .next t := by
  refine ⟨_, (h.2.1 _ _ ?_ ?_ ?_ ?_ ?_ ?_ ?_ ?_).choose_spec.2⟩ <;> decide +kernel

theorem witness_MapTablesAndRoute_3 (h : Obligations.MapTablesAndRoute) :
    ∃ t, exec (.mapTileWriteComplete 15)
      (mp { mapT with writing := some (tk, [{ key := 3, addr := 64, data := [1] }]) } wf) = .next t := by
  refine ⟨_, (h.2.2.1 _ 15 tk { key := 3, addr := 64, data := [1] } ?_ ?_).choose_spec.1⟩ <;> decide +kernel

theorem witness_MapTablesAndRoute_4 (h : Obligations.MapTablesAndRoute) :
    ∃ t, exec (.switchMapVersion (pk [(12, 1, 15)]))
      (mp mapT wf) = .next t := by
  refine ⟨_, (h.2.2.2.1 _ _ ?_ ?_).1 ?_ ?_ ?_⟩ <;> decide +kernel

theorem witness_MapTablesAndRoute_5 (h : Obligations.MapTablesAndRoute) :
    ∃ t, exec (.queryMap (pk [(12, 1, 15)]))
      (mp mapT wf) = .next t := by
  refine ⟨_, (h.2.2.2.1 _ _ ?_ ?_).2.1 ?_ ?_⟩ <;> decide +kernel

theorem witness_MapTablesAndRoute_6 (h : Obligations.MapTablesAndRoute) :
    ∃ t, exec (.destroyMapTable (pk [(12, 1, 15)]))
      (mp mapT wf) = .next t := by
  refine ⟨_, (h.2.2.2.1 _ _ ?_ ?_).2.2 ?_ ?_ ?_ ?_⟩ <;> decide +kernel

theorem witness_MapTablesAndRoute_7 (h : Obligations.MapTablesAndRoute) :
    ∃ t, exec (.setRoute (pk []))
      (routed w) = .next t := by
  refine ⟨_, h.2.2.2.2.1 _ _ ?_ ?_⟩ <;> decide +kernel

theorem witness_MapTablesAndRoute_8 (h : Obligations.MapTablesAndRoute) :
    ∃ t, exec (.routePrefetchTick)
      (routed w) = .next t := by
  refine ⟨_, h.2.2.2.2.2.1 _ (0, 0) ?_ ?_⟩ <;> decide +kernel

theorem witness_MapTablesAndRoute_9 (h : Obligations.MapTablesAndRoute) :
    ∃ t, exec (.tileBlockFetched 15 3 true)
      (mp { mapT with fetching := [(3, 9, 0)] } wf) = .next t := by
  refine ⟨_, (h.2.2.2.2.2.2.1 _ 15 3 9 ?_).1⟩ <;> decide +kernel

theorem witness_MapTablesAndRoute_10 (h : Obligations.MapTablesAndRoute) :
    ∃ t, exec (.tileBlockFetched 15 3 false)
      (mp { mapT with fetching := [(3, 9, 0)] } wf) = .next t := by
  refine ⟨_, (h.2.2.2.2.2.2.1 _ 15 3 9 ?_).2⟩ <;> decide +kernel

theorem witness_MapTablesAndRoute_11 (h : Obligations.MapTablesAndRoute) :
    ∃ t, exec (.radiusMode false)
      (routed w) = .next t := by
  refine ⟨_, h.2.2.2.2.2.2.2 _ ?_⟩ <;> decide +kernel

theorem pages_any (s : State) (p : Packet) (op va n : Nat) :
       (s.taken p).commandPages (s.ticketOf p op) va n = (s.taken p).commandPages (s.ticketOf p 0) va n := rfl
def map0 : Mapping := { ctx := 0, flask := 1, va := 0x200000, pages := [0], big := true, write := true, own := true }
def rng (x : Nat) : Packet := pk [(12, 2, x), (16, 6, 0x200000), (24, 8, 0x200000)]
def small : State := let s := wm []
     { (s.setFlask 2 { f1 with tenants := [1] }).setPage 0 { used := true, owner := 1, homeFrame := 0x2000000 } with
       host := { s.host with ctxs := [(0, ctx0), (1, { ctx0 with anchored := false })] }
       mem := { ((s.setPage 0 { used := true, owner := 1, homeFrame := 0x2000000 })).mem with maps := [{ map0 with big := false }] } }
def alc : Packet := pk [(12, 1, 2), (13, 1, 1), (14, 1, 0xFF), (16, 8, 0x200000)]
def fresh (e : Except Nat (State × List Nat)) : State × List Nat := match e with | .ok x => x | .error _ => (State.reset, [])
def allocd : State × List Nat := fresh (mapNew 1 0 2 4 false true generalBase 0x200000 none true false (wf.taken alc))
def mg (op : Nat) (s : State) : State := run 2 op [0x200000, 0x200040] s
def mr (op : Nat) : PourRun := pr op [0x200000, 0x200040]
def me (op : Nat) : Entry := en op [0x200000, 0x200040]
def badBank : State := { (wm []).setPage 0 { used := true, owner := 1, homeTier := 1, homeFrame := 0x1000000 } with
     sup := { w.sup with record := [⟨5, 0, 0, 0⟩] } }
theorem wm_canonical : Tab.wf Page.rest (wm [1]).mem.pages = true ∧ ∀ k, Memory.wf ((wm [1]).page k).serving = true :=
     ⟨by decide +kernel, fun k => match k with | 0 => by decide +kernel | _ + 1 => rfl⟩
theorem witness_MemoryReadsWhatWasWritten_1 (h : Obligations.MemoryReadsWhatWasWritten) :
       (vwriteByte 0 0x3FFFFF 7 (wm [1])).vbyte 0 0x3FFFFF = 7 ∧ (vwriteByte 0 0x3FFFFF 7 (wm [1])).vbyte 0 0x200000 = 1 :=
     have x := h.1 (wm [1]) 0 0x3FFFFF 7 map0 (by decide +kernel) wm_canonical.1 wm_canonical.2
     ⟨x.1, (x.2.1 0 0x200000 map0 (by decide +kernel) (by decide)).trans (by decide +kernel)⟩
theorem witness_MemoryReadsWhatWasWritten_2 (h : Obligations.MemoryReadsWhatWasWritten) : vwriteByte 0 0x400000 7 (wm []) = wm [] :=
     h.2.1 _ _ _ _ (by decide +kernel)
theorem witness_MemoryReadsWhatWasWritten_3 (h : Obligations.MemoryReadsWhatWasWritten) :
       (vwrite 0 0x3FFFFE [7, 8] (wm [1])).vread 0 0x3FFFFE 2 = [7, 8] :=
     h.2.2.1 _ _ _ [7, 8] map0 (fun i hi => match i, hi with | 0, _ => by decide +kernel | 1, _ => by decide +kernel)
       (by decide) (by decide) (by decide) (by decide) wm_canonical.1 wm_canonical.2
theorem witness_MemoryReadsWhatWasWritten_4 (h : Obligations.MemoryReadsWhatWasWritten) :
       Memory.byte (Memory.write [] 5 [1, 2]) 7 = Memory.byte [] 7 := (h.2.2.2 [] 5 [1, 2] (by decide)).2.2 7 (.inr (by decide))
theorem witness_MemoryCommands_1 (h : Obligations.MemoryCommands) :
    ∃ t, exec (.allocate alc)
      (wf) = .next t := by
  refine ⟨_, h.1 _ alc 1 allocd.1 allocd.2 ?_ ?_ ?_ ?_ ?_ ?_ ?_ ?_ ?_ ?_⟩ <;> decide +kernel

theorem witness_MemoryCommands_2 (h : Obligations.MemoryCommands) :
    ∃ t, exec (.release (rng 0))
      (wm []) = .next t := by
  refine ⟨_, h.2.1 _ (rng 0) 1 [(map0, 0)] ?_ ?_ ?_ ?_ ?_⟩ <;> decide +kernel

theorem witness_MemoryCommands_3 (h : Obligations.MemoryCommands) :
    ∃ t, exec (.shareMemory (pk [(14, 2, 1), (16, 6, 0x200000), (24, 6, 0x400000), (32, 8, 0x10000)]))
      (small) = .next t := by
  refine ⟨_, h.2.2.1 _ _ 0 1 1 2 [({ map0 with big := false }, 0)] ?_ ?_ ?_ ?_ ?_ ?_ ?_ ?_ ?_ ?_ ?_ ?_ ?_ ?_ ?_ ?_ ?_ ?_⟩ <;> decide +kernel

theorem witness_MemoryCommands_4 (h : Obligations.MemoryCommands) :
    ∃ t, exec (.pin (rng 2))
      (wm []) = .next t := by
  refine ⟨_, (h.2.2.2.1 _ (rng 2) 1 [0] ?_ (fun op => (pages_any _ _ op _ _).trans (by decide +kernel)) ?_).1 ?_ ?_ ?_ ?_ ?_⟩ <;> decide +kernel

theorem witness_MemoryCommands_5 (h : Obligations.MemoryCommands) :
    ∃ t, exec (.unpin (rng 0))
      (wm []) = .next t := by
  refine ⟨_, (h.2.2.2.1 _ (rng 0) 1 [0] ?_ (fun op => (pages_any _ _ op _ _).trans (by decide +kernel)) ?_).2.1 ?_⟩ <;> decide +kernel

theorem witness_MemoryCommands_6 (h : Obligations.MemoryCommands) :
    ∃ t, exec (.move (rng 0x301))
      (wm []) = .next t := by
  refine ⟨_, (h.2.2.2.1 _ (rng 0x301) 1 [0] ?_ (fun op => (pages_any _ _ op _ _).trans (by decide +kernel)) ?_).2.2.1 ?_ ?_ ?_ ?_⟩ <;> decide +kernel

theorem witness_MemoryCommands_7 (h : Obligations.MemoryCommands) :
    ∃ t, exec (.move (pk [(13, 1, 1), (14, 1, 0xFF), (16, 6, 0x200000), (24, 8, 0x200000)]))
      (wm []) = .next t := by
  refine ⟨_, (h.2.2.2.1 _ (pk [(13, 1, 1), (14, 1, 0xFF), (16, 6, 0x200000), (24, 8, 0x200000)]) 1 [0] ?_ (fun op => (pages_any _ _ op _ _).trans (by decide +kernel)) ?_).2.2.2 ?_ ?_ ?_ ?_ ?_ ?_ ?_ ?_⟩ <;> decide +kernel

theorem witness_MemoryCommands_8 (h : Obligations.MemoryCommands) :
    ∃ t, exec (.queryTranslation (rng 0))
      (wm []) = .next t := by
  refine ⟨_, (h.2.2.2.2.1 _ _ 1 map0 ?_ ?_ ?_).choose_spec.2.2⟩ <;> decide +kernel

theorem witness_MemoryCommands_9 (h : Obligations.MemoryCommands) :
    ∃ t, exec (.setContextQuota (pk [(12, 2, 0), (14, 1, 3), (16, 4, 5)]))
      (w) = .next t := by
  refine ⟨_, h.2.2.2.2.2.1 _ _ ?_ ?_ ?_ ?_ ?_⟩ <;> decide +kernel

theorem witness_MemoryCommands_10 (h : Obligations.MemoryCommands) :
    ∃ t, exec (.queryMemory (pk [(12, 1, 1), (13, 1, 3), (14, 2, 0x3FF)]))
      (wf) = .next t := by
  refine ⟨_, h.2.2.2.2.2.2.1 _ _ ?_ ?_ ?_ ?_ ?_ ?_⟩ <;> decide +kernel

theorem witness_MemoryCommands_11 (h : Obligations.MemoryCommands) :
    ∃ t, exec (.setErrorPolicy (pk [(12, 1, 4), (13, 1, 64), (16, 4, 60000)]))
      (w) = .next t := by
  refine ⟨_, h.2.2.2.2.2.2.2.1 _ _ ?_ ?_ ?_ ?_ ?_ ?_⟩ <;> decide +kernel

theorem witness_MemoryCommands_12 (h : Obligations.MemoryCommands) :
    ∃ t, exec (.evacuateStack (pk [(12, 1, 3)]))
      (w) = .next t := by
  refine ⟨_, h.2.2.2.2.2.2.2.2 _ _ ?_ ?_ ?_ ?_ ?_⟩ <;> decide +kernel

theorem witness_MigrationOperationsAndEvents_1 (h : Obligations.MigrationOperationsAndEvents) :
    ∃ t, exec (.copy 0 0 64)
      (mg 1 (wm [])) = .next t := by
  refine ⟨_, h.1 _ 0 0 64 (mr 1) (me 1) ?_ ?_ ?_ ?_⟩ <;> decide +kernel

theorem witness_MigrationOperationsAndEvents_2 (h : Obligations.MigrationOperationsAndEvents) :
    ∃ t, exec (.fill 0 0 64 0x12345678)
      (mg 2 (wm [])) = .next t := by
  refine ⟨_, h.2.1 _ 0 0 64 0x12345678 (mr 2) (me 2) ?_ ?_ ?_⟩ <;> decide +kernel

theorem witness_MigrationOperationsAndEvents_3 (h : Obligations.MigrationOperationsAndEvents) :
    ∃ t, exec (.raise 0 0 32 1 0xFF [])
      (mg 3 (wm [])) = .next t := by
  refine ⟨_, (h.2.2.1 _ 0 0 32 1 0xFF [] (mr 3) (me 3) [(map0, 0)] ?_).1 ?_ ?_ ?_⟩ <;> decide +kernel

theorem witness_MigrationOperationsAndEvents_4 (h : Obligations.MigrationOperationsAndEvents) :
    ∃ t, exec (.lower 0 0 32 3)
      (mg 4 (wm [])) = .next t := by
  refine ⟨_, (h.2.2.1 _ 0 0 32 3 0 [] (mr 4) (me 4) [(map0, 0)] ?_).2.1 ?_⟩ <;> decide +kernel

theorem witness_MigrationOperationsAndEvents_5 (h : Obligations.MigrationOperationsAndEvents) :
    ∃ t, exec (.rehome 0 0 32 1 2)
      (mg 5 (wm [])) = .next t := by
  refine ⟨_, (h.2.2.1 _ 0 0 32 1 2 [] (mr 5) (me 5) [(map0, 0)] ?_).2.2 ?_ ?_⟩ <;> decide +kernel

theorem witness_MigrationOperationsAndEvents_6 (h : Obligations.MigrationOperationsAndEvents) :
    ∃ t, exec (.lower 0 0 33 3)
      (mg 4 (wm [])) = .next t := by
  refine ⟨_, h.2.2.2.1 _ 0 0 33 3 (mr 4) (me 4) ?_ ?_⟩ <;> decide +kernel

theorem witness_MigrationOperationsAndEvents_7 (h : Obligations.MigrationOperationsAndEvents) :
    ∃ t, exec (.migrationCopyComplete 0)
      (wm []) = .next t := by
  refine ⟨_, h.2.2.2.2.1 _ 0 ?_⟩ <;> decide +kernel

theorem witness_MigrationOperationsAndEvents_8 (h : Obligations.MigrationOperationsAndEvents) :
    ∃ t, exec (.frameClearComplete 5)
      ({ wf with mem := { wf.mem with waitClear := [(tk, [], [5])], clearing := [(5, 1)] } }) = .next t := by
  refine ⟨_, h.2.2.2.2.2.1 _ 5 tk [] ?_⟩ <;> decide +kernel

theorem witness_MigrationOperationsAndEvents_9 (h : Obligations.MigrationOperationsAndEvents) :
    ∃ t, exec (.memoryError 4 1 false 0 0 none)
      (w) = .next t := by
  refine ⟨_, (h.2.2.2.2.2.2.1 _ 4 1 0 0 none ?_).1 ?_⟩ <;> decide +kernel

theorem witness_MigrationOperationsAndEvents_10 (h : Obligations.MigrationOperationsAndEvents) :
    ∃ t, exec (.memoryError 3 1 false 0 0 none)
      (w.setMemSource 3 { threshold := 2, leaky := [(1, 1)] }) = .next t := by
  refine ⟨_, (h.2.2.2.2.2.2.1 _ 3 1 0 0 none ?_).2.1 ?_⟩ <;> decide +kernel

theorem witness_MigrationOperationsAndEvents_11 (h : Obligations.MigrationOperationsAndEvents) :
    ∃ t, exec (.memoryError 2 1 true 0x2000000 3 none)
      (wm []) = .next t := by
  refine ⟨_, (h.2.2.2.2.2.2.1 _ 2 1 0x2000000 3 none ?_).2.2 ?_⟩ <;> decide +kernel

theorem witness_MigrationOperationsAndEvents_12 (h : Obligations.MigrationOperationsAndEvents) :
    ∃ t, exec (.scrubPass 3)
      (w) = .next t := by
  refine ⟨_, h.2.2.2.2.2.2.2.1 _ 3⟩ <;> decide +kernel

theorem witness_MigrationOperationsAndEvents_13 (h : Obligations.MigrationOperationsAndEvents) :
    ∃ t, exec (.relocationComplete 0)
      (badBank) = .next t := by
  refine ⟨_, h.2.2.2.2.2.2.2.2 _ 0 ?_ ?_⟩ <;> decide +kernel

def edge : State := settle { w with now := (w.now / 1000000000 + 1) * 1000000000, lines := { w.lines with ppsOutEdges := w.lines.ppsOutEdges + 1 } }
def src6 (x : TimeSource) : State := (w.setPort 6 { enable := true, up := true }).setSource 6 x
def slave : TimeSource := { enable := true, domain := 5, qualified := true }
def label7 : State := w.setSource 7 { labelCan := true, canChannel := 7, canId := 0x123, enable := true }
def tbW (f : TimeBlock → TimeBlock) : State := { w with tb := f w.tb }
theorem witness_TimeCommands_1 (h : Obligations.TimeCommands) :
    ∃ t, exec (.queryTime (pk []))
      (w) = .next t := by
  refine ⟨_, h.1 _ _ ?_⟩ <;> decide +kernel

theorem witness_TimeCommands_2 (h : Obligations.TimeCommands) :
    ∃ t, exec (.setSource (pk [(12, 1, 9), (13, 1, 0x21)]))
      (w) = .next t := by
  refine ⟨_, h.2.1 _ _ ?_ ?_ ?_ ?_ ?_⟩ <;> decide +kernel

theorem witness_TimeCommands_3 (h : Obligations.TimeCommands) :
    ∃ t, exec (.setUtcOffset (pk [(12, 2, 38)]))
      (w) = .next t := by
  refine ⟨_, h.2.2.1 _ _ ?_ ?_⟩ <;> decide +kernel

theorem witness_TimeCommands_4 (h : Obligations.TimeCommands) :
    ∃ t, exec (.setCalendar (pk [(12, 2, 2399), (14, 1, 12), (15, 1, 31), (16, 1, 23), (17, 1, 59), (18, 1, 59), (20, 4, 999999999)]))
      (w) = .next t := by
  refine ⟨_, h.2.2.2.1 _ _ ?_ ?_ ?_ ?_ ?_⟩ <;> decide +kernel

theorem witness_TimeCommands_5 (h : Obligations.TimeCommands) :
    ∃ t, exec (.setPpsTod (pk [(12, 2, 2000), (14, 1, 2), (15, 1, 29), (24, 1, 1)]))
      (w) = .next t := by
  refine ⟨_, h.2.2.2.2.1 _ _ ?_ ?_ ?_⟩ <;> decide +kernel

theorem witness_TimeCommands_6 (h : Obligations.TimeCommands) :
    ∃ t, exec (.setTrigger (pk [(12, 1, 23), (13, 1, 2), (32, 8, 1001000000)]))
      (w) = .next t := by
  refine ⟨_, (h.2.2.2.2.2.1 _ _ ?_ ?_ ?_).1 ?_⟩ <;> decide +kernel

theorem witness_TimeCommands_7 (h : Obligations.TimeCommands) :
    ∃ t, exec (.setTrigger (pk [(12, 1, 23), (13, 1, 1), (16, 2, 10000), (18, 1, 1), (24, 2, 99)]))
      (w) = .next t := by
  refine ⟨_, (h.2.2.2.2.2.1 _ _ ?_ ?_ ?_).2 ?_ ?_ ?_ ?_ ?_ ?_ ?_ ?_⟩ <;> decide +kernel

theorem witness_TimeCommands_8 (h : Obligations.TimeCommands) :
    ∃ t, exec (.configurePort (pk [(12, 1, 6), (13, 1, 3)]))
      (w) = .next t := by
  refine ⟨_, (h.2.2.2.2.2.2 _ _ ?_ ?_ ?_ ?_).1 ?_⟩ <;> decide +kernel

theorem witness_TimeCommands_9 (h : Obligations.TimeCommands) :
    ∃ t, exec (.configurePort (pk [(12, 1, 6), (13, 1, 0)]))
      (w.setPort 6 { enable := true, up := true }) = .next t := by
  refine ⟨_, (h.2.2.2.2.2.2 _ _ ?_ ?_ ?_ ?_).2 ?_⟩ <;> decide +kernel

theorem witness_TimeEvents_1 (h : Obligations.TimeEvents) :
    ∃ t, exec (.gptpMessage 6 .delay)
      (src6 slave) = .next t := by
  refine ⟨_, (h.1 _ 6 ?_ ?_ ?_ ?_).1⟩ <;> decide +kernel

theorem witness_TimeEvents_2 (h : Obligations.TimeEvents) :
    ∃ t, exec (.gptpMessage 6 (.sync 4 0 6 true none 0 0))
      (src6 slave) = .next t := by
  refine ⟨_, (h.1 _ 6 ?_ ?_ ?_ ?_).2.1 4 0 6 0 true none 0 ?_⟩ <;> decide +kernel

theorem witness_TimeEvents_3 (h : Obligations.TimeEvents) :
    ∃ t, exec (.gptpMessage 6 (.sync 5 (-1000001) 6 true none 0 0))
      (src6 slave) = .next t := by
  refine ⟨_, (h.1 _ 6 ?_ ?_ ?_ ?_).2.2 (-1000001) 6 0 true none 0 ?_ ?_⟩ <;> decide +kernel

theorem witness_TimeEvents_4 (h : Obligations.TimeEvents) :
    ∃ t, exec (.ppsInEdge 1000000000)
      (w) = .next t := by
  refine ⟨_, h.2.1 _ 1000000000 ?_ ?_ ?_⟩ <;> decide +kernel

theorem witness_TimeEvents_5 (h : Obligations.TimeEvents) :
    ∃ t, exec (.ppsLost)
      (tbW fun t => { t with lastEdge := some 1000000000 }) = .next t := by
  refine ⟨_, h.2.2.1 _ 1000000000 ?_ ?_⟩ <;> decide +kernel

theorem witness_TimeEvents_6 (h : Obligations.TimeEvents) :
    ∃ t, exec (.ppsTodLabelFrame 7 0x123 2026 12 31 23 59 59 0 true)
      (label7) = .next t := by
  refine ⟨_, (h.2.2.2.1 _ 2026 12 31 23 59 59 0 true ?_).1 ?_⟩ <;> decide +kernel

theorem witness_TimeEvents_7 (h : Obligations.TimeEvents) :
    ∃ t, exec (.ppsTodLabelFrame 7 0x123 2026 12 31 23 59 60 0 true)
      (label7) = .next t := by
  refine ⟨_, (h.2.2.2.1 _ 2026 12 31 23 59 60 0 true ?_).2 ?_⟩ <;> decide +kernel

theorem witness_TimeEvents_8 (h : Obligations.TimeEvents) :
    ∃ t, exec (.sourceQualificationLost 6)
      (src6 slave) = .next t := by
  refine ⟨_, (h.2.2.2.2.1 _ 6).1⟩ <;> decide +kernel

theorem witness_TimeEvents_9 (h : Obligations.TimeEvents) :
    ∃ t, exec (.sourceEligible 6)
      (src6 slave) = .next t := by
  refine ⟨_, (h.2.2.2.2.1 _ 6).2 ?_ ?_ ?_⟩ <;> decide +kernel

theorem witness_TimeEvents_10 (h : Obligations.TimeEvents) :
    ∃ t, exec (.slewComplete)
      (tbW fun t => { t with state := .slewing, offset := -500 }) = .next t := by
  refine ⟨_, h.2.2.2.2.2.1 _ ?_⟩ <;> decide +kernel

theorem witness_TimeEvents_11 (h : Obligations.TimeEvents) :
    ∃ t, exec (.leapSecond)
      (tbW fun t => { t with leap := 1, leapDay := (2026, 12, 31) }) = .next t := by
  refine ⟨_, h.2.2.2.2.2.2.1 _ ?_⟩ <;> decide +kernel

theorem witness_TimeEvents_12 (h : Obligations.TimeEvents) :
    ∃ t, exec (.triggerPulse 23)
      (w.setTrig 23 { set := { mode := 2, shotAt := 1000000500 } }) = .next t := by
  refine ⟨_, h.2.2.2.2.2.2.2.1 _ 23 ?_ ?_⟩ <;> decide +kernel

theorem witness_TimeEvents_13 (h : Obligations.TimeEvents) :
    ∃ t, exec (.triggerSettingEffect 23)
      (w.setTrig 23 { staged := some ({}, 2000000000) }) = .next t := by
  refine ⟨_, h.2.2.2.2.2.2.2.2.1 _ 23 2000000000 {} ?_⟩ <;> decide +kernel

theorem witness_TimeEvents_14 (h : Obligations.TimeEvents) :
    ∃ t, exec (.ppsOutSecond)
      (w) = .next t := by
  refine ⟨_, h.2.2.2.2.2.2.2.2.2.1 _ ?_⟩ <;> decide +kernel

theorem witness_TimeEvents_15 (h : Obligations.TimeEvents) :
    ∃ t, exec (.ethernetLinkUp 6)
      (w.setPort 6 { enable := true, ticket := some tk }) = .next t := by
  refine ⟨_, (h.2.2.2.2.2.2.2.2.2.2 _ 6 tk ?_ ?_).1 ?_⟩ <;> decide +kernel

theorem witness_TimeEvents_16 (h : Obligations.TimeEvents) :
    ∃ t, exec (.ethernetLinkDown 6)
      (w.setPort 6 { enable := true, ticket := some tk }) = .next t := by
  refine ⟨_, (h.2.2.2.2.2.2.2.2.2.2 _ 6 tk ?_ ?_).2⟩ <;> decide +kernel

theorem witness_TimeNeverStepsBack_1 (h : Obligations.TimeNeverStepsBack) : w.now ≤ edge.now :=
       h.1 w edge .ppsOutSecond (by simp) rfl
theorem witness_TimeNeverStepsBack_2 (h : Obligations.TimeNeverStepsBack) :
       999 < ({ num := 10000, phase := 99999 } : TrigSet).after 999 := h.2.1 _ _ (by decide) (by decide)
theorem witness_TimeNeverStepsBack_3 (h : Obligations.TimeNeverStepsBack) :
       ((loseSource 6 (src6 slave)).source 6).qualified = false := (h.2.2 (src6 slave) 6 (by decide) (by decide +kernel)).1
def tu (x : Tundish) (s : State) : State := s.setTundish 15 x
def tun : Tundish := { used := true, flask := 1, slotBytes := 0x200000, closeUs := 5, warnUs := 3, windowVa := 0x200000 }
def stm (k : Nat) (x : InStream) (s : State) : State := s.setInstream k x
def cam : CamRec := { dtype := 0x2A, regionBytes := 0x1000 }
def camS : InStream := { enabled := true, joined := true, tundish := 15, rec_ := some (.cam cam) }
def fmts : List (Nat × Nat × Nat) := [(0, 1, 1), (1, 1, 0x2A), (3, 1, 0xFF), (4, 2, 16), (6, 2, 1), (132, 1, 1), (133, 1, 3), (134, 1, 16), (140, 4, 0x1000)]
def ct : Packet := pk [(12, 1, 15), (13, 1, 1), (14, 1, 2), (15, 1, 2), (16, 6, 0x400000), (24, 4, 0x200000), (36, 1, 23), (37, 1, 2), (38, 1, 1), (40, 2, 0xFFFF), (42, 6, 0x200000)]
def ctFrames : List Nat := (((wm []).taken ct).allocFrames 1 2 4 false true 2).getD []
def rmRec : CamRec := { cam with regionBytes := 0x10000 }
def rmap : Remap := { outW := 16, outH := 1, srcW := 16, srcH := 1, g := 8, clamp := false, points := List.replicate 6 (0, 0) }
def rmRaw : List Byte := raw 80 [(0, 2, 16), (2, 2, 1), (4, 2, 16), (6, 2, 1), (8, 1, 8)]
def rmBytes : List Byte := rmRaw.take 28 ++ leBytes 4 (crc32c (rmRaw.take 28 ++ rmRaw.drop 32)) ++ rmRaw.drop 32
def slot1 : Slot := { state := .filling, t := 1000000000, members := [(0, 5, true)] }
def tk3 (s : State) : State := run 3 1 [0x200000, 0x200040] s
def pacedTake : State := tk3 (tu tun ((wm []).setFlask 1 { f1 with mode := .paced }))
def dec (op : Nat) (x : Session) (s : State) : State := (run 4 op [0x200000, 0x200040, 0x200080] s).setSession 0 63 x
def enc (x : Session) (s : State) : State := s.setSession 1 47 x
theorem witness_IngestCommands_1 (h : Obligations.IngestCommands) :
    ∃ t, exec (.createTundish ct)
      (wm []) = .next t := by
  refine ⟨_, h.1 _ ct ctFrames (makePages 1 0 2 true false ctFrames ((wm []).taken ct)).2 (makePages 1 0 2 true false ctFrames ((wm []).taken ct)).1 ?_ ?_ ?_ ?_ ?_ ?_ ?_ ?_ ?_ ?_ ?_ ?_ ?_ ?_ ?_ ?_ ?_ ?_ ?_ ?_ ?_ ?_ ?_ ?_⟩ <;> decide +kernel

theorem witness_IngestCommands_2 (h : Obligations.IngestCommands) :
    ∃ t, exec (.destroyTundish (pk [(12, 1, 15)]))
      (tu tun wf) = .next t := by
  refine ⟨_, h.2.1 _ _ ?_ ?_ ?_ ?_ ?_ ?_⟩ <;> decide +kernel

theorem witness_IngestCommands_3 (h : Obligations.IngestCommands) :
    ∃ t, exec (.configureStream (pk [(12, 1, 47), (13, 1, 15), (14, 1, 31), (15, 1, 3), (16, 8, 0x200000)]) {})
      (tu tun (wm (raw 160 fmts))) = .next t := by
  refine ⟨_, h.2.2.1 _ _ {} cam ?_ ?_ ?_ ?_ ?_ ?_ ?_ ?_ ?_ ?_ ?_ ?_ ?_ ?_ ?_⟩ <;> decide +kernel

theorem witness_IngestCommands_4 (h : Obligations.IngestCommands) :
    ∃ t, exec (.loadRemap (pk [(12, 1, 5), (16, 8, 0x1000), (24, 4, 80)]))
      ({ stm 5 { camS with rec_ := some (.cam rmRec) } (tu tun wf) with hostMem := Memory.write [] 0x1000 rmBytes }) = .next t := by
  refine ⟨_, h.2.2.2.1 _ _ rmap rmRec ?_ ?_ ?_ ?_ ?_ ?_ ?_ ?_ ?_ ?_ ?_ ?_ ?_⟩ <;> decide +kernel

theorem witness_IngestCommands_5 (h : Obligations.IngestCommands) :
    ∃ t, exec (.openDecode (pk [(12, 2, 63), (14, 1, 1), (15, 1, 1), (16, 2, 3840), (18, 2, 2160), (20, 1, 60), (21, 1, 0xFF)]))
      (wf) = .next t := by
  refine ⟨_, (h.2.2.2.2.1 _ _ 1 ?_ ?_).1 ?_ ?_ ?_ ?_ ?_ ?_ ?_ ?_ ?_ ?_ ?_ ?_⟩ <;> decide +kernel

theorem witness_IngestCommands_6 (h : Obligations.IngestCommands) :
    ∃ t, exec (.openEncode (pk [(12, 2, 47), (14, 1, 47), (15, 1, 4), (16, 1, 2), (18, 2, 600), (24, 6, 0x200000), (32, 4, 0x1000), (36, 2, 0xFFFF), (40, 6, 0x200000)]))
      (stm 47 camS (tu tun (wm []))) = .next t := by
  refine ⟨_, (h.2.2.2.2.1 _ _ 1 ?_ ?_).2 ?_ cam ?_ ?_ ?_ ?_ ?_ ?_ ?_ ?_ ?_ ?_ ?_ ?_ ?_⟩ <;> decide +kernel

theorem witness_IngestCommands_7 (h : Obligations.IngestCommands) :
    ∃ t, exec (.closeSession (pk [(12, 1, 0), (14, 2, 63)]))
      (dec 0 { used := true, flask := 1 } wf) = .next t := by
  refine ⟨_, (h.2.2.2.2.2.1 _ _ ?_ ?_ ?_ ?_).1 ?_ ?_⟩ <;> decide +kernel

theorem witness_IngestCommands_8 (h : Obligations.IngestCommands) :
    ∃ t, exec (.querySession (pk [(12, 1, 1), (14, 2, 47)]))
      (enc { used := true, flask := 1 } wf) = .next t := by
  refine ⟨_, (h.2.2.2.2.2.1 _ _ ?_ ?_ ?_ ?_).2 ?_⟩ <;> decide +kernel

theorem witness_IngestCommands_9 (h : Obligations.IngestCommands) :
    ∃ t, exec (.queryIngest (pk [(12, 1, 79)]))
      (stm 79 camS (tu tun wf)) = .next t := by
  refine ⟨_, (h.2.2.2.2.2.2.1 _ _).1 ?_ ?_ ?_ ?_⟩ <;> decide +kernel

theorem witness_IngestCommands_10 (h : Obligations.IngestCommands) :
    ∃ t, exec (.queryTundish (pk [(12, 1, 15)]))
      (tu tun wf) = .next t := by
  refine ⟨_, (h.2.2.2.2.2.2.1 _ _).2 ?_ ?_ ?_ ?_⟩ <;> decide +kernel

theorem witness_IngestCommands_11 (h : Obligations.IngestCommands) :
    ∃ t, exec (.tundishStatusClear 15 0x7FFFF)
      (tu { tun with overflow := true, lowCause := 7 } wf) = .next t := by
  refine ⟨_, h.2.2.2.2.2.2.2 _ 15 0x7FFFF ?_ ?_⟩ <;> decide +kernel

theorem witness_SamplesAndBatches_1 (h : Obligations.SamplesAndBatches) :
    ∃ t, exec (.csi2FrameStart 47 1000000000)
      (stm 47 camS (tu tun (wm []))) = .next t := by
  refine ⟨_, (h.1 _ 47 1000000000 cam cam ?_ ?_ ?_).1 ?_ ?_⟩ <;> decide +kernel

theorem witness_SamplesAndBatches_2 (h : Obligations.SamplesAndBatches) :
    ∃ t, exec (.csi2Line 47 (.damaged 3))
      (stm 47 camS (tu tun (wm []))) = .next t := by
  refine ⟨_, (h.1 _ 47 1000000000 cam cam ?_ ?_ ?_).2.1 (.damaged 3)⟩ <;> decide +kernel

theorem witness_SamplesAndBatches_3 (h : Obligations.SamplesAndBatches) :
    ∃ t, exec (.csi2FrameEnd 47 2)
      (stm 47 camS (tu tun (wm []))) = .next t := by
  refine ⟨_, (h.1 _ 47 1000000000 cam cam ?_ ?_ ?_).2.2 2⟩ <;> decide +kernel

theorem witness_SamplesAndBatches_4 (h : Obligations.SamplesAndBatches) :
    ∃ t, exec (.pointPacket 63 1000000000 [1, 0, 0, 0] 1)
      (stm 63 { camS with rec_ := some (.point { sweep := .wrap 0, elevation := some ⟨⟨0, 4, false⟩, 0, 0⟩ }) } (tu tun (wm []))) = .next t := by
  refine ⟨_, h.2.1 _ 63 1000000000 1 1 [1, 0, 0, 0] { sweep := .wrap 0, elevation := some ⟨⟨0, 4, false⟩, 0, 0⟩ } ?_ ?_ ?_ ?_ ?_ (fun z => ⟨by simp, fun i => by simp⟩)⟩ <;> decide +kernel

theorem witness_SamplesAndBatches_5 (h : Obligations.SamplesAndBatches) :
    ∃ t, exec (.tundishClose 15 1000000000)
      (stm 5 camS (tu { tun with slots := [slot1] } (wm []))) = .next t := by
  refine ⟨_, (h.2.2.1 _ 15 1000000000 0 ?_).1 ?_ ?_ ?_⟩ <;> decide +kernel

theorem witness_SamplesAndBatches_6 (h : Obligations.SamplesAndBatches) :
    ∃ t, exec (.tundishWarn 15 1000000000)
      (stm 5 camS (tu { tun with slots := [slot1] } (wm []))) = .next t := by
  refine ⟨_, (h.2.2.1 _ 15 1000000000 0 ?_).2 ?_ ?_⟩ <;> decide +kernel

theorem witness_SamplesAndBatches_7 (h : Obligations.SamplesAndBatches) :
    ∃ t, exec (.takeBatch 0 0 15 false)
      (tk3 (tu { tun with slots := [{ slot1 with state := .ready, pages := [0] }] } (wm []))) = .next t := by
  refine ⟨_, (h.2.2.2 _ 0 0 15 false (pr 1 [0x200000, 0x200040]) (en 1 [0x200000, 0x200040]) ?_ ?_ ?_ ?_).1 0 ?_⟩ <;> decide +kernel

theorem witness_SamplesAndBatches_8 (h : Obligations.SamplesAndBatches) :
    ∃ t, exec (.takeBatch 0 0 15 false)
      (tk3 (tu tun (wm []))) = .next t := by
  refine ⟨_, (h.2.2.2 _ 0 0 15 false (pr 1 [0x200000, 0x200040]) (en 1 [0x200000, 0x200040]) ?_ ?_ ?_ ?_).2.1 ?_ ?_ ?_⟩ <;> decide +kernel

theorem witness_SamplesAndBatches_9 (h : Obligations.SamplesAndBatches) :
    ∃ t, exec (.takeBatch 0 0 15 true)
      (pacedTake) = .next t := by
  refine ⟨_, (h.2.2.2 _ 0 0 15 true (pr 1 [0x200000, 0x200040]) (en 1 [0x200000, 0x200040]) ?_ ?_ ?_ ?_).2.2 ?_ ?_⟩ <;> decide +kernel

theorem witness_CodecOperations_1 (h : Obligations.CodecOperations) :
    ∃ t, exec (.decodeAu 0 0 63 5 { luma := [1, 2, 3, 4], chroma := [5, 6] })
      (dec 1 { used := true, flask := 1, width := 2, height := 2 } (wm [])) = .next t := by
  refine ⟨_, h.1 _ 0 0 63 5 { luma := [1, 2, 3, 4], chroma := [5, 6] } (pr 1 [0x200000, 0x200040, 0x200080]) (en 1 [0x200000, 0x200040, 0x200080]) ?_ ?_ ?_ ?_ ?_⟩ <;> decide +kernel

theorem witness_CodecOperations_2 (h : Obligations.CodecOperations) :
    ∃ t, exec (.flush 0 0 63)
      (dec 2 { used := true, flask := 1, width := 2, height := 2, held := [{ time := 5, luma := [1, 2, 3, 4], chroma := [5, 6] }] } (wm [])) = .next t := by
  refine ⟨_, h.2.1 _ 0 0 63 (pr 2 [0x200000, 0x200040, 0x200080]) (en 2 [0x200000, 0x200040, 0x200080]) ?_ ?_ ?_ ?_⟩ <;> decide +kernel

theorem witness_CodecOperations_3 (h : Obligations.CodecOperations) :
    ∃ t, exec (.encodeAuComplete 47 true true [1, 2, 3])
      (enc { used := true, flask := 1, ringVa := 0x200000, ringBytes := 64, ringAt := 40, input := some {} } (wm [])) = .next t := by
  refine ⟨_, (h.2.2 _ 47 true true [1, 2, 3] {} ?_ ?_).1 ?_ ?_ ?_⟩ <;> decide +kernel

theorem witness_CodecOperations_4 (h : Obligations.CodecOperations) :
    ∃ t, exec (.encodeAuComplete 47 false false [1, 2, 3])
      (enc { used := true, flask := 1, ringVa := 0x200000, ringBytes := 64, ringAt := 40, input := some {} } (wm [])) = .next t := by
  refine ⟨_, (h.2.2 _ 47 false false [1, 2, 3] {} ?_ ?_).2 ?_⟩ <;> decide +kernel

def latBytes : List Byte :=
     let b := raw 164 [(0, 2, 1), (2, 1, 1), (3, 1, 1), (4, 4, 0x3F800000), (8, 1, 1), (80, 4, 1), (132, 2, 1), (136, 4, 1000),
       (140, 4, 0x3F800000), (148, 2, 1)]
     b.take 124 ++ leBytes 4 (crc32c b) ++ b.drop 128
def latImg : LatticeImg := { nh := 1, nv := 1, cellM := 0x3F800000, voxDiv := 1, speeds := [0], prims := [
     { h0 := 0, v0 := 0, h1 := 0, v1 := 0, dx := 1, dy := 0, durUs := 1000, cost := 0x3F800000, cells := [(0, 0, 0)], voxels := [] }] }
def prj : Packet := pk [(12, 1, 15), (13, 1, 1), (16, 8, 0x200000)]
def lat : Packet := pk [(12, 1, 3), (13, 1, 1), (14, 1, 1), (16, 8, 0x200000), (24, 4, 164)]
def projDesc : ProjDesc := { cell := 0x3F800000, zs := [0], sensors := [0] }
def params1 : TrackParams := { p0 := List.replicate 8 0x3F800000, qPos := List.replicate 16 0, qYaw := List.replicate 16 0 }
def calWith (kind : Nat) (s : State) : State := { s with sp := { s.sp with records := [(0, raw 128 [(0, 1, kind)]), (64, raw 128 [(0, 1, kind)])] } }
def pose0 (t : Nat) : Pose := { time := t }
def mid (t : Nat) : Pose := (pose0 0).between (pose0 100) t
theorem witness_SpatialCommands_1 (h : Obligations.SpatialCommands) :
    ∃ t, exec (.loadCalibration (pk [(14, 1, 63), (15, 1, 1), (16, 8, 0x1000)]))
      ({ w with hostMem := Memory.write w.hostMem 0x1000 ((leBytes 124 0) ++ leBytes 4 (crc32c (leBytes 124 0))) }) = .next t := by
  refine ⟨_, h.1 _ _ ?_ ?_ ?_ ?_ ?_ ?_ ?_ ?_ ?_ ?_ ?_⟩ <;> decide +kernel

theorem witness_SpatialCommands_2 (h : Obligations.SpatialCommands) :
    ∃ t, exec (.projectionBuildComplete)
      ({ w with sp := { w.sp with building := some (tk, 0, []) } }) = .next t := by
  refine ⟨_, h.2.1 _ tk 0 [] ?_⟩ <;> decide +kernel

theorem witness_SpatialCommands_3 (h : Obligations.SpatialCommands) :
    ∃ t, exec (.switchCalibration (pk [(12, 1, 1), (14, 1, 1)]))
      ({ wf with sp := { wf.sp with builtB := true } }) = .next t := by
  refine ⟨_, h.2.2.1 _ _ ?_ ?_ ?_ ?_ ?_ ?_ ?_ ?_ ?_⟩ <;> decide +kernel

theorem witness_SpatialCommands_4 (h : Obligations.SpatialCommands) :
    ∃ t, exec (.createProjection prj projDesc)
      (calWith 1 (wm [])) = .next t := by
  refine ⟨_, h.2.2.2.1 _ _ _ (okOf (objectPages 1 2 ((calWith 1 (wm [])).taken prj))).1 (okOf (objectPages 1 2 ((calWith 1 (wm [])).taken prj))).2 ?_ ?_ ?_ ?_ ?_ ?_ ?_ ?_ ?_ ?_⟩ <;> decide +kernel

theorem witness_SpatialCommands_5 (h : Obligations.SpatialCommands) :
    ∃ t, exec (.destroyProjection (pk [(12, 1, 15)]))
      (wf.setProjection 15 { used := true, flask := 1, owner := 0 }) = .next t := by
  refine ⟨_, h.2.2.2.2.1 _ _ ?_ ?_ ?_ ?_ ?_⟩ <;> decide +kernel

theorem witness_SpatialCommands_6 (h : Obligations.SpatialCommands) :
    ∃ t, exec (.createTrackSet (pk [(12, 1, 7), (13, 1, 1), (14, 2, 2048), (16, 8, 0x200000)]) params1)
      (wm []) = .next t := by
  refine ⟨_, (h.2.2.2.2.2.1 _ _ _ ?_ ?_ ?_ ?_).1 ?_ ?_ ?_ ?_ ?_ ?_ ?_⟩ <;> decide +kernel

theorem witness_SpatialCommands_7 (h : Obligations.SpatialCommands) :
    ∃ t, exec (.setTrackParams (pk [(12, 1, 7), (16, 8, 0x200000)]) params1)
      ((wm []).setTrackSet 7 { capacity := 1, flask := 1 }) = .next t := by
  refine ⟨_, (h.2.2.2.2.2.1 _ _ _ ?_ ?_ ?_ ?_).2 ?_ ?_ ?_⟩ <;> decide +kernel

theorem witness_SpatialCommands_8 (h : Obligations.SpatialCommands) :
    ∃ t, exec (.destroyTrackSet (pk [(12, 1, 7)]))
      (wf.setTrackSet 7 { capacity := 1, flask := 1 }) = .next t := by
  refine ⟨_, h.2.2.2.2.2.2.1 _ _ ?_ ?_ ?_ ?_ ?_ ?_⟩ <;> decide +kernel

theorem witness_SpatialCommands_9 (h : Obligations.SpatialCommands) :
    ∃ t, exec (.loadLattice lat)
      (wm latBytes) = .next t := by
  refine ⟨_, h.2.2.2.2.2.2.2.1 _ _ latImg (okOf (objectPages 1 2 ((wm latBytes).taken lat))).1 (okOf (objectPages 1 2 ((wm latBytes).taken lat))).2 ?_ ?_ ?_ ?_ ?_ ?_ ?_ ?_ ?_ ?_⟩ <;> decide +kernel

theorem witness_SpatialCommands_10 (h : Obligations.SpatialCommands) :
    ∃ t, exec (.switchLattice (pk [(12, 1, 3)]))
      (wf.setLattice 3 { used := true, flask := 1 }) = .next t := by
  refine ⟨_, h.2.2.2.2.2.2.2.2.1 _ _ ?_ ?_ ?_ ?_ ?_ ?_⟩ <;> decide +kernel

theorem witness_SpatialCommands_11 (h : Obligations.SpatialCommands) :
    ∃ t, exec (.querySpatial (pk []))
      (wf) = .next t := by
  refine ⟨_, (h.2.2.2.2.2.2.2.2.2 _ _ 1 ?_ ?_).1 ?_⟩ <;> decide +kernel

theorem witness_SpatialCommands_12 (h : Obligations.SpatialCommands) :
    ∃ t, exec (.querySpatial (pk [(12, 1, 1), (13, 1, 7)]))
      (wf.setTrackSet 7 { capacity := 1, flask := 1 }) = .next t := by
  refine ⟨_, (h.2.2.2.2.2.2.2.2.2 _ _ 1 ?_ ?_).2.1 ?_ ?_ ?_⟩ <;> decide +kernel

theorem witness_SpatialCommands_13 (h : Obligations.SpatialCommands) :
    ∃ t, exec (.querySpatial (pk [(12, 1, 2), (13, 1, 15)]))
      (wf) = .next t := by
  refine ⟨_, (h.2.2.2.2.2.2.2.2.2 _ _ 1 ?_ ?_).2.2 ?_ ?_⟩ <;> decide +kernel

theorem witness_SpatialOperations_1 (h : Obligations.SpatialOperations) :
    ∃ t, exec (.posePush 0 0 100000)
      (run 5 1 [0x200000] (wm [])) = .next t := by
  refine ⟨_, (h.1 _ 0 0 100000 (pr 1 [0x200000]) (en 1 [0x200000]) ?_ ?_).1 ?_⟩ <;> decide +kernel

theorem witness_SpatialOperations_2 (h : Obligations.SpatialOperations) :
    ∃ t, exec (.posePush 0 0 20000)
      (run 5 1 [0x200000] { wm [] with sp := { w.sp with poses := [pose0 5] } }) = .next t := by
  refine ⟨_, (h.1 _ 0 0 20000 (pr 1 [0x200000]) (en 1 [0x200000]) ?_ ?_).2 (pose0 5) ?_ ?_⟩ <;> decide +kernel

theorem witness_SpatialOperations_3 (h : Obligations.SpatialOperations) :
    ∃ t, exec (.alignPoints 0 0 0)
      (run 5 2 [0x200000, 0x200040, 0x200080] { calWith 3 (wm (raw 0x70 [(0, 8, 1), (0x48, 8, 50), (0x50, 8, 50), (0x58, 4, 1)])) with sp := { (calWith 3 w).sp with poses := [pose0 100, pose0 0] } }) = .next t := by
  refine ⟨_, (h.2.1 _ 0 0 0 (pr 2 [0x200000, 0x200040, 0x200080]) (en 2 [0x200000, 0x200040, 0x200080]) ?_ ?_ ?_ ?_ ?_).1 (mid 50) (mid 50) (mid 50) ?_ ?_ ?_⟩ <;> decide +kernel

theorem witness_SpatialOperations_4 (h : Obligations.SpatialOperations) :
    ∃ t, exec (.alignPoints 0 0 0)
      (run 5 2 [0x200000, 0x200040, 0x200080] (calWith 3 (wm (raw 0x70 [(0, 8, 1), (0x48, 8, 50), (0x50, 8, 50), (0x58, 4, 1)])))) = .next t := by
  refine ⟨_, (h.2.1 _ 0 0 0 (pr 2 [0x200000, 0x200040, 0x200080]) (en 2 [0x200000, 0x200040, 0x200080]) ?_ ?_ ?_ ?_ ?_).2 ?_⟩ <;> decide +kernel

theorem witness_SpatialOperations_5 (h : Obligations.SpatialOperations) :
    ∃ t, exec (.trackUpdate 0 0 7 4096)
      (run 5 3 [0x200000, 0x200040, 0x200080] { (wm (raw 0x60 [(0x44, 1, 1), (0x48, 8, 50)])).setTrackSet 7 { capacity := 1, flask := 1, params := params1 } with sp := { (wm []).sp with poses := [pose0 0], trackSets := [(7, { capacity := 1, flask := 1, params := params1 })] } }) = .next t := by
  refine ⟨_, h.2.2.1 _ 0 0 7 4096 (pr 3 [0x200000, 0x200040, 0x200080]) (en 3 [0x200000, 0x200040, 0x200080]) ?_ ?_ ?_ ?_ ?_ ?_ ?_ ?_⟩ <;> decide +kernel

theorem witness_SpatialOperations_6 (h : Obligations.SpatialOperations) :
    ∃ t, exec (.costmapBuild 0 0 {})
      (run 5 4 [0x200000, 0x200040, 0x200080] (wm [])) = .next t := by
  refine ⟨_, h.2.2.2.1 _ 0 0 _ (pr 4 [0x200000, 0x200040, 0x200080]) (en 4 [0x200000, 0x200040, 0x200080]) ?_ ?_⟩ <;> decide +kernel

theorem witness_SpatialOperations_7 (h : Obligations.SpatialOperations) :
    ∃ t, exec (.octreeBuild 0 0 {})
      (run 5 5 [0x200000, 0x200040, 0x200080] (wm [])) = .next t := by
  refine ⟨_, h.2.2.2.2.1 _ 0 0 _ (pr 5 [0x200000, 0x200040, 0x200080]) (en 5 [0x200000, 0x200040, 0x200080]) ?_⟩ <;> decide +kernel

theorem witness_SpatialOperations_8 (h : Obligations.SpatialOperations) :
    ∃ t, exec (.plan 0 0 { lattice := 3, passes := 1, eps := [0x3F800000] })
      (run 5 6 [0x200000, 0x200040, 0x200080] { (wm []).setLattice 3 { used := true, flask := 1, active := latBytes } with sp := { ((wm []).setLattice 3 { used := true, flask := 1, active := latBytes }).sp with poses := [pose0 0] } }) = .next t := by
  refine ⟨_, (h.2.2.2.2.2.1 _ 0 0 _ latImg (pr 6 [0x200000, 0x200040, 0x200080]) (en 6 [0x200000, 0x200040, 0x200080]) ?_ ?_ ?_ ?_ ?_ ?_).1 ((pose0 0).onward 0) rfl⟩ <;> decide +kernel

theorem witness_SpatialOperations_9 (h : Obligations.SpatialOperations) :
    ∃ t, exec (.plan 0 0 { lattice := 3, passes := 4, eps := [0, 0, 0, 0] })
      (run 5 6 [0x200000, 0x200040, 0x200080] ((wm []).setLattice 3 { used := true, flask := 1, active := latBytes })) = .next t := by
  refine ⟨_, (h.2.2.2.2.2.1 _ 0 0 _ latImg (pr 6 [0x200000, 0x200040, 0x200080]) (en 6 [0x200000, 0x200040, 0x200080]) ?_ ?_ ?_ ?_ ?_ ?_).2 ?_⟩ <;> decide +kernel

theorem witness_SpatialOperations_10 (h : Obligations.SpatialOperations) :
    ∃ t, exec (.bevLift 0 0 (0, 0) 15 1 4 [])
      (run 1 0x040 [0x200000, 0, 0x200080] ((wm []).setProjection 15 { used := true, flask := 1, desc := projDesc, copyA := some [(0xFFFFFFFF, 0, 0)] })) = .next t := by
  refine ⟨_, h.2.2.2.2.2.2 _ 0 0 (0, 0) 15 1 4 [] (pr 0x040 [0x200000, 0, 0x200080]) (en 0x040 [0x200000, 0, 0x200080]) [(0xFFFFFFFF, 0, 0)] ?_ ?_ ?_ ?_ ?_ ?_⟩ <;> decide +kernel

def one64 : Nat := 0x3FF0000000000000
def loopRaw : List Byte := raw 0xC0 [(0, 1, 1), (1, 1, 1), (4, 4, 100000000), (8, 4, 5000), (16, 4, 1000), (20, 1, 1),
     (22, 2, 0xFFFF), (24, 2, 0xFFFF), (26, 2, 0xFFFF), (40, 8, 0xBFF0000000000000), (48, 8, one64), (56, 8, one64),
     (0xB0, 8, 0xBFF0000000000000), (0xB8, 8, one64)]
def lrec : LoopRec := { flask := 1, ffA := 0xFFFF, ffB := 0xFFFF, uMin := 0xBFF0000000000000, uMax := one64, slew := one64 }
def sec0 : Section := { kind := 0, clamp := false, c := [one64, 0, 0, 0, 0], yMin := 0xBFF0000000000000, yMax := one64 }
def chan : LoopCh := { state := .manual, record := lrec, cascade := [sec0] }
def lp (x : LoopCh) (s : State) : State := s.setLoop 127 x
def mapRaw : List Byte := raw 128 [(0, 1, 0), (1, 1, 3), (14, 1, 1), (15, 1, 0xFF), (16, 2, 127), (18, 2, 4), (22, 1, 4), (28, 4, 0x3F800000), (64, 4, 0x3F800000)]
def rxRaw : List Byte := raw 64 [(0, 1, 0), (1, 1, 3), (14, 1, 1), (22, 1, 4), (23, 2, 1023), (28, 4, 0x3F800000)]
def txRaw : List Byte := raw 128 [(0, 1, 0), (1, 1, 3), (14, 1, 1), (15, 1, 0xFF), (16, 2, 127), (18, 2, 4), (22, 1, 4), (23, 2, 1023), (64, 4, 0x3F800000)]
def fld : MapField := { at_ := 0, kind := 4, slot := 1023, scale := 0x3F800000, offset := 0 }
def rxM : FrameMap := { medium := 0, port := 3, vlan := 0, id := 5, mac := 0, fields := [fld] }
def ctlW (f : Control → Control) (s : State) : State := { s with ctl := f s.ctl }
def trRaw : List Byte := raw 16 [(0, 1, 127), (4, 1, 1), (5, 1, 4), (8, 4, 65535)]
def ffS : State := (wm []).setPage 0 { used := true, big := true, owner := 1, homeFrame := 0x2000000, data := [(22, 0xF0), (23, 0x3F)] }
def qd : QpDesc := { pPat := [[0]], aPat := [[0]], order := [0], sigma := one64, rho := one64, alpha := one64, p := [one64], a := [one64], q := [0], l := [0], u := [one64] }
def qp1 : Qp := { created := true, flask := 1, desc := qd, nnzL := 1 }
def qpS (x : Qp) (s : State) : State := s.setQp 7 x
def c6 (op : Nat) (s : State) : State := run 6 op [0x200000, 0x200040, 0x200080] s
def c7 (op : Nat) (s : State) : State := run 7 op [0x200000, 0x200040, 0x200080] s
def r3 (op : Nat) : PourRun := pr op [0x200000, 0x200040, 0x200080]
def e3 (op : Nat) : Entry := en op [0x200000, 0x200040, 0x200080]
def trajRaw : List Byte := raw 48 [(8, 4, 1000), (12, 2, 2), (14, 2, 1), (32, 4, 0x3F800000)]
def updRaw : List Byte := raw 64 [(0, 4, 1), (16, 1, 2), (24, 8, one64)]
def missE : Entry := { e3 1 with sources := [.result 5] }
theorem witness_LoopCommands_1 (h : Obligations.LoopCommands) :
    ∃ t, exec (.configureLoop (pk [(12, 1, 127), (13, 1, 1), (16, 8, 0x200000), (24, 8, 0x200080)]))
      (wm loopRaw) = .next t := by
  refine ⟨_, (h.1 _ _ ?_ ?_ ?_).1 ?_ ?_ ?_ ?_ ?_ ?_ ?_ ?_ ?_ ?_ ?_ ?_ ?_ ?_⟩ <;> decide +kernel

theorem witness_LoopCommands_2 (h : Obligations.LoopCommands) :
    ∃ t, exec (.configureLoop (pk [(12, 1, 127)]))
      (lp chan wf) = .next t := by
  refine ⟨_, (h.1 _ _ ?_ ?_ ?_).2 ?_ ?_ ?_ ?_ ?_ ?_⟩ <;> decide +kernel

theorem witness_LoopCommands_3 (h : Obligations.LoopCommands) :
    ∃ t, exec (.setLoopCoeff (pk [(12, 1, 127), (13, 1, 1), (16, 8, 0x200080)]))
      (lp chan (wm loopRaw)) = .next t := by
  refine ⟨_, (h.2.1 _ _ ?_ ?_ ?_ ?_ ?_).1 ?_ ?_ ?_ ?_ ?_ ?_ ?_ ?_⟩ <;> decide +kernel

theorem witness_LoopCommands_4 (h : Obligations.LoopCommands) :
    ∃ t, exec (.openLoop (pk [(12, 1, 127)]))
      (lp { chan with state := .faulted } wf) = .next t := by
  refine ⟨_, ((h.2.1 _ _ ?_ ?_ ?_ ?_ ?_).2.1 ?_).1 ?_⟩ <;> decide +kernel

theorem witness_LoopCommands_5 (h : Obligations.LoopCommands) :
    ∃ t, exec (.openLoop (pk [(12, 1, 127)]))
      (lp { chan with state := .auto } wf) = .next t := by
  refine ⟨_, ((h.2.1 _ _ ?_ ?_ ?_ ?_ ?_).2.1 ?_).2 ?_ ?_⟩ <;> decide +kernel

theorem witness_LoopCommands_6 (h : Obligations.LoopCommands) :
    ∃ t, exec (.closeLoop (pk [(12, 1, 127), (13, 1, 1)]))
      (lp chan wf) = .next t := by
  refine ⟨_, ((h.2.1 _ _ ?_ ?_ ?_ ?_ ?_).2.2.1 ?_ ?_).1 ?_ ?_⟩ <;> decide +kernel

theorem witness_LoopCommands_7 (h : Obligations.LoopCommands) :
    ∃ t, exec (.closeLoop (pk [(12, 1, 127), (13, 1, 0)]))
      (lp { chan with state := .opened } wf) = .next t := by
  refine ⟨_, ((h.2.1 _ _ ?_ ?_ ?_ ?_ ?_).2.2.1 ?_ ?_).2 ?_ ?_⟩ <;> decide +kernel

theorem witness_LoopCommands_8 (h : Obligations.LoopCommands) :
    ∃ t, exec (.setManual (pk [(12, 1, 127), (16, 8, one64)]))
      (lp chan wf) = .next t := by
  refine ⟨_, (h.2.1 _ _ ?_ ?_ ?_ ?_ ?_).2.2.2.1 ?_⟩ <;> decide +kernel

theorem witness_LoopCommands_9 (h : Obligations.LoopCommands) :
    ∃ t, exec (.queryLoop (pk [(12, 1, 127)]))
      (lp chan wf) = .next t := by
  refine ⟨_, (h.2.1 _ _ ?_ ?_ ?_ ?_ ?_).2.2.2.2 ?_⟩ <;> decide +kernel

theorem witness_LoopCommands_10 (h : Obligations.LoopCommands) :
    ∃ t, exec (.setSignal (pk [(12, 2, 1023), (14, 1, 1), (16, 8, one64)]))
      (w) = .next t := by
  refine ⟨_, (h.2.2 _ _ ?_).1 ?_ ?_ ?_⟩ <;> decide +kernel

theorem witness_LoopCommands_11 (h : Obligations.LoopCommands) :
    ∃ t, exec (.tripLoops (pk []))
      (lp chan wf) = .next t := by
  refine ⟨_, (h.2.2 _ _ ?_).2.1 ?_⟩ <;> decide +kernel

theorem witness_LoopCommands_12 (h : Obligations.LoopCommands) :
    ∃ t, exec (.clearTrip (pk []))
      (ctlW (fun c => { c with latched := true, tripSources := 4 }) (lp { chan with state := .tripped } wf)) = .next t := by
  refine ⟨_, (h.2.2 _ _ ?_).2.2 ?_ ?_ ?_ ?_⟩ <;> decide +kernel

theorem witness_MapsTablesTracesProblems_1 (h : Obligations.MapsTablesTracesProblems) :
    ∃ t, exec (.loadMaps (pk [(14, 2, 255), (16, 2, 1), (24, 8, 0x200000)]))
      (wm rxRaw) = .next t := by
  refine ⟨_, h.1 _ _ false ?_ ?_ ?_ ?_ ?_ ?_⟩ <;> decide +kernel

theorem witness_MapsTablesTracesProblems_2 (h : Obligations.MapsTablesTracesProblems) :
    ∃ t, exec (.loadMaps (pk [(12, 1, 1), (14, 2, 127), (16, 2, 1), (24, 8, 0x200000)]))
      (lp chan (wm txRaw)) = .next t := by
  refine ⟨_, h.1 _ _ true ?_ ?_ ?_ ?_ ?_ ?_⟩ <;> decide +kernel

theorem witness_MapsTablesTracesProblems_3 (h : Obligations.MapsTablesTracesProblems) :
    ∃ t, exec (.setGateList (pk [(12, 1, 5), (13, 1, 1), (16, 8, 0x200000)]) [(255, 10000)])
      (wm []) = .next t := by
  refine ⟨_, h.2.1 _ _ [(255, 10000)] ?_ ?_ ?_ ?_ ?_ ?_ ?_⟩ <;> decide +kernel

theorem witness_MapsTablesTracesProblems_4 (h : Obligations.MapsTablesTracesProblems) :
    ∃ t, exec (.gateCycleStart 5)
      (wf.setPort 5 { stagedGates := some ([(255, 10000)], 1000000000, tk) }) = .next t := by
  refine ⟨_, h.2.2.1 _ 5 1000000000 [(255, 10000)] tk ?_⟩ <;> decide +kernel

theorem witness_MapsTablesTracesProblems_5 (h : Obligations.MapsTablesTracesProblems) :
    ∃ t, exec (.receiveFrame 0 3 0 5 0 77 [0, 0, 0x80, 0x3F])
      (ctlW (fun c => { c with rxMaps := [(255, rxM)] }) wf) = .next t := by
  refine ⟨_, h.2.2.2.1 _ 0 3 0 5 0 77 255 [0, 0, 0x80, 0x3F] rxM fld ?_ ?_ ?_ ?_ ?_ ?_ ?_ ?_ ?_ ?_⟩ <;> decide +kernel

theorem witness_MapsTablesTracesProblems_6 (h : Obligations.MapsTablesTracesProblems) :
    ∃ t, exec (.transmitFrameSent 127)
      (ctlW (fun c => { c with txMaps := [(127, rxM)], queued := [{ map := 127, payload := [1] }] }) wf) = .next t := by
  refine ⟨_, h.2.2.2.2.1 _ 127 { map := 127, payload := [1] } rxM ?_ ?_ ?_⟩ <;> decide +kernel

theorem witness_MapsTablesTracesProblems_7 (h : Obligations.MapsTablesTracesProblems) :
    ∃ t, exec (.loadFfTable (pk [(12, 2, 255), (14, 1, 1), (15, 1, 1), (16, 8, 0x200000)]))
      (ffS) = .next t := by
  refine ⟨_, h.2.2.2.2.2.1 _ _ ?_ ?_ ?_ ?_ ?_ ?_ ?_ ?_ ?_ ?_ ?_⟩ <;> decide +kernel

theorem witness_MapsTablesTracesProblems_8 (h : Obligations.MapsTablesTracesProblems) :
    ∃ t, exec (.ffTableSwitch 255)
      (wf.setFfTable 255 { used := true, flask := 1, switchAt := some 2000000000 }) = .next t := by
  refine ⟨_, h.2.2.2.2.2.2.1 _ 255 2000000000 ?_⟩ <;> decide +kernel

theorem witness_MapsTablesTracesProblems_9 (h : Obligations.MapsTablesTracesProblems) :
    ∃ t, exec (.armTrace (pk [(12, 1, 15), (16, 8, 0x200000)]))
      (lp chan (wm trRaw)) = .next t := by
  refine ⟨_, (h.2.2.2.2.2.2.2.1 _ _ 1 ?_ ?_ ?_ ?_ ?_ ?_).1 ?_ ?_ ?_ ?_ ?_⟩ <;> decide +kernel

theorem witness_MapsTablesTracesProblems_10 (h : Obligations.MapsTablesTracesProblems) :
    ∃ t, exec (.armTrace (pk [(12, 1, 15), (13, 1, 1)]))
      (wf.setTraceCh 15 { state := 1, trigger := 4, flask := 1 }) = .next t := by
  refine ⟨_, (h.2.2.2.2.2.2.2.1 _ _ 1 ?_ ?_ ?_ ?_ ?_ ?_).2.1 ?_ ?_ ?_⟩ <;> decide +kernel

theorem witness_MapsTablesTracesProblems_11 (h : Obligations.MapsTablesTracesProblems) :
    ∃ t, exec (.armTrace (pk [(12, 1, 15), (13, 1, 2)]))
      (wf.setTraceCh 15 { state := 2, flask := 1 }) = .next t := by
  refine ⟨_, (h.2.2.2.2.2.2.2.1 _ _ 1 ?_ ?_ ?_ ?_ ?_ ?_).2.2 ?_ ?_⟩ <;> decide +kernel

theorem witness_MapsTablesTracesProblems_12 (h : Obligations.MapsTablesTracesProblems) :
    ∃ t, exec (.readTrace (pk [(12, 1, 15), (16, 8, 0x1000), (24, 4, 36)]))
      (wf.setTraceCh 15 { state := 3, flask := 1, ring := [1, 2] }) = .next t := by
  refine ⟨_, h.2.2.2.2.2.2.2.2.1 _ _ ?_ ?_ ?_ ?_ ?_ ?_⟩ <;> decide +kernel

theorem witness_MapsTablesTracesProblems_13 (h : Obligations.MapsTablesTracesProblems) :
    ∃ t, exec (.createQp (pk [(12, 1, 7), (13, 1, 1), (16, 8, 0x200000)]) qd)
      (wm []) = .next t := by
  refine ⟨_, h.2.2.2.2.2.2.2.2.2.1 _ _ qd ?_ ?_ ?_ ?_ ?_ ?_ ?_ ?_ ?_ ?_⟩ <;> decide +kernel

theorem witness_MapsTablesTracesProblems_14 (h : Obligations.MapsTablesTracesProblems) :
    ∃ t, exec (.qpSymbolicFactorComplete 7)
      (qpS { qp1 with created := false, ticket := some tk } wf) = .next t := by
  refine ⟨_, h.2.2.2.2.2.2.2.2.2.2.1 _ 7 tk ?_⟩ <;> decide +kernel

theorem witness_MapsTablesTracesProblems_15 (h : Obligations.MapsTablesTracesProblems) :
    ∃ t, exec (.destroyQp (pk [(12, 1, 7)]))
      (qpS qp1 wf) = .next t := by
  refine ⟨_, (h.2.2.2.2.2.2.2.2.2.2.2 _ _ ?_ ?_ ?_ ?_).1 ?_ ?_ ?_⟩ <;> decide +kernel

theorem witness_MapsTablesTracesProblems_16 (h : Obligations.MapsTablesTracesProblems) :
    ∃ t, exec (.queryQp (pk [(12, 1, 7)]))
      (qpS qp1 wf) = .next t := by
  refine ⟨_, (h.2.2.2.2.2.2.2.2.2.2.2 _ _ ?_ ?_ ?_ ?_).2 ?_⟩ <;> decide +kernel

theorem witness_LoopAndSolverOperations_1 (h : Obligations.LoopAndSolverOperations) :
    ∃ t, exec (.loopSample 127)
      ((lp chan wf).setSignal 0 { value := one64, time := 1000000000, valid := true }) = .next t := by
  refine ⟨_, h.1 _ 127 ?_ ?_ ?_ ?_ ?_ ?_ ?_⟩ <;> decide +kernel

theorem witness_LoopAndSolverOperations_2 (h : Obligations.LoopAndSolverOperations) :
    ∃ t, exec (.loopOutputInstant 127)
      (lp { chan with due := some (1000000000, 1) } wf) = .next t := by
  refine ⟨_, h.2.1 _ 127 1000000000 1 ?_ ?_⟩ <;> decide +kernel

theorem witness_LoopAndSolverOperations_3 (h : Obligations.LoopAndSolverOperations) :
    ∃ t, exec (.publishTraj 0 0 15)
      (c6 1 ((wm trajRaw).setFlask 1 { f1 with mode := .paced })) = .next t := by
  refine ⟨_, (h.2.2.1 _ 0 0 15 (r3 1) (e3 1) ?_ ?_ ?_ ?_ ?_ ?_ ?_ ?_ ?_).1 ?_⟩ <;> decide +kernel

theorem witness_LoopAndSolverOperations_4 (h : Obligations.LoopAndSolverOperations) :
    ∃ t, exec (.publishTraj 0 0 15)
      (c6 1 (wm trajRaw)) = .next t := by
  refine ⟨_, (h.2.2.1 _ 0 0 15 (r3 1) (e3 1) ?_ ?_ ?_ ?_ ?_ ?_ ?_ ?_ ?_).2 ?_⟩ <;> decide +kernel

theorem witness_LoopAndSolverOperations_5 (h : Obligations.LoopAndSolverOperations) :
    ∃ t, exec (.qpUpdate 0 0 7)
      ((qpS qp1 (wm updRaw)).setQueue 7 0 { pours := [{ r3 1 with entries := [missE] }] }) = .next t := by
  refine ⟨_, (h.2.2.2.1 _ 0 0 7 { r3 1 with entries := [missE] } missE ?_ ?_ ?_).1 ?_⟩ <;> decide +kernel

theorem witness_LoopAndSolverOperations_6 (h : Obligations.LoopAndSolverOperations) :
    ∃ t, exec (.qpUpdate 0 0 7)
      (c7 1 (qpS qp1 (wm updRaw))) = .next t := by
  refine ⟨_, (h.2.2.2.1 _ 0 0 7 (r3 1) (e3 1) ?_ ?_ ?_).2 [{ what := 2, index := 0, value := one64 }] ?_ ?_ ?_ ?_ ?_⟩ <;> decide +kernel

theorem witness_LoopAndSolverOperations_7 (h : Obligations.LoopAndSolverOperations) :
    ∃ t, exec (.qpSolve 0 0 7 none)
      (c7 2 (qpS qp1 (wm []))) = .next t := by
  refine ⟨_, h.2.2.2.2 _ 0 0 7 none (r3 2) (e3 2) ?_ ?_ ?_⟩ <;> decide +kernel

def tr (f : Truss → Truss) (s : State) : State := { s with truss := f s.truss }
def mem1 (x : Member) (s : State) : State := s.setMember 3 x
def joined3 (s : State) : State := mem1 { state := .member } s
def pacedOne (s : State) : State := (s.setFlask 1 { f1 with mode := .paced, spanUs := 100, lastBoundary := some 1000000000 }).setJob 1 { used := true, flask := 1, state := .running, image := { paced := true, spanUs := 100, period := 1, phase := 0 } }
def paired (s : State) : State := tr (fun t => { t with id := 9, partner := some 3, pairMask := 2, agreed := true, agreedAt := 5 }) (mem1 { state := .paired } s)
def cnt (s : State) : State := s.setSync 16383 { kind := .counter, holder := 1 }
def apS (s : State) : State := (joined3 (cnt s)).setAperture 63 { opened := true, ctx := 0, members := 8, counter := 16383, va := 0x200000, bytes := 64 }
def port1 (x : AePort) (s : State) : State := (tr (fun t => { t with portEn := 3, id := 9 }) s).setAePort 1 x
def sg : SpanSigs := { flask := 1, span := 7, boundary := 1000000000, sigs := [(2, 5)] }
def timeS : State := port1 { up := true, peer := 3 } w
theorem witness_TrussCommands_1 (h : Obligations.TrussCommands) :
    ∃ t, exec (.setTruss (pk [(12, 4, 9), (16, 1, 3), (17, 1, 3), (18, 1, 3), (20, 4, 0x1FFFFFFF)]))
      (w) = .next t := by
  refine ⟨_, h.1 _ _ ?_ ?_ ?_ ?_ ?_ ?_ ?_⟩ <;> decide +kernel

theorem witness_TrussCommands_2 (h : Obligations.TrussCommands) :
    ∃ t, exec (.queryTruss (pk [(12, 1, 0xFF)]))
      (w) = .next t := by
  refine ⟨_, (h.2.1 _ _ ?_).1 ?_⟩ <;> decide +kernel

theorem witness_TrussCommands_3 (h : Obligations.TrussCommands) :
    ∃ t, exec (.queryTruss (pk [(12, 1, 3)]))
      (joined3 w) = .next t := by
  refine ⟨_, (h.2.1 _ _ ?_).2 ?_ ?_⟩ <;> decide +kernel

theorem witness_TrussCommands_4 (h : Obligations.TrussCommands) :
    ∃ t, exec (.pairModules (pk [(12, 1, 3), (14, 2, 2)]))
      (joined3 (pacedOne w)) = .next t := by
  refine ⟨_, h.2.2.1 _ _ ?_ ?_ ?_ ?_ ?_ ?_ ?_ ?_ ?_⟩ <;> decide +kernel

theorem witness_TrussCommands_5 (h : Obligations.TrussCommands) :
    ∃ t, exec (.unpair (pk []))
      (paired w) = .next t := by
  refine ⟨_, (h.2.2.2.1 _ _).1 ?_ ?_⟩ <;> decide +kernel

theorem witness_TrussCommands_6 (h : Obligations.TrussCommands) :
    ∃ t, exec (.leaveTruss (pk []))
      (w) = .next t := by
  refine ⟨_, ((h.2.2.2.1 _ _).2.1 ?_).1 ?_⟩ <;> decide +kernel

theorem witness_TrussCommands_7 (h : Obligations.TrussCommands) :
    ∃ t, exec (.leaveTruss (pk []))
      (paired w) = .next t := by
  refine ⟨_, ((h.2.2.2.1 _ _).2.1 ?_).2 ?_⟩ <;> decide +kernel

theorem witness_TrussCommands_8 (h : Obligations.TrussCommands) :
    ∃ t, exec (.readDivergence (pk []))
      (w) = .next t := by
  refine ⟨_, (h.2.2.2.1 _ _).2.2 ?_⟩ <;> decide +kernel

theorem witness_TrussCommands_9 (h : Obligations.TrussCommands) :
    ∃ t, exec (.trussAperture (pk [(12, 1, 63)]))
      (apS (wm [])) = .next t := by
  refine ⟨_, (h.2.2.2.2.1 _ _ 1 ?_ ?_ ?_ ?_ ?_ ?_).1 ?_⟩ <;> decide +kernel

theorem witness_TrussCommands_10 (h : Obligations.TrussCommands) :
    ∃ t, exec (.trussAperture (pk [(12, 1, 63), (13, 1, 15), (14, 2, 16383), (16, 6, 0x200000), (24, 8, 64)]))
      (cnt (wm [])) = .next t := by
  refine ⟨_, (h.2.2.2.2.1 _ _ 1 ?_ ?_ ?_ ?_ ?_ ?_).2 ?_ ?_ ?_ ?_ ?_⟩ <;> decide +kernel

theorem witness_TrussCommands_11 (h : Obligations.TrussCommands) :
    ∃ t, exec (.trussCopy (pk [(12, 1, 3), (13, 1, 63), (16, 6, 0x200000), (24, 8, 2)]) .written)
      (joined3 (wm [7, 8])) = .next t := by
  refine ⟨_, (h.2.2.2.2.2.1 _ _ 1 ?_ ?_ ?_ ?_ ?_ ?_ ?_ ?_).1⟩ <;> decide +kernel

theorem witness_TrussCommands_12 (h : Obligations.TrussCommands) :
    ∃ t, exec (.trussCopy (pk [(12, 1, 3), (13, 1, 63), (16, 6, 0x200000), (24, 8, 2)]) .lost)
      (joined3 (wm [7, 8])) = .next t := by
  refine ⟨_, (h.2.2.2.2.2.1 _ _ 1 ?_ ?_ ?_ ?_ ?_ ?_ ?_ ?_).2⟩ <;> decide +kernel

theorem witness_TrussCommands_13 (h : Obligations.TrussCommands) :
    ∃ t, exec (.stretchLateClear 0x1000)
      (tr (fun t => { t with stretchLate := true }) w) = .next t := by
  refine ⟨_, h.2.2.2.2.2.2 _ 0x1000 ?_⟩ <;> decide +kernel

theorem witness_TrussEvents_1 (h : Obligations.TrussEvents) :
    ∃ t, exec (.hello 1 3 9 5 4)
      (timeS) = .next t := by
  refine ⟨_, h.1 _ 1 3 9 5 4 ?_ ?_ ?_ ?_ ?_ ?_⟩ <;> decide +kernel

theorem witness_TrussEvents_2 (h : Obligations.TrussEvents) :
    ∃ t, exec (.helloTimeout 3)
      (joined3 w) = .next t := by
  refine ⟨_, (h.2.1 _ 3).1 ?_⟩ <;> decide +kernel

theorem witness_TrussEvents_3 (h : Obligations.TrussEvents) :
    ∃ t, exec (.leaveMessage 3)
      (joined3 w) = .next t := by
  refine ⟨_, (h.2.1 _ 3).2⟩ <;> decide +kernel

theorem witness_TrussEvents_4 (h : Obligations.TrussEvents) :
    ∃ t, exec (.helloSend)
      (timeS) = .next t := by
  refine ⟨_, (h.2.2.1 _).1⟩ <;> decide +kernel

theorem witness_TrussEvents_5 (h : Obligations.TrussEvents) :
    ∃ t, exec (.configurationDigestSend)
      (timeS) = .next t := by
  refine ⟨_, (h.2.2.1 _).2 ?_⟩ <;> decide +kernel

theorem witness_TrussEvents_6 (h : Obligations.TrussEvents) :
    ∃ t, exec (.configurationDigest 3 { member := 3 })
      (joined3 w) = .next t := by
  refine ⟨_, h.2.2.2.1 _ 3 { member := 3 } ?_ ?_ ?_⟩ <;> decide +kernel

theorem witness_TrussEvents_7 (h : Obligations.TrussEvents) :
    ∃ t, exec (.timeMessage 1 (-7) 1 true 5)
      (timeS) = .next t := by
  refine ⟨_, h.2.2.2.2.1 _ 1 1 5 (-7) true ?_ ?_ ?_ ?_ ?_ ?_ ?_ ?_⟩ <;> decide +kernel

theorem witness_TrussEvents_8 (h : Obligations.TrussEvents) :
    ∃ t, exec (.timeFollowTimeout)
      (tr (fun t => { t with following := some 1, followSince := 5 }) (paired (mem1 { state := .paired, apart := 1 } timeS) |>.setMember 3 { state := .paired, apart := 1 })) = .next t := by
  refine ⟨_, h.2.2.2.2.2.1 _ 1 ?_ ?_ ?_⟩ <;> decide +kernel

theorem witness_TrussEvents_9 (h : Obligations.TrussEvents) :
    ∃ t, exec (.stretchNotice 3 512 1000100000)
      (joined3 w) = .next t := by
  refine ⟨_, h.2.2.2.2.2.2.1 _ 3 512 1000100000 ?_ ?_ ?_⟩ <;> decide +kernel

theorem witness_TrussEvents_10 (h : Obligations.TrussEvents) :
    ∃ t, exec (.stretchBoundary 1)
      (tr (fun t => { t with stretchWaits := [⟨1, 300, 5⟩] }) (pacedOne w)) = .next t := by
  refine ⟨_, h.2.2.2.2.2.2.2.1 _ 1 1000000000 ⟨1, 300, 5⟩ ?_ ?_ ?_ ?_ ?_⟩ <;> decide +kernel

theorem witness_TrussEvents_11 (h : Obligations.TrussEvents) :
    ∃ t, exec (.signatureMessage 3 1 7 [(2, 5)])
      (paired w) = .next t := by
  refine ⟨_, (h.2.2.2.2.2.2.2.2.1 _ 3 1 7 [(2, 5)] ?_ ?_).1 ?_⟩ <;> decide +kernel

theorem witness_TrussEvents_12 (h : Obligations.TrussEvents) :
    ∃ t, exec (.signatureMessage 3 1 7 [(2, 6)])
      (tr (fun t => { t with own := [sg] }) (paired w)) = .next t := by
  refine ⟨_, (h.2.2.2.2.2.2.2.2.1 _ 3 1 7 [(2, 6)] ?_ ?_).2 sg ?_⟩ <;> decide +kernel

theorem witness_TrussEvents_13 (h : Obligations.TrussEvents) :
    ∃ t, exec (.signatureTimeout 1 7)
      (tr (fun t => { t with own := [sg] }) (paired w)) = .next t := by
  refine ⟨_, h.2.2.2.2.2.2.2.2.2.1 _ 1 7 sg ?_⟩ <;> decide +kernel

theorem witness_TrussEvents_14 (h : Obligations.TrussEvents) :
    ∃ t, exec (.pairTimeout)
      (tr (fun t => { t with pairing := some (tk, 3, 2, 5) }) (joined3 w)) = .next t := by
  refine ⟨_, h.2.2.2.2.2.2.2.2.2.2.1 _ tk 3 2 5 ?_⟩ <;> decide +kernel

theorem witness_TrussEvents_15 (h : Obligations.TrussEvents) :
    ∃ t, exec (.comparisonStart 1)
      (tr (fun t => { t with pairMask := 6 }) (paired (pacedOne w))) = .next t := by
  refine ⟨_, (h.2.2.2.2.2.2.2.2.2.2.2.1 _ 1 ?_ ?_ ?_ ?_ ?_).1 ?_⟩ <;> decide +kernel

theorem witness_TrussEvents_16 (h : Obligations.TrussEvents) :
    ∃ t, exec (.comparisonStart 1)
      (paired (pacedOne w)) = .next t := by
  refine ⟨_, (h.2.2.2.2.2.2.2.2.2.2.2.1 _ 1 ?_ ?_ ?_ ?_ ?_).2 ?_⟩ <;> decide +kernel

theorem witness_TrussEvents_17 (h : Obligations.TrussEvents) :
    ∃ t, exec (.aetheolinkLaneFailure 1 7)
      (timeS) = .next t := by
  refine ⟨_, (h.2.2.2.2.2.2.2.2.2.2.2.2.1 _ 1 7 ?_).1 ?_ ?_ ?_ ?_⟩ <;> decide +kernel

theorem witness_TrussEvents_18 (h : Obligations.TrussEvents) :
    ∃ t, exec (.retrainComplete 1)
      (port1 { retraining := true } w) = .next t := by
  refine ⟨_, (h.2.2.2.2.2.2.2.2.2.2.2.2.1 _ 1 7 ?_).2 ?_ ?_⟩ <;> decide +kernel

theorem witness_TrussEvents_19 (h : Obligations.TrussEvents) :
    ∃ t, exec (.apertureWrite 3 63 60 [1, 2, 3, 4])
      (apS (wm [])) = .next t := by
  refine ⟨_, h.2.2.2.2.2.2.2.2.2.2.2.2.2 _ 3 63 60 [1, 2, 3, 4] ?_ ?_ ?_ ?_ ?_⟩ <;> decide +kernel

def inPa (f : Power → Power) (s : State) : State := { s with pa := f s.pa }
def parkJob : State := (wf.setFlask 1 { f1 with committed := { f1.committed with cores := [(1, 0)] } }).setJob 1 { used := true, flask := 1, state := .running, cores := [(1, 0)] }
theorem witness_PowerCommandsAndEvents_1 (h : Obligations.PowerCommandsAndEvents) :
    ∃ t, exec (.setMode (pk [(12, 1, 2)]))
      (w) = .next t := by
  refine ⟨_, (h.1 _ _ .park ?_ ?_ ?_ ?_ ?_ ?_ ?_ ?_).1 ?_⟩ <;> decide +kernel

theorem witness_PowerCommandsAndEvents_2 (h : Obligations.PowerCommandsAndEvents) :
    ∃ t, exec (.setMode (pk [(12, 1, 3)]))
      (wf) = .next t := by
  refine ⟨_, (h.1 _ _ .limp ?_ ?_ ?_ ?_ ?_ ?_ ?_ ?_).2 ?_⟩ <;> decide +kernel

theorem witness_PowerCommandsAndEvents_3 (h : Obligations.PowerCommandsAndEvents) :
    ∃ t, exec (.queryPower (pk []))
      (w) = .next t := by
  refine ⟨_, h.2.1 _ _ ?_⟩ <;> decide +kernel

theorem witness_PowerCommandsAndEvents_4 (h : Obligations.PowerCommandsAndEvents) :
    ∃ t, exec (.setPowerPolicy (pk [(12, 2, 40), (14, 2, 85)]))
      (w) = .next t := by
  refine ⟨_, h.2.2.1 _ _ ?_ ?_ ?_⟩ <;> decide +kernel

theorem witness_PowerCommandsAndEvents_5 (h : Obligations.PowerCommandsAndEvents) :
    ∃ t, exec (.setFlaskPower (pk [(12, 1, 1), (16, 2, 0xFFFF)]))
      (wf) = .next t := by
  refine ⟨_, (h.2.2.2.1 _ _ ?_ ?_ ?_ ?_ ?_).1 ?_⟩ <;> decide +kernel

theorem witness_PowerCommandsAndEvents_6 (h : Obligations.PowerCommandsAndEvents) :
    ∃ t, exec (.setFlaskPower (pk [(12, 1, 1), (14, 2, 500), (16, 2, 500)]))
      (wf) = .next t := by
  refine ⟨_, (h.2.2.2.1 _ _ ?_ ?_ ?_ ?_ ?_).2 ?_⟩ <;> decide +kernel

theorem witness_PowerCommandsAndEvents_7 (h : Obligations.PowerCommandsAndEvents) :
    ∃ t, exec (.queryEnergy (pk [(12, 1, 1), (14, 2, 0x3FF)]))
      (wf) = .next t := by
  refine ⟨_, (h.2.2.2.2.1 _ _ ?_ ?_ ?_).1 ?_⟩ <;> decide +kernel

theorem witness_PowerCommandsAndEvents_8 (h : Obligations.PowerCommandsAndEvents) :
    ∃ t, exec (.queryEnergy (pk [(12, 1, 1), (14, 2, 1022)]))
      (wf) = .next t := by
  refine ⟨_, (h.2.2.2.2.1 _ _ ?_ ?_ ?_).2 ?_ ?_⟩ <;> decide +kernel

theorem witness_PowerCommandsAndEvents_9 (h : Obligations.PowerCommandsAndEvents) :
    ∃ t, exec (.readVoltageTable (pk [(12, 1, 3), (16, 8, 0x1000)]))
      (w) = .next t := by
  refine ⟨_, h.2.2.2.2.2.2.1 _ _ ?_ ?_⟩ <;> decide +kernel

theorem witness_PowerCommandsAndEvents_10 (h : Obligations.PowerCommandsAndEvents) :
    ∃ t, exec (.epochStart {})
      (w) = .next t := by
  refine ⟨_, h.2.2.2.2.2.2.2.1 _ _ ?_ ?_⟩ <;> decide +kernel

theorem witness_PowerCommandsAndEvents_11 (h : Obligations.PowerCommandsAndEvents) :
    ∃ t, exec (.thermalLimit 7)
      (inPa (fun p => { p with limitRun := [(7, 20)] }) w) = .next t := by
  refine ⟨_, (h.2.2.2.2.2.2.2.2.1 _ _ ?_).1 ?_⟩ <;> decide +kernel

theorem witness_PowerCommandsAndEvents_12 (h : Obligations.PowerCommandsAndEvents) :
    ∃ t, exec (.thermalLimit 9)
      (inPa (fun p => { p with limitRun := [(9, 20)] }) w) = .next t := by
  refine ⟨_, (h.2.2.2.2.2.2.2.2.1 _ _ ?_).2.1 ?_⟩ <;> decide +kernel

theorem witness_PowerCommandsAndEvents_13 (h : Obligations.PowerCommandsAndEvents) :
    ∃ t, exec (.thermalLimit 10)
      (inPa (fun p => { p with limitRun := [(10, 20)] }) w) = .next t := by
  refine ⟨_, (h.2.2.2.2.2.2.2.2.1 _ _ ?_).2.2 ?_⟩ <;> decide +kernel

theorem witness_PowerCommandsAndEvents_14 (h : Obligations.PowerCommandsAndEvents) :
    ∃ t, exec (.stretchRequestFall)
      (inPa (fun p => { p with lowRun := 2000 }) w) = .next t := by
  refine ⟨_, h.2.2.2.2.2.2.2.2.2.1 _ ?_⟩ <;> decide +kernel

theorem witness_PowerCommandsAndEvents_15 (h : Obligations.PowerCommandsAndEvents) :
    ∃ t, exec (.modelDrift)
      (inPa (fun p => { p with driftRun := 10 }) w) = .next t := by
  refine ⟨_, h.2.2.2.2.2.2.2.2.2.2.1 _ ?_⟩ <;> decide +kernel

theorem witness_PowerCommandsAndEvents_16 (h : Obligations.PowerCommandsAndEvents) :
    ∃ t, exec (.coeffBankSwitch)
      (inPa (fun p => { p with switchAt := some 1000050000 }) w) = .next t := by
  refine ⟨_, h.2.2.2.2.2.2.2.2.2.2.2.1 _ 1000050000 ?_⟩ <;> decide +kernel

theorem witness_PowerCommandsAndEvents_17 (h : Obligations.PowerCommandsAndEvents) :
    ∃ t, exec (.warnClear 0x4000)
      (w) = .next t := by
  refine ⟨_, h.2.2.2.2.2.2.2.2.2.2.2.2 _ 0x4000 ?_⟩ <;> decide +kernel

def sf (f : Safe → Safe) (s : State) : State := { s with safe := f s.safe }
def c3S (x : C3) (s : State) : State := (s.setFlask 1 { f1 with cls := 3 }).setC3 1 x
def slackC : C3 := { dieA := 0, dieB := 1, dieC := 2, mode := .slack, held := [(1, 0)] }
def reC : C3 := { slackC with reruns := [{ job := 1, step := 0, sig0 := some 5, sig1 := some 6, running := true }] }
def jobOne (s : State) : State := s.setJob 1 { used := true, flask := 1, state := .running, image := { steps := [{ core := 0, entry := 0 }] } }
def safeNow (s : State) : State := sf (fun x => { x with safeState := true, noticeChannels := [3], noticeRepeat := 254 }) s
theorem witness_SafetyCommands_1 (h : Obligations.SafetyCommands) :
    ∃ t, exec (.armSafeOut (pk []))
      (w) = .next t := by
  refine ⟨_, (h.1 _ _ ?_ ?_).1 ?_⟩ <;> decide +kernel

theorem witness_SafetyCommands_2 (h : Obligations.SafetyCommands) :
    ∃ t, exec (.armSafeOut (pk [(12, 1, 1)]))
      (sf (fun x => { x with noticeChannels := [0] }) w) = .next t := by
  refine ⟨_, (h.1 _ _ ?_ ?_).2 ?_ ?_ ?_ ?_⟩ <;> decide +kernel

theorem witness_SafetyCommands_3 (h : Obligations.SafetyCommands) :
    ∃ t, exec (.setResultClass (pk [(12, 1, 255), (16, 4, 100000000), (20, 1, 31), (21, 1, 2), (22, 1, 1), (23, 1, 3), (24, 4, 600000)]))
      (w) = .next t := by
  refine ⟨_, h.2.1 _ _ ?_ ?_ ?_ ?_ ?_ ?_ ?_ ?_ ?_⟩ <;> decide +kernel

theorem witness_SafetyCommands_4 (h : Obligations.SafetyCommands) :
    ∃ t, exec (.queryResultClass (pk [(12, 1, 255)]))
      (w) = .next t := by
  refine ⟨_, (h.2.2.1 _ _).1 ?_⟩ <;> decide +kernel

theorem witness_SafetyCommands_5 (h : Obligations.SafetyCommands) :
    ∃ t, exec (.querySafety (pk []))
      (w) = .next t := by
  refine ⟨_, (h.2.2.1 _ _).2.1 ?_⟩ <;> decide +kernel

theorem witness_SafetyCommands_6 (h : Obligations.SafetyCommands) :
    ∃ t, exec (.readSafetyLog (pk [(16, 8, 0x1000)]))
      (sf (fun x => { x with log := [{ time := 5, area := 9, detail := 0x21, flask := 1, cls := 2, state := 0 }] }) w) = .next t := by
  refine ⟨_, (h.2.2.1 _ _).2.2 ?_⟩ <;> decide +kernel

theorem witness_SafetyCommands_7 (h : Obligations.SafetyCommands) :
    ∃ t, exec (.setSafetyNotice (pk [(12, 1, 31), (16, 4, 0x1FFFFFFF)]))
      (w) = .next t := by
  refine ⟨_, h.2.2.2.1 _ _ ?_ ?_ ?_⟩ <;> decide +kernel

theorem witness_SafetyCommands_8 (h : Obligations.SafetyCommands) :
    ∃ t, exec (.setSafetyErrPolicy (pk [(12, 1, 4), (13, 1, 64), (16, 4, 60000)]))
      (w) = .next t := by
  refine ⟨_, h.2.2.2.2.1 _ _ ?_ ?_ ?_ ?_ ?_ ?_ ?_⟩ <;> decide +kernel

theorem witness_SafetyCommands_9 (h : Obligations.SafetyCommands) :
    ∃ t, exec (.setSafetyErrPolicy (pk [(12, 1, 4), (13, 1, 16), (16, 4, 1000)]))
      (sf (fun x => { x with outValid := true }) w) = .next t := by
  refine ⟨_, h.2.2.2.2.1 _ _ ?_ ?_ ?_ ?_ ?_ ?_ ?_⟩ <;> decide +kernel

theorem witness_SafetyCommands_10 (h : Obligations.SafetyCommands) :
    ∃ t, exec (.enterSafeState (pk [(12, 1, 0x5A)]))
      (w) = .next t := by
  refine ⟨_, h.2.2.2.2.2.1 _ _ ?_ ?_⟩ <;> decide +kernel

theorem witness_SafetyCommands_11 (h : Obligations.SafetyCommands) :
    ∃ t, exec (.setSafetyTimes (pk [(12, 2, 65535), (14, 2, 600), (16, 2, 1000)]))
      (w) = .next t := by
  refine ⟨_, h.2.2.2.2.2.2.1 _ _ ?_ ?_ ?_ ?_ ?_ ?_ ?_⟩ <;> decide +kernel

theorem witness_SafetyCommands_12 (h : Obligations.SafetyCommands) :
    ∃ t, exec (.setC3Layout (pk [(12, 1, 1), (13, 1, 3), (14, 1, 1), (15, 1, 0)]))
      (w.setFlask 1 { f1 with state := .created, cls := 3 }) = .next t := by
  refine ⟨_, h.2.2.2.2.2.2.2.1 _ _ ?_ ?_ ?_ ?_ ?_ ?_⟩ <;> decide +kernel

theorem witness_SafetyCommands_13 (h : Obligations.SafetyCommands) :
    ∃ t, exec (.revokeFlask (pk [(12, 1, 1)]))
      (jobOne wf) = .next t := by
  refine ⟨_, h.2.2.2.2.2.2.2.2 _ _ ?_ ?_ ?_⟩ <;> decide +kernel

theorem witness_SafetyEvents_1 (h : Obligations.SafetyEvents) :
    ∃ t, exec (.resultStale 255)
      (w.setRclass 255 { newest := some 5, cfg := { staleCheck := true, ageLimit := 100 } }) = .next t := by
  refine ⟨_, h.1 _ 255 5 ?_ ?_ ?_ ?_⟩ <;> decide +kernel

theorem witness_SafetyEvents_2 (h : Obligations.SafetyEvents) :
    ∃ t, exec (.safeStateNotice)
      (safeNow w) = .next t := by
  refine ⟨_, h.2.1 _ ?_ ?_ ?_⟩ <;> decide +kernel

theorem witness_SafetyEvents_3 (h : Obligations.SafetyEvents) :
    ∃ t, exec (.partitionAudit [])
      (wf) = .next t := by
  refine ⟨_, (h.2.2.1 _ [] ?_).1 ?_⟩ <;> decide +kernel

theorem witness_SafetyEvents_4 (h : Obligations.SafetyEvents) :
    ∃ t, exec (.partitionAudit [(1, 3, {})])
      (w.setFlask 1 { f1 with cls := 1 }) = .next t := by
  refine ⟨_, (h.2.2.1 _ [(1, 3, {})] ?_).2 1 ?_ ?_ ?_⟩ <;> decide +kernel

theorem witness_SafetyEvents_5 (h : Obligations.SafetyEvents) :
    ∃ t, exec (.translationAudit [(1, 5)])
      (sf (fun x => { x with lockedCrc := [(1, 5)] }) w) = .next t := by
  refine ⟨_, (h.2.2.2.1 _ [(1, 5)] ?_).1 ?_⟩ <;> decide +kernel

theorem witness_SafetyEvents_6 (h : Obligations.SafetyEvents) :
    ∃ t, exec (.translationAudit [(1, 6)])
      (sf (fun x => { x with lockedCrc := [(1, 5)] }) (w.setFlask 1 { f1 with cls := 1 })) = .next t := by
  refine ⟨_, (h.2.2.2.1 _ [(1, 6)] ?_).2 1 5 6 ?_ ?_ ?_ ?_⟩ <;> decide +kernel

theorem witness_SafetyEvents_7 (h : Obligations.SafetyEvents) :
    ∃ t, exec (.duplexCheck 1 1 0 { sig0 := some 5, sig1 := some 5 })
      (jobOne (c3S slackC w)) = .next t := by
  refine ⟨_, (h.2.2.2.2.1 _ 1 1 0 { sig0 := some 5, sig1 := some 5 } ?_ ?_ ?_).1 ?_ ?_ ?_⟩ <;> decide +kernel

theorem witness_SafetyEvents_8 (h : Obligations.SafetyEvents) :
    ∃ t, exec (.duplexCheck 1 1 0 { sig0 := some 5, sig1 := some 6 })
      (jobOne (c3S slackC w)) = .next t := by
  refine ⟨_, (h.2.2.2.2.1 _ 1 1 0 { sig0 := some 5, sig1 := some 6 } ?_ ?_ ?_).2.1 ?_ ?_ ?_⟩ <;> decide +kernel

theorem witness_SafetyEvents_9 (h : Obligations.SafetyEvents) :
    ∃ t, exec (.duplexCheck 1 1 0 { sig0 := some 5, sig1 := none })
      (jobOne (c3S { slackC with mode := .noSlack } w)) = .next t := by
  refine ⟨_, (h.2.2.2.2.1 _ 1 1 0 { sig0 := some 5, sig1 := none } ?_ ?_ ?_).2.2 ?_ ?_⟩ <;> decide +kernel

theorem witness_SafetyEvents_10 (h : Obligations.SafetyEvents) :
    ∃ t, exec (.slackRerunComplete 1 1 0 7)
      (jobOne (c3S reC w)) = .next t := by
  refine ⟨_, (h.2.2.2.2.2.1 _ 1 1 0 7 { job := 1, step := 0, sig0 := some 5, sig1 := some 6, running := true } ?_).1 ?_ ?_⟩ <;> decide +kernel

theorem witness_SafetyEvents_11 (h : Obligations.SafetyEvents) :
    ∃ t, exec (.slackRerunComplete 1 1 0 5)
      (jobOne (c3S reC w)) = .next t := by
  refine ⟨_, (h.2.2.2.2.2.1 _ 1 1 0 5 { job := 1, step := 0, sig0 := some 5, sig1 := some 6, running := true } ?_).2.1 ?_ { core := 0, entry := 0 } ?_⟩ <;> decide +kernel

theorem witness_SafetyEvents_12 (h : Obligations.SafetyEvents) :
    ∃ t, exec (.slackWindowEnd 1 1 0)
      (jobOne (c3S reC w)) = .next t := by
  refine ⟨_, (h.2.2.2.2.2.1 _ 1 1 0 7 { job := 1, step := 0, sig0 := some 5, sig1 := some 6, running := true } ?_).2.2⟩ <;> decide +kernel

theorem witness_SafetyEvents_13 (h : Obligations.SafetyEvents) :
    ∃ t, exec (.checkerTest 1 0 true)
      (c3S slackC w) = .next t := by
  refine ⟨_, (h.2.2.2.2.2.2.1 _ 1 ?_ ?_ ?_ ?_).1⟩ <;> decide +kernel

theorem witness_SafetyEvents_14 (h : Obligations.SafetyEvents) :
    ∃ t, exec (.checkerTest 1 1 false)
      (c3S slackC w) = .next t := by
  refine ⟨_, (h.2.2.2.2.2.2.1 _ 1 ?_ ?_ ?_ ?_).2.1⟩ <;> decide +kernel

theorem witness_SafetyEvents_15 (h : Obligations.SafetyEvents) :
    ∃ t, exec (.checkerTest 1 2 false)
      (c3S slackC w) = .next t := by
  refine ⟨_, (h.2.2.2.2.2.2.1 _ 1 ?_ ?_ ?_ ?_).2.2⟩ <;> decide +kernel

theorem witness_SafetyEvents_16 (h : Obligations.SafetyEvents) :
    ∃ t, exec (.eoiExpiry 1)
      (c3S { slackC with mode := .simplex, simplexSince := some 5 } w) = .next t := by
  refine ⟨_, h.2.2.2.2.2.2.2.1 _ 1 5 ?_ ?_⟩ <;> decide +kernel

theorem witness_SafetyEvents_17 (h : Obligations.SafetyEvents) :
    ∃ t, exec (.clockFault true)
      (w) = .next t := by
  refine ⟨_, h.2.2.2.2.2.2.2.2.1 _ true ?_⟩ <;> decide +kernel

theorem witness_SafetyEvents_18 (h : Obligations.SafetyEvents) :
    ∃ t, exec (.errorCounterLeak 0 4 0)
      (w.setMemSource 4 { (w.memSource 4) with leaky := [(0, 2)] }) = .next t := by
  refine ⟨_, (h.2.2.2.2.2.2.2.2.2 _ 4 0).1 ?_⟩ <;> decide +kernel

theorem witness_SafetyEvents_19 (h : Obligations.SafetyEvents) :
    ∃ t, exec (.errorCounterLeak 1 4 0)
      (w) = .next t := by
  refine ⟨_, (h.2.2.2.2.2.2.2.2.2 _ 4 0).2.1 ?_⟩ <;> decide +kernel

theorem witness_SafetyEvents_20 (h : Obligations.SafetyEvents) :
    ∃ t, exec (.errorCounterLeak 2 255 0)
      (w) = .next t := by
  refine ⟨_, (h.2.2.2.2.2.2.2.2.2 _ 255 0).2.2⟩ <;> decide +kernel

def sv (f : Service → Service) (s : State) : State := { s with svc := f s.svc }
def cmp (c : Nat) (x : Component) (s : State) : State := s.setComp c x
def im9 : FwImage := { component := 9, version := 0x10001, secver := 1 }
def ready : Component := { Component.rest with bankB := { state := .verified, version := 0x10001, secver := 1 } }
def onTrial : Component := { ready with trial := true, proven := true, active := 1 }
def devG (s : State) : State := { s with fuses := { s.fuses with grade := .ld600 } }
def wp : State := w.setFlask 1 { f1 with mode := .paced, spanUs := 100, lastBoundary := some 1000000000 }
def pim : PourImage := { digest := moduleDigest w, paced := true, spanUs := 100, parting := [0] }
def allOf (e : Except (Nat × Nat) (State × List Nat × List Nat)) : State × List Nat × List Nat := match e with | .ok x => x | .error _ => (State.reset, [], [])
def rlP : Packet := pk [(12, 1, 1), (13, 1, 8)]
def rlA : State × List Nat × List Nat := allOf (loadAll 1 0 [pim] (wp.taken rlP) [] [])
def rl : Reload := { flask := 1, newJobs := [2], timeoutMs := 100, since := 5, ticket := tk }
def rlS : State := (wp.setJob 2 { used := true, flask := 1, state := .loaded, image := pim }) |> fun s => { s with ex := { s.ex with reloads := [rl] } }
def rec1 : Retired := { kind := 7, unit := 255, index := 5, time := 5 }
theorem witness_FirmwareReloadRetirement_1 (h : Obligations.FirmwareReloadRetirement) :
    ∃ t, exec (.writeImage (pk [(12, 1, 9), (13, 1, 1)]) im9)
      (w) = .next t := by
  refine ⟨_, h.1 _ _ im9 ?_ ?_ ?_ ?_ ?_ ?_⟩ <;> decide +kernel

theorem witness_FirmwareReloadRetirement_2 (h : Obligations.FirmwareReloadRetirement) :
    ∃ t, exec (.imageWriteComplete 9)
      (cmp 9 { Component.rest with writing := [(tk, im9)] } w) = .next t := by
  refine ⟨_, (h.2.1 _ 9 tk im9 ?_).1 ?_⟩ <;> decide +kernel

theorem witness_FirmwareReloadRetirement_3 (h : Obligations.FirmwareReloadRetirement) :
    ∃ t, exec (.imageWriteComplete 9)
      (cmp 9 { Component.rest with writing := [(tk, { im9 with signed := false })] } w) = .next t := by
  refine ⟨_, (h.2.1 _ 9 tk { im9 with signed := false } ?_).2 1 ?_⟩ <;> decide +kernel

theorem witness_FirmwareReloadRetirement_4 (h : Obligations.FirmwareReloadRetirement) :
    ∃ t, exec (.activateBank (pk [(12, 1, 2), (32, 4, 10000)]))
      (cmp 2 ready w) = .next t := by
  refine ⟨_, (h.2.2.1 _ _ ?_ ?_ ?_ ?_ ?_ ?_ ?_ ?_).1 ?_⟩ <;> decide +kernel

theorem witness_FirmwareReloadRetirement_5 (h : Obligations.FirmwareReloadRetirement) :
    ∃ t, exec (.activateBank (pk [(12, 1, 9), (14, 1, 1), (16, 1, 1)]))
      (cmp 9 ready wf) = .next t := by
  refine ⟨_, (h.2.2.1 _ _ ?_ ?_ ?_ ?_ ?_ ?_ ?_ ?_).2 ?_ ?_ ?_ ?_ ?_ ?_ ?_⟩ <;> decide +kernel

theorem witness_FirmwareReloadRetirement_6 (h : Obligations.FirmwareReloadRetirement) :
    ∃ t, exec (.confirmBank (pk [(12, 1, 9)]))
      (cmp 9 onTrial w) = .next t := by
  refine ⟨_, h.2.2.2.1 _ _ ?_ ?_ ?_ ?_ ?_⟩ <;> decide +kernel

theorem witness_FirmwareReloadRetirement_7 (h : Obligations.FirmwareReloadRetirement) :
    ∃ t, exec (.commitSecurityVersion (pk [(12, 1, 0xA5)]))
      (w) = .next t := by
  refine ⟨_, (h.2.2.2.2.1 _ _ ?_ ?_ ?_).1 ?_⟩ <;> decide +kernel

theorem witness_FirmwareReloadRetirement_8 (h : Obligations.FirmwareReloadRetirement) :
    ∃ t, exec (.commitSecurityVersion (pk [(12, 1, 0xA5)]))
      (sv (fun x => { x with comps := (List.range 10).map fun k => (k, { Component.rest with bankA := { state := .verified, version := 0x10001, secver := 5 } }) }) w) = .next t := by
  refine ⟨_, (h.2.2.2.2.1 _ _ ?_ ?_ ?_).2 ?_⟩ <;> decide +kernel

theorem witness_FirmwareReloadRetirement_9 (h : Obligations.FirmwareReloadRetirement) :
    ∃ t, exec (.keystoneRestart true true)
      (cmp 0 { ready with switch := .waiting } State.reset) = .next t := by
  refine ⟨_, h.2.2.2.2.2.1 _ ?_⟩ <;> decide +kernel

theorem witness_FirmwareReloadRetirement_10 (h : Obligations.FirmwareReloadRetirement) :
    ∃ t, exec (.reloadFlask rlP [pim])
      (wp) = .next t := by
  refine ⟨_, h.2.2.2.2.2.2.1 _ rlA.1 _ _ rlA.2.1 rlA.2.2 ?_ ?_ ?_ ?_ ?_ ?_ ?_ ?_ ?_ ?_ ?_ ?_⟩ <;> decide +kernel

theorem witness_FirmwareReloadRetirement_11 (h : Obligations.FirmwareReloadRetirement) :
    ∃ t, exec (.reloadSwap 1)
      (rlS) = .next t := by
  refine ⟨_, (h.2.2.2.2.2.2.2.1 _ 1 rl ?_).1 ?_ ?_ ?_⟩ <;> decide +kernel

theorem witness_FirmwareReloadRetirement_12 (h : Obligations.FirmwareReloadRetirement) :
    ∃ t, exec (.reloadTimeout 1)
      (rlS) = .next t := by
  refine ⟨_, (h.2.2.2.2.2.2.2.1 _ 1 rl ?_).2⟩ <;> decide +kernel

theorem witness_FirmwareReloadRetirement_13 (h : Obligations.FirmwareReloadRetirement) :
    ∃ t, exec (.retireDie (pk [(12, 1, 3)]))
      (w) = .next t := by
  refine ⟨_, h.2.2.2.2.2.2.2.2.1 _ _ ?_ ?_ ?_ ?_ ?_ ?_ ?_ ?_⟩ <;> decide +kernel

theorem witness_FirmwareReloadRetirement_14 (h : Obligations.FirmwareReloadRetirement) :
    ∃ t, exec (.retireSite (pk [(12, 1, 3), (13, 1, 143)]))
      (w) = .next t := by
  refine ⟨_, (h.2.2.2.2.2.2.2.2.2.1 _ _ ?_ ?_ ?_ ?_ ?_ ?_).1 ?_⟩ <;> decide +kernel

theorem witness_FirmwareReloadRetirement_15 (h : Obligations.FirmwareReloadRetirement) :
    ∃ t, exec (.retireSite (pk [(12, 1, 0), (13, 1, 127)]))
      (w.setFlask 1 { f1 with committed := { f1.committed with cores := [(0, 127)] } }) = .next t := by
  refine ⟨_, (h.2.2.2.2.2.2.2.2.2.1 _ _ ?_ ?_ ?_ ?_ ?_ ?_).2 1 ?_⟩ <;> decide +kernel

theorem witness_FirmwareReloadRetirement_16 (h : Obligations.FirmwareReloadRetirement) :
    ∃ t, exec (.readmit (pk [(12, 1, 7), (13, 1, 255), (16, 4, 5)]))
      ({ w with sup := { w.sup with record := [rec1] } }) = .next t := by
  refine ⟨_, h.2.2.2.2.2.2.2.2.2.2 _ _ ?_ ?_⟩ <;> decide +kernel

theorem witness_ServiceRecordsAndDevelopment_1 (h : Obligations.ServiceRecordsAndDevelopment) :
    ∃ t, exec (.readServiceLog (pk [(16, 8, 0x1000), (28, 2, 1)]))
      (sv (fun x => { x with log := [⟨0, 0x0C, 0, 0, 0, 0, 0⟩] }) w) = .next t := by
  refine ⟨_, (h.1 _ _ ?_ ?_).1 ?_⟩ <;> decide +kernel

theorem witness_ServiceRecordsAndDevelopment_2 (h : Obligations.ServiceRecordsAndDevelopment) :
    ∃ t, exec (.readRetirement (pk [(16, 8, 0x1000), (28, 2, 4096)]))
      ({ w with sup := { w.sup with record := [rec1] } }) = .next t := by
  refine ⟨_, (h.1 _ _ ?_ ?_).2 ?_⟩ <;> decide +kernel

theorem witness_ServiceRecordsAndDevelopment_3 (h : Obligations.ServiceRecordsAndDevelopment) :
    ∃ t, exec (.setDiagPort (pk [(12, 1, 3), (14, 2, 5), (16, 16, 0xFE80), (32, 16, 0xFE81)]))
      (devG w) = .next t := by
  refine ⟨_, h.2.1 _ _ ?_ ?_ ?_⟩ <;> decide +kernel

theorem witness_ServiceRecordsAndDevelopment_4 (h : Obligations.ServiceRecordsAndDevelopment) :
    ∃ t, exec (.queryService (pk [(12, 1, 0xFF)]))
      (w) = .next t := by
  refine ⟨_, (h.2.2.1 _ _ ?_).1 ?_⟩ <;> decide +kernel

theorem witness_ServiceRecordsAndDevelopment_5 (h : Obligations.ServiceRecordsAndDevelopment) :
    ∃ t, exec (.queryService (pk [(12, 1, 9)]))
      (w) = .next t := by
  refine ⟨_, (h.2.2.1 _ _ ?_).2 ?_⟩ <;> decide +kernel

theorem witness_ServiceRecordsAndDevelopment_6 (h : Obligations.ServiceRecordsAndDevelopment) :
    ∃ t, exec (.calibrateEnergy (pk [(16, 8, 0x1000)]))
      ({ w with pa := { w.pa with mode := .park } }) = .next t := by
  refine ⟨_, h.2.2.2.1 _ _ ?_ ?_ ?_ ?_⟩ <;> decide +kernel

theorem witness_ServiceRecordsAndDevelopment_7 (h : Obligations.ServiceRecordsAndDevelopment) :
    ∃ t, exec (.energySuiteComplete [] [])
      (sv (fun x => { x with suite := some (tk, 0x1000) }) w) = .next t := by
  refine ⟨_, h.2.2.2.2.1 _ [] [] tk 0x1000 ?_⟩ <;> decide +kernel

theorem witness_ServiceRecordsAndDevelopment_8 (h : Obligations.ServiceRecordsAndDevelopment) :
    ∃ t, exec (.injectFault (pk [(12, 1, 0), (13, 1, 15)]))
      (devG w) = .next t := by
  refine ⟨_, (h.2.2.2.2.2.1 _ _ ?_ ?_ ?_).1 ?_⟩ <;> decide +kernel

theorem witness_ServiceRecordsAndDevelopment_9 (h : Obligations.ServiceRecordsAndDevelopment) :
    ∃ t, exec (.injectFault (pk [(12, 1, 1), (13, 1, 1), (16, 6, 0x200040)]))
      (devG (wm [])) = .next t := by
  refine ⟨_, (h.2.2.2.2.2.1 _ _ ?_ ?_ ?_).2.1 { ctx := 0, flask := 1, va := 0x200000, pages := [0], big := true, write := true, own := true } ?_ ?_⟩ <;> decide +kernel

theorem witness_ServiceRecordsAndDevelopment_10 (h : Obligations.ServiceRecordsAndDevelopment) :
    ∃ t, exec (.injectFault (pk [(12, 1, 2)]))
      (devG w) = .next t := by
  refine ⟨_, (h.2.2.2.2.2.1 _ _ ?_ ?_ ?_).2.2.1 ?_⟩ <;> decide +kernel

theorem witness_ServiceRecordsAndDevelopment_11 (h : Obligations.ServiceRecordsAndDevelopment) :
    ∃ t, exec (.injectFault (pk [(12, 1, 3), (14, 1, 255)]))
      (devG w) = .next t := by
  refine ⟨_, (h.2.2.2.2.2.1 _ _ ?_ ?_ ?_).2.2.2.1 ?_⟩ <;> decide +kernel

theorem witness_ServiceRecordsAndDevelopment_12 (h : Obligations.ServiceRecordsAndDevelopment) :
    ∃ t, exec (.injectFault (pk [(12, 1, 4)]))
      (devG w) = .next t := by
  refine ⟨_, (h.2.2.2.2.2.1 _ _ ?_ ?_ ?_).2.2.2.2 ?_⟩ <;> decide +kernel

theorem witness_ServiceRecordsAndDevelopment_13 (h : Obligations.ServiceRecordsAndDevelopment) :
    ∃ t, exec (.setDevTrace (pk [(12, 1, 3)]))
      (devG w) = .next t := by
  refine ⟨_, h.2.2.2.2.2.2 _ _ ?_ ?_ ?_ ?_⟩ <;> decide +kernel

def vfS : State := { w with host := { w.host with numVf := 1, ctxs := [(0, { ctx0 with fn := 1 })] } }
def armedS (s : State) : State := { s with safe := { s.safe with armed := true } }
def cls3 : State := w.setFlask 1 { f1 with cls := 3, committed := { f1.committed with queues := [(7, 0)] } }
theorem witness_StandbyAndResetsArePrivileged_1 (h : Obligations.StandbyAndResetsArePrivileged) :
    ∃ t, exec (.enterStandby (pk []))
      (vfS) = .next t := by
  refine ⟨_, (h _ (pk []) ?_ ?_ ?_ (.enterStandby (pk [])) 0x0840 0 ?_).choose_spec.1⟩ <;> decide +kernel

theorem witness_StandbyAndResetsArePrivileged_2 (h : Obligations.StandbyAndResetsArePrivileged) :
    ∃ t, exec (.resetModule (pk []))
      (vfS) = .next t := by
  refine ⟨_, (h _ (pk []) ?_ ?_ ?_ (.resetModule (pk [])) 0x0841 1 ?_).choose_spec.1⟩ <;> decide +kernel

theorem witness_StandbyAndResetsArePrivileged_3 (h : Obligations.StandbyAndResetsArePrivileged) :
    ∃ t, exec (.resetDie (pk []))
      (vfS) = .next t := by
  refine ⟨_, (h _ (pk []) ?_ ?_ ?_ (.resetDie (pk [])) 0x0842 1 ?_).choose_spec.1⟩ <;> decide +kernel

theorem witness_StartFlaskModeClass_1 (h : Obligations.StartFlaskModeClass) :
    ∃ t, exec (.startFlask (pk [(12, 1, 1)]))
      ({ w.setFlask 1 { f1 with state := .loaded } with pa := { w.pa with mode := .limp } }) = .next t := by
  refine ⟨_, (h _ _ ?_ ?_ ?_ ?_ ?_).1⟩ <;> decide +kernel

theorem witness_StartFlaskModeClass_2 (h : Obligations.StartFlaskModeClass) :
    ∃ t, exec (.startFlask (pk [(12, 1, 1)]))
      ({ w.setFlask 1 { f1 with state := .stopped, cls := 3 } with pa := { w.pa with mode := .depot } }) = .next t := by
  refine ⟨_, (h _ _ ?_ ?_ ?_ ?_ ?_).1⟩ <;> decide +kernel

theorem witness_ArmedLocksUpdates_1 (h : Obligations.ArmedLocksUpdates) :
    ∃ t, exec (.activateBank (pk [(12, 1, 3), (13, 1, 1), (14, 1, 1), (16, 1, 15), (32, 4, 10000)]))
      (armedS w) = .next t := by
  refine ⟨_, (h.1 _ _ ?_ ?_ ?_ ?_ ?_ ?_ ?_).1 ?_⟩ <;> decide +kernel

theorem witness_ArmedLocksUpdates_2 (h : Obligations.ArmedLocksUpdates) :
    ∃ t, exec (.activateBank (pk [(12, 1, 9), (13, 1, 1), (14, 1, 1), (16, 1, 15)]))
      (armedS cls3) = .next t := by
  refine ⟨_, (h.1 _ _ ?_ ?_ ?_ ?_ ?_ ?_ ?_).1 (.inr (.inr ⟨by decide +kernel, by decide +kernel, 1, by decide +kernel, by decide +kernel, by decide +kernel, by decide +kernel⟩))⟩ <;> decide +kernel

theorem witness_ArmedLocksUpdates_3 (h : Obligations.ArmedLocksUpdates) :
    ∃ t, exec (.activateBank (pk [(12, 1, 2)]))
      (armedS (w.setComp 2 { Component.rest with bankB := { state := .verified, version := 0x10001, secver := 1 } })) = .next t := by
  refine ⟨_, (h.1 _ _ ?_ ?_ ?_ ?_ ?_ ?_ ?_).2 ?_ ?_ ?_ ?_⟩ <;> decide +kernel

theorem witness_ArmedLocksUpdates_4 (h : Obligations.ArmedLocksUpdates) :
    ∃ t, exec (.reloadFlask (pk [(12, 1, 1), (13, 1, 8), (32, 4, 10000)]) [])
      (armedS cls3) = .next t := by
  refine ⟨_, h.2 _ _ [] ?_ ?_ ?_ ?_ ?_ ?_ ?_⟩ <;> decide +kernel

/-! ### Ill-formed commands are refused by every check of WellFormed -/

theorem test_wf_packet_ring : (Instr.nop { pk [] with ring := 1024 }).wf = false := by decide +kernel
theorem test_wf_packet_length : (Instr.nop { pk [] with params := List.replicate 53 0 }).wf = false := by decide +kernel
theorem test_wf_packet : (Instr.nop { pk [] with ring := 1023 }).wf = true := by decide +kernel
theorem test_wf_context : (Instr.sqTail 255 1024 0).wf = false := by decide +kernel
theorem test_wf_function : (Instr.sqTail 256 1023 0).wf = false := by decide +kernel
theorem test_wf_doorbell : (Instr.sqTail 255 1023 0).wf = true := by decide +kernel
theorem test_wf_flask : (Instr.partingLine 16).wf = false ∧ (Instr.partingLine 15).wf = true := by decide +kernel
theorem test_wf_tundish : (Instr.tundishClose 16 1).wf = false ∧ (Instr.tundishClose 15 1).wf = true := by decide +kernel
theorem test_wf_member : (Instr.helloTimeout 4).wf = false ∧ (Instr.helloTimeout 3).wf = true := by decide +kernel
theorem test_wf_stack : (Instr.rehome 0 0 0 2 4).wf = false ∧ (Instr.rehome 0 0 0 2 3).wf = true := by decide +kernel

/-! ### Worked examples of the spec -/

/-- Example of chapter 0 at Table 0.3: an FK4-450-LA of stepping A1. -/
theorem test_module_id : ({ w with fuses := { w.fuses with grade := .la450, stepping := 0xA1 } } : State).moduleId = 0xA1700204 := by
  decide +kernel

def cvt (f : Fmt) (ovf : Bool) (v : Machine.Num) : Nat × Counts := f.store .nearest ovf v
/-- Table 6.7: 0.1 (FP32), 1.0625, 3 × 2^-11, 2^-11, 460 to E4M3. -/
theorem test_convert_e4m3 : cvt .e4m3 false (f32 0x3DCCCCCD) = (0x1D, {}) ∧ cvt .e4m3 false (.fin false 17 (-4)) = (0x38, {})
    ∧ cvt .e4m3 false (.fin false 3 (-11)) = (0x01, {}) ∧ cvt .e4m3 false (.fin false 1 (-11)) = (0x00, { uf := 1 })
    ∧ cvt .e4m3 false (.fin false 460 0) = (0x7E, { sat := 1 }) := by decide +kernel
/-- Table 6.7: −70,000 to E5M2 with OVF 0 and 1; 200.5 and −2.5 to INT8. -/
theorem test_convert_others : cvt .e5m2 false (.fin true 70000 0) = (0xFB, { sat := 1 })
    ∧ cvt .e5m2 true (.fin true 70000 0) = (0xFC, { sat := 1 }) ∧ cvt .int8 false (.fin false 401 (-1)) = (0x7F, { sat := 1 })
    ∧ cvt .int8 false (.fin true 5 (-1)) = (0xFE, {}) := by decide +kernel

/-- Table 6.10: 1.5 (0x3C) against codebook entries 15, 4, 7 and 12, as V of the four columns. -/
theorem test_codebook : ([0x40, 0xAA, 0x00, 0x31].map fun c => twosOf 96 (Acc.add {} (Fmt.e4m3.decode 0x3C) (Fmt.e4m3.decode c)).v)
    = [0x300000000, 0xFFFFFFFFFFFFFFFF88000000, 0, 0xD8000000] := by decide +kernel

/-- The example of R219: a row of 1000.0, −3.2, 0.004 and 0 in E4M3. -/
theorem test_row_scale : convertRow .e4m3 [.fin false 1000 0, f32 0xC04CCCCD, f32 0x3B83126F, Machine.Num.zero]
    = ([0x78, 0xB5, 0x01, 0x00], 2) := by decide +kernel

/-- Table 7.7: a = 0.5 and b = 1.0 for 10 steps in 4 chunks: h at steps 3, 4, 9 and 10. -/
theorem test_scan : let r := scanChunks 0 (cut (chunkLengths 10 4) (List.replicate 10 (0x3F000000, 0x3F800000)))
    chunkLengths 10 4 = [3, 3, 2, 2] ∧ [2, 3, 8].map (fun k => f32 (r.1.getD k 0)) = [f32 0x3FE00000, f32 0x3FF00000, f32 0x3FFF8000]
      ∧ f32 r.2 = f32 0x3FFFC000 := by decide +kernel

/-- The example of Table 8.2: positions of a 64 KiB page with D 576. -/
theorem test_page_tokens : pTokOf 65536 576 = 113 := by decide +kernel

/-- The example of R400: pulses of a camera at 30 frames per second in a TAI second, and its return to 0. -/
theorem test_trigger : let x : TrigSet := { mode := 1, num := 30, den := 1, phase := 0 }
    x.after 7000000000 = 7033333333 ∧ x.after 7033333333 = 7066666666 ∧ x.after 7966666666 = 8000000000 := by decide +kernel

/-- The example of Table 13.6: hits 1, 2 and 4 of updates 1 to 4 confirm a track; a second miss at 4 would delete it. -/
theorem test_lifecycle : let p : TrackParams := { mConfirm := 3, nConfirm := 5, missTentative := 2 }
    let t : Track := { id := 1, state := [], p := [], z := 0, l := 0, w := 0, h := 0, cls := 0, score := 0
                       history := [true, false, true, true], updates := 4 }
    (t.promote p).confirmed = true ∧ ({ t with history := [false, true, true], updates := 3 }.promote p).confirmed = false
      ∧ { t with history := [false, false, true, true], misses := 2 }.ends p [] none = true := by decide +kernel

/-- The examples of R81 and Table 16.5: 157.6 A with one phase on estimated current, 141.6 A with phase 4 gone; 5,097 credits; 272. -/
theorem test_phase_opens : let d : Die := { up with removed := 0xFC00, senseFail := 0x0200 }
    let e : Die := { d with removed := 0xFC10 }
    d.current = 1576 ∧ e.current = 1416
      ∧ ((w.setDie 1 e).setDiePower 1 { (w.diePower 1) with vcore := 720 }).dieCeiling 1 = 5097 ∧ stretchOf 5400 5097 = 272 := by
  decide +kernel

/-- The example of R614: bytes 16 to 25 of the header of class 12, flask 3, generation 42, VALID, VOTED and ANYTIME. -/
theorem test_header : ((Header.bytes { outputTime := 0, sourceEpoch := 0, generation := 42, cls := 12, flask := 3, digest := 0x5E27
                                       attrs := { voted := true, anytime := true } }).drop 16).take 10
    = [0x2A, 0, 0, 0, 0x0C, 3, 0x81, 1, 0x27, 0x5E] := by decide +kernel

/-- The example of R145: GET_IDENTITY with FENCE waits while a packet of its ring is in flight; alone it is answered, the reply's
first bytes its sequence number, then OK in the area of its opcode. -/
def fenced (n : List Ticket) : State := { w with host := { w.host with ctxs := [(0, { ctx0 with inFlight := n, ring := { cqBase := 0x1000, mirror := 0x8000 } })] } }
theorem test_fence : exec (.getIdentity { pk [] with flags := 1 }) (fenced [tk]) = .next (settle (fenced [tk])) := by rfl
theorem test_fence_alone : ∃ t, exec (.getIdentity { pk [] with flags := 1 }) (fenced []) = .next t
    ∧ (t.ctx 0).sqHead = 1 ∧ t.hostRead (t.ctx 0).ring.cqBase 8 = [1, 0, 0, 0, 0, 0, 0, 0] := by
  refine ⟨_, rfl, ?_⟩
  decide +kernel

/-- Reset: the queue is empty, nothing is listed in memory, and the block idles. -/
theorem test_reset_idles : step State.reset = .next State.reset := by rfl

theorem test_memory_form : Memory.wf State.reset.hostMem = true := by decide +kernel


/-! ### A whole coefficient record, for the witness of LOAD_ENERGY_COEFF -/

/-- The CRC register after each of 23 runs of 100 zero bytes (so that no evaluation runs deep). -/
def crcs : List Nat := [4294967295, 4164182025, 882432045, 2611644655, 1259460872, 3926600098, 2667749131, 1698413182, 4236892545, 1367774281, 665986472, 2606721149, 3613598038, 2505856508, 464043965, 3067533666, 3713578410, 2898702535, 4024152910, 3020097967, 56247852, 3898064268, 248303534, 1549801184]
theorem crc_runs : ∀ k < 23, (List.replicate 100 (0 : Byte)).foldl crcByte (crcs.getD k 0) = crcs.getD (k + 1) 0 := by
  decide +kernel

theorem crc_zeros (k : Nat) (h : k ≤ 23) :
    (List.replicate (k * 100) (0 : Byte)).foldl crcByte (crcs.getD 0 0) = crcs.getD k 0 := by
  induction k with
  | zero => rfl
  | succ k ih => rw [Nat.succ_mul, List.replicate_add, List.foldl_append, ih (by omega), crc_runs k (by omega)]

def coeffs : List Byte := raw 4 [(0, 4, 2745166111)]
theorem crc32c_of (bs : List Byte) (r : Nat) (h : bs.foldl crcByte 0xFFFFFFFF = r) : crc32c bs = r ^^^ 0xFFFFFFFF := by
  unfold crc32c
  rw [h]

theorem coeffs_crc : crc32c (List.replicate 2300 (0 : Byte)) = 2745166111 :=
  (crc32c_of _ _ (crc_zeros 23 (Nat.le_refl 23))).trans (by decide +kernel)

theorem coeffs_num (o : Nat) (h : o + 4 ≤ 2300) :
    leNat (((List.replicate 2300 (0 : Byte) ++ coeffs).drop o).take 4) = 0 := by
  rw [List.drop_append_of_le_length (by rw [List.length_replicate]; omega), List.drop_replicate,
    List.take_append_of_le_length (by rw [List.length_replicate]; omega), List.take_replicate,
    show min 4 (2300 - o) = 4 by omega]
  decide +kernel

theorem coeffs_valid : coeffValid (List.replicate 2300 (0 : Byte) ++ coeffs) = true := by
  have l : (List.replicate 2300 (0 : Byte) ++ coeffs).take 2300 = List.replicate 2300 (0 : Byte) :=
    List.take_left' List.length_replicate
  have n : (List.replicate 2300 (0 : Byte) ++ coeffs).length = 2304 := by
    rw [List.length_append, List.length_replicate]; rfl
  have d : ((List.replicate 2300 (0 : Byte) ++ coeffs).drop 2300) = coeffs := List.drop_left' List.length_replicate
  unfold coeffValid
  simp only [Bool.and_eq_true, decide_eq_true_eq, List.all_eq_true, List.mem_range]
  refine ⟨⟨⟨⟨⟨n, ?_⟩, coeffs_num 4 (by omega)⟩, fun k h => ?_⟩, fun k h => coeffs_num _ (by omega)⟩, ?_⟩
  · rw [l, d, coeffs_crc]
    decide +kernel
  · rw [coeffs_num _ (by omega)]
    decide +kernel
  · intro x h
    rw [List.drop_append_of_le_length (by rw [List.length_replicate]; omega), List.drop_replicate,
      List.take_append_of_le_length (by rw [List.length_replicate]), List.take_replicate] at h
    exact List.eq_of_mem_replicate h

def coeffS : State := { w with hostMem := Memory.write [] (0x1000 + 2300) coeffs }
def coeffP : Packet := pk [(16, 8, 0x1000), (24, 4, 2304)]
theorem coeffs_read : (coeffS.taken coeffP).getBytes 0 false 0x1000 2304 = List.replicate 2300 (0 : Byte) ++ coeffs := by
  decide +kernel

theorem witness_PowerCommandsAndEvents_coeff (h : Obligations.PowerCommandsAndEvents) :
    ∃ t, exec (.loadEnergyCoeff coeffP) coeffS = .next t := by
  refine ⟨_, h.2.2.2.2.2.1 coeffS coeffP ?_ ?_ ?_ ?_ ?_ ?_⟩
  · decide +kernel
  · decide +kernel
  · decide +kernel
  · decide +kernel
  · decide +kernel
  · have e := coeffs_read
    have d : coeffP.ring = 0 ∧ coeffP.u8 13 = 0 ∧ coeffP.u64 16 = 0x1000 := by decide +kernel
    simp only [d.1, d.2.1, d.2.2]
    exact (congrArg coeffValid e).trans coeffs_valid


end Sys2Proof.Tests
end

/-!
PROOFS. The statements of spec 01_architecture.md: the flask classes that a mode runs (Table 1.8) and START_FLASK outside them.
-/

namespace Sys2Proof.Machine

/-- The modes and classes outside Table 1.8 that R626 names are among those that `classRuns` denies. -/
theorem classRuns_eq_false {m : Mode} {cls : Nat}
    (h : m = .park ∨ (m = .limp ∧ cls = 0) ∨ (m = .depot ∧ 1 ≤ cls ∧ cls ≤ 3)) : classRuns m cls = false := by
  obtain rfl | ⟨rfl, rfl⟩ | ⟨rfl, hlow, -⟩ := h
  case inl => rfl
  case inr.inl => rfl
  case inr.inr => exact decide_eq_false (Nat.ne_of_gt hlow)

/-- START_FLASK of a flask that is ready to start but whose class the mode does not run is answered MODE_CLASS: its own checks before
this one (the flask's number, the safe state, the flask's state) pass. -/
theorem exec_startFlask_of_not_classRuns {s : State} {p : Packet} (hacc : s.accepts p 0x0209 1 true) (hnum : p.u8 12 ≤ 15)
    (hsafe : s.safe.safeState = false)
    (hready : (s.flask (p.u8 12)).state = .loaded ∨ (s.flask (p.u8 12)).state = .stopped)
    (hmode : classRuns s.pa.mode (s.flask (p.u8 12)).cls = false) :
    exec (.startFlask p) s = .next (answered p 3 8 3 [] (s.taken p)) := by
  have hstate : ¬ ((s.flask (p.u8 12)).state ≠ .loaded ∧ (s.flask (p.u8 12)).state ≠ .stopped) :=
    fun ⟨hloaded, hstopped⟩ => hready.elim hloaded hstopped
  refine command_reject hacc ?_
  simp only [State.taken_flask, State.taken_field_safe, State.taken_field_pa, hsafe, hmode]
  rw [if_neg (Nat.not_lt.2 hnum), if_neg Bool.false_ne_true, if_neg hstate]
  rfl

/-- Settles O58: R626's modes are modes that do not run the class (`classRuns_eq_false`), and the take-up keeps every flask. -/
theorem startFlaskModeClass : Obligations.StartFlaskModeClass := by
  intro s p hacc hnum hsafe x hready hmode
  exact ⟨exec_startFlask_of_not_classRuns hacc hnum hsafe hready (classRuns_eq_false hmode), State.taken_flask s p (p.u8 12)⟩

end Sys2Proof.Machine

/-!
PROOFS. The statements of spec 03_power_and_startup.md: who may send the commands of Table 3.7.
-/

namespace Sys2Proof.Machine

/-- An opcode of the privileged physical function only is denied to every other function, whatever its grant (R113, R608). -/
theorem State.permits_pfOnly_eq_false {s : State} {p : Packet} (op : Nat) (hfn : (s.ctx p.ring).fn ≠ 0) :
    s.permits p op true = false :=
  if_neg hfn

/-- Checks 1 to 5 of Table 4.4 do not ask who may send the opcode, so reserving it changes the answer to another function only where
the packet would pass every check: it then fails check 6. -/
theorem State.packetCheck_pfOnly {s : State} {p : Packet} {op least : Nat} {known : Bool} (hfn : (s.ctx p.ring).fn ≠ 0) :
    s.packetCheck p op known least true = some ((s.packetCheck p op known least false).getD 7) := by
  simp only [State.packetCheck, State.permits_pfOnly_eq_false op hfn]
  split
  case isTrue => rfl -- check 1, CONTEXT
  split
  case isTrue => rfl -- check 2, SEQ
  split
  case isTrue => rfl -- check 3, reserved bits
  split
  case isTrue => rfl -- check 4, the opcode
  split
  case isTrue => rfl -- check 5, PARAM_LEN
  cases s.permits p op false <;> rfl

/-- A command reserved to the privileged physical function is refused to every other function, whatever its own part would do. -/
theorem command_refused_of_fn_ne_zero {s : State} {p : Packet} {op least : Nat} {body : State → Ticket → Answer}
    (hrdy : s.host.hostRdy = true) (htake : (s.ctx p.ring).mayTake (p.flags.getLsbD 0) = true) (hfn : (s.ctx p.ring).fn ≠ 0) :
    command op least true p s body
      = .next (settle (refuseTaken p op ((s.packetCheck p op true least false).getD 7) s)) := by
  rw [command_eq_then]
  exact commandThen_refused hrdy htake (State.packetCheck_pfOnly hfn)

/-- Settles O57: the three commands of Table 3.7 are reserved to the privileged physical function (`command_refused_of_fn_ne_zero`),
and the detail is that of the first of checks 1 to 5 that fails, else 7. -/
theorem standbyAndResetsArePrivileged : Obligations.StandbyAndResetsArePrivileged := by
  intro s p hrdy htake hfn c op least hrow
  refine ⟨(s.packetCheck p op true least false).getD 7, ?_, ?_⟩
  · obtain hstandby | hmodule | hdie := hrow
    case' inl => cases hstandby
    case' inr.inl => cases hmodule
    case' inr.inr => cases hdie
    all_goals exact command_refused_of_fn_ne_zero hrdy htake hfn
  · rintro (hpass | hdenied)
    · rw [hpass]; rfl
    · rw [hdenied]; rfl

end Sys2Proof.Machine

/-!
PROOFS. The statements of spec 06_core_arithmetic.md: partial records, and reductions split over cores (R213).
-/

namespace Sys2Proof

@[simp] theorem length_leBytes (n v : Nat) : (leBytes n v).length = n := by
  induction n generalizing v with
  | zero => rfl
  | succ n ih => rw [leBytes, List.length_cons, ih]

namespace Machine

/-- The byte FLAGS of Table 6.9: each flag at its own bit, bits 7:3 clear. -/
theorem flagsByte_spec : ∀ nan pinf ninf : Bool,
    let b : Byte := BitVec.ofNat 8 (flagAt 0 nan + flagAt 1 pinf + flagAt 2 ninf)
    b.getLsbD 0 = nan ∧ b.getLsbD 1 = pinf ∧ b.getLsbD 2 = ninf ∧ b.toNat < 8 := by
  decide

/-- The layout of Table 6.9: the 12 bytes of V, then FLAGS and the three reserved bytes. -/
theorem Acc.bytes_eq (a : Acc) : a.bytes = leBytes 12 (twosOf 96 a.v)
    ++ BitVec.ofNat 8 (flagAt 0 a.nan + flagAt 1 a.pinf + flagAt 2 a.ninf) :: [0, 0, 0] := by
  rw [Acc.bytes, List.append_assoc]; rfl

@[simp] theorem Acc.length_bytes (a : Acc) : a.bytes.length = 16 := by
  rw [Acc.bytes_eq, List.length_append, length_leBytes]; rfl

theorem Acc.bytes_take_v (a : Acc) : a.bytes.take 12 = leBytes 12 (twosOf 96 a.v) := by
  rw [Acc.bytes_eq, List.take_left' (length_leBytes 12 _)]

theorem Acc.bytes_flags (a : Acc) :
    a.bytes[12]? = some (BitVec.ofNat 8 (flagAt 0 a.nan + flagAt 1 a.pinf + flagAt 2 a.ninf)) := by
  rw [Acc.bytes_eq, List.getElem?_append_right (length_leBytes 12 _).le, length_leBytes]; rfl

theorem Acc.bytes_drop_reserved (a : Acc) : a.bytes.drop 13 = [0, 0, 0] := by
  rw [Acc.bytes_eq, List.append_cons, List.drop_left' (by simp)]

/-- Adding a product is combining with the record that holds this product alone: what makes a split reduction exact. -/
theorem Acc.add_eq_join (a : Acc) (x y : Num) : a.add x y = a.join (Acc.add {} x y) := by
  unfold Acc.add Acc.join
  cases x.mul y with
  | nan => simp
  | inf neg => cases neg <;> simp
  | fin neg m e => simp

@[simp] theorem Acc.join_empty (a : Acc) : a.join {} = a := by
  simp [Acc.join]

theorem Acc.join_assoc (a b c : Acc) : (a.join b).join c = a.join (b.join c) := by
  simp [Acc.join, Int.add_assoc, Bool.or_assoc]

theorem Acc.join_right_comm (a b c : Acc) : (a.join b).join c = (a.join c).join b := by
  simp [Acc.join, Int.add_right_comm, Bool.or_right_comm]

theorem Acc.add_right_comm (a : Acc) (x y z w : Num) : (a.add x y).add z w = (a.add z w).add x y := by
  rw [Acc.add_eq_join (a.add x y), Acc.add_eq_join a x y, Acc.join_right_comm, ← Acc.add_eq_join a, ← Acc.add_eq_join]

/-- The accumulator after the products of `ps`, in order, on top of `a`. -/
def Acc.addAll (a : Acc) (ps : List (Num × Num)) : Acc := ps.foldl (fun a p => a.add p.1 p.2) a

theorem Acc.addAll_cons (a : Acc) (p : Num × Num) (ps : List (Num × Num)) :
    a.addAll (p :: ps) = (a.add p.1 p.2).addAll ps := rfl

/-- Going on with `ps` from `a` is combining `a` with the record of `ps` reduced on its own. -/
theorem Acc.join_addAll (a : Acc) (ps : List (Num × Num)) : a.join (Acc.addAll {} ps) = a.addAll ps := by
  induction ps generalizing a with
  | nil => exact Acc.join_empty a
  | cons p ps ih =>
    calc a.join (Acc.addAll {} (p :: ps))
      _ = a.join ((Acc.add {} p.1 p.2).join (Acc.addAll {} ps)) := by rw [Acc.addAll_cons, ih]
      _ = (a.add p.1 p.2).join (Acc.addAll {} ps) := by rw [← Acc.join_assoc, ← Acc.add_eq_join]
      _ = a.addAll (p :: ps) := by rw [ih, Acc.addAll_cons]

/-- The records of the parts, combined, are the record of the whole: by `Acc.join_addAll` each combination goes on where the parts
before it stopped. -/
theorem Acc.foldl_join_addAll (parts : List (List (Num × Num))) :
    (parts.map (Acc.addAll {})).foldl Acc.join {} = Acc.addAll {} (parts.flatMap id) := by
  simp only [List.foldl_map, Acc.join_addAll]
  exact List.foldl_flatMap.symm

theorem Acc.addAll_perm (a : Acc) {ps qs : List (Num × Num)} (h : ps.Perm qs) : a.addAll ps = a.addAll qs :=
  h.foldl_eq' (fun p _ q _ a => a.add_right_comm p.1 p.2 q.1 q.2) a

/-- Settles O27: Table 6.9 field by field, then a reduction as the combination of its products' records (`Acc.add_eq_join`), which
neither a split (`Acc.foldl_join_addAll`) nor an order (`Acc.addAll_perm`) changes. -/
theorem partialRecords : Obligations.PartialRecords := by
  refine ⟨fun a => ⟨a.length_bytes, a.bytes_take_v, a.bytes_drop_reserved, fun b hb => ?_⟩,
    fun a b => ⟨rfl, rfl, rfl, rfl⟩, Acc.foldl_join_addAll, fun ps qs => Acc.addAll_perm {}⟩
  obtain rfl : _ = b := Option.some.inj (a.bytes_flags.symm.trans hb)
  exact flagsByte_spec a.nan a.pinf a.ninf

end Machine

end Sys2Proof

/-!
PROOFS. The statements of spec 18_service_and_update.md: what ARMED locks, the switch of a firmware bank and the reload of a flask
(R591).
-/

namespace Sys2Proof.Machine

theorem timeoutOf_le {v : Nat} (h : v ≤ 10000) : timeoutOf v ≤ 10000 := by
  unfold timeoutOf
  split
  · decide
  · exact h

/-- Of the components that switch with an engine, R587's list names the loaded flasks that hold a queue of the engine. -/
theorem State.mem_bankFlasks_engine {s : State} {c f : Nat} (hc : 5 ≤ c) :
    f ∈ s.bankFlasks c ↔
      f ≤ 15 ∧ (s.flask f).state ≠ .empty ∧ ∃ q ∈ (s.flask f).committed.queues, q.1 = c - 2 := by
  have h3 : c ≠ 3 := by omega
  have h4 : c ≠ 4 := by omega
  simp [State.bankFlasks, flaskNums, h3, h4, hc, Nat.lt_succ_iff]

/-- R591, first item: what the lock of ACTIVATE_BANK covers. -/
theorem State.bankLocked_iff {s : State} {c : Nat} :
    s.bankLocked c = true ↔ s.safe.armed = true ∧ (c = 3 ∨ c = 4 ∨ (5 ≤ c ∧ ∃ f, f ≤ 15 ∧ (s.flask f).state ≠ .empty
      ∧ (s.flask f).cls = 3 ∧ ∃ q ∈ (s.flask f).committed.queues, q.1 = c - 2)) := by
  have hengine : (5 ≤ c ∧ ∃ f ∈ s.bankFlasks c, (s.flask f).cls = 3) ↔ (5 ≤ c ∧ ∃ f, f ≤ 15 ∧ (s.flask f).state ≠ .empty
      ∧ (s.flask f).cls = 3 ∧ ∃ q ∈ (s.flask f).committed.queues, q.1 = c - 2) := by
    refine and_congr_right fun hc => exists_congr fun f => ?_
    rw [State.mem_bankFlasks_engine hc]
    tauto
  rw [← hengine]
  simp [State.bankLocked, or_assoc]

/-- Every field of an ACTIVATE_BANK packet is in range (R16, R123). -/
structure ActivateBankInRange (p : Packet) : Prop where
  component : p.u8 12 ≤ 9
  resume : p.u8 13 ≤ 1
  count : p.u8 14 ≤ 16
  timeout : p.u32 32 ≤ 10000
  nodup : (Packet.flaskList p).Nodup
  flasks : ∀ f ∈ Packet.flaskList p, f ≤ 15

theorem ActivateBankInRange.not_reserved {p : Packet} (h : ActivateBankInRange p) :
    ¬ (9 < p.u8 12 ∨ 1 < p.u8 13 ∨ 16 < p.u8 14 ∨ 10000 < timeoutOf (p.u32 32)
      ∨ (Packet.flaskList p).any (15 < ·) ∨ ¬ (Packet.flaskList p).Nodup) := by
  have hany : ¬ (Packet.flaskList p).any (15 < ·) = true := by simpa using h.flasks
  simp only [not_or, not_not, Nat.not_lt]
  exact ⟨h.component, h.resume, h.count, timeoutOf_le h.timeout, hany, h.nodup⟩

/-- R591: ACTIVATE_BANK of a locked component is refused, whether it starts the switch or resumes it. -/
theorem exec_activateBank_locked {s : State} {p : Packet} (hacc : s.accepts p 0x0B02 24 true) (hrange : ActivateBankInRange p)
    (hcomp : 3 ≤ p.u8 12) (hlock : s.bankLocked (p.u8 12) = true) :
    exec (.activateBank p) s = .next (answered p 3 0x0B 6 [] (s.taken p)) := by
  have hlocked : (s.taken p).bankLocked (p.u8 12) = true := (State.taken_bankLocked s p _).trans hlock
  refine command_reject hacc ?_
  dsimp only
  rw [if_neg hrange.not_reserved, if_neg (Nat.not_lt.2 hcomp), if_pos hlocked]

/-- R588: ACTIVATE_BANK of component 0, 1 or 2 names the verified inactive bank active and waits for the restart; ARMED is not asked. -/
theorem exec_activateBank_at_restart {s : State} {p : Packet} (hacc : s.accepts p 0x0B02 24 true)
    (hrange : ActivateBankInRange p) (hcomp : p.u8 12 ≤ 2) (hstart : p.u8 13 = 0)
    (hswitch : (s.comp (p.u8 12)).switch = .none) (hidle : (s.comp (p.u8 12)).idle.state = .verified) :
    exec (.activateBank p) s
      = .next (answered p 0 0x0B 0 (leBytes 4 0 ++ [0]) (flipBank (p.u8 12) .waiting (s.taken p))) := by
  have hresume : ¬ p.u8 13 = 1 := by omega
  have hwait : ¬ ((s.taken p).comp (p.u8 12)).switch = .waiting := by rw [State.taken_comp, hswitch]; decide
  have hverified : ¬ ((s.taken p).comp (p.u8 12)).idle.state ≠ .verified := not_not.2 hidle
  refine command_done hacc (b := 0) ?_ rfl
  dsimp only
  rw [if_neg hrange.not_reserved, if_pos (Nat.lt_succ_of_le hcomp), if_neg hresume, if_neg hwait, if_neg hverified]
  rfl

/-- R591, second item: RELOAD_FLASK of a C3 flask is refused before its images are looked at; the contexts that close still come to
their end (`sweepClosing`). -/
theorem exec_reloadFlask_locked {s : State} {p : Packet} (images : List PourImage) (hacc : s.accepts p 0x0B05 24 true)
    (hflask : p.u8 12 ≤ 15) (hleast : 1 ≤ p.u8 13) (hmost : p.u8 13 ≤ 8) (htime : p.u32 32 ≤ 10000)
    (harmed : s.safe.armed = true) (hcls : (s.flask (p.u8 12)).cls = 3) :
    exec (.reloadFlask p images) s = .next (settle (sweepClosing (replyTo p 3 0x0B 6 [] (s.taken p)))) := by
  have hrange : ¬ (15 < p.u8 12 ∨ p.u8 13 = 0 ∨ 8 < p.u8 13 ∨ 10000 < timeoutOf (p.u32 32)) := by
    have := timeoutOf_le htime
    omega
  refine then_reject hacc ?_
  simp only [State.taken_flask, State.taken_field_safe]
  rw [if_neg hrange, if_pos ⟨harmed, hcls⟩]

/-- Settles O59: R591's components are those that `State.bankLocked` locks (`State.bankLocked_iff`); components 0 to 2 never come to
the lock. -/
theorem armedLocksUpdates : Obligations.ArmedLocksUpdates := by
  refine ⟨?switch, fun s p images hacc harmed hflask hleast hmost htime hcls =>
    exec_reloadFlask_locked images hacc hflask hleast hmost htime harmed hcls⟩
  intro s p hacc harmed hresume hcount htime hnodup hflask c
  have hrange (hc : c ≤ 9) : ActivateBankInRange p := ⟨hc, hresume, hcount, htime, hnodup, hflask⟩
  refine ⟨fun hc => ?_, fun hc => exec_activateBank_at_restart hacc (hrange (by omega)) hc⟩
  have hlock : s.bankLocked c = true :=
    State.bankLocked_iff.2 ⟨harmed, hc.imp_right (Or.imp_right fun ⟨hengine, _, hholds⟩ => ⟨hengine, hholds⟩)⟩
  exact exec_activateBank_locked hacc (hrange (by omega)) (by omega) hlock

end Sys2Proof.Machine

/-!
PROOFS. What every command does to the block as a whole: it goes on, with the lines at their levels (spec 02_module_interfaces.md, Host
lines and management sideband; 04_host_and_commands.md, Take-up, order and flow control).
-/

namespace Sys2Proof.Machine

/-- A meaning that ends in a step that goes on: neither a fault nor a refusal, and the lines are settled. -/
def GoesOn (o : Host.Outcome State Fault Refusal) : Prop := ∃ u, o = next u

theorem goesOn_next (u : State) : GoesOn (next u) := ⟨u, rfl⟩
theorem goesOn_nextSweep (u : State) : GoesOn (nextSweep u) := ⟨_, rfl⟩
theorem goesOn_nextMoves (u : State) : GoesOn (nextMoves u) := ⟨_, rfl⟩

theorem goesOn_ite {c : Prop} [Decidable c] {a b : Host.Outcome State Fault Refusal} (ha : GoesOn a) (hb : GoesOn b) :
    GoesOn (if c then a else b) := by
  split <;> assumption

/-- A command packet of a defined opcode is a take-up with the checks of its row of Chapter 19, whatever its own part does; `f` is the
work that its acceptance lets go on. -/
theorem exec_packet {i : Instr} {r : PacketRow} (s : State) (h : packetRow i = some r) :
    ∃ (f : State → State) (body : State → Ticket → Answer),
      exec i s = commandThen f r.opcode r.least r.pfOnly r.packet s body := by
  cases i
  all_goals cases h
  case removeFlask | stopJob | submitPour | createTundish | destroyTundish | closeSession | reloadFlask | setMode | pairModules
    | allocate | release | shareMemory | pin | unpin | move | evacuateStack | destroySequence | trimSequence | forkSequence
    | destroyFamily | retireDie => exact ⟨_, _, rfl⟩
  all_goals exact ⟨id, _, command_eq_then _ _ _ _ _ _⟩

/-- Every branch of an event's meaning, and of the packet of an undefined opcode, ends in a step that goes on. -/
theorem exec_event_goesOn {i : Instr} (s : State) (h : packetRow i = none) : GoesOn (exec i s) := by
  cases i
  all_goals cases h
  all_goals dsimp -zeta only [exec,
    execUndefinedOpcodePacket, execSqTail, execCqHead, execEnable, execSignalFaultClear, execAttnCauseClear,
    execStartStatusClear, execStretchLateClear, execTundishStatusClear, execWarnClear, execStallMs, execResetCauseRead,
    execDroppedRead, execConversionCountRead, execRcCounterRead, execLowHalfRead, execHighHalfWrite, execRegisterWrite,
    execUnalignedAccess, execSmbusBlockRead, execSmbusWrite, execAlertResponse, execReadWords, execWriteWords,
    execDiagReadServiceLog, execDiagReadSafetyLog, execDiagReadRetirement, execColdStart, execKaLoss, execKeystoneLost,
    execKaDip, execKaOutOfRange, execWakeAccepted, execWakeFall, execStartUp, execBistPass1Complete, execHostRdyRise,
    execFullCompute, execRailSoftStartTimeout, execRailRetry, execIbcRegulationTimeout, execOpenPhase,
    execSenseLocalisation, execRailUndervoltage, execVinLoss, execVinExtendedRange, execVinLowExt, execVinCapLift,
    execStandbyReached, execModuleResetBegin, execMpHeartbeatMissed, execPaHeartbeatMissed, execDieResetComplete,
    execPciePerstNAssert, execPciePerstNRelease, execLinkDown, execFunctionLevelReset, execFlrComplete, execD3hot,
    execHostDmaFailure, execInterimReply, execMsixInterrupt, execTripInputAssert, execTripInputDeassert,
    execSafeOutReadbackError, execPpsInEdge, execPpsLost, execPpsTodLabelFrame, execGptpMessage,
    execSourceQualificationLost, execSourceEligible, execSlewComplete, execLeapSecond, execTriggerPulse,
    execTriggerSettingEffect, execPpsOutSecond, execSpanBoundary, execPaceOverrun, execPartingLine, execSeriesTimeout,
    execReloadSwap, execReloadTimeout, execJobPlacement, execEntryIssue, execCoreStepFire, execEntryComplete, execJobStall,
    execFlaskResetComplete, execRevocationConfirm, execRevokeTimeout, execNopEntry, execConv, execDwconv, execS2c, execC2s,
    execRecur, execSsmStep, execScan, execKvAppend, execAttend, execAttendPacked, execKvFork, execSample, execVqEncode,
    execCodeGather, execTableGather, execBevLift, execGradW, execAttendGrad, execOptStep, execQuantize, execCopy, execFill,
    execRaise, execLower, execRehome, execMigrationCopyComplete, execFrameClearComplete, execMemoryError,
    execErrorCounterLeak, execScrubPass, execRelocationComplete, execTakeBatch, execDecodeAu, execFlush, execPosePush,
    execAlignPoints, execTrackUpdate, execCostmapBuild, execOctreeBuild, execPlan, execPublishTraj, execQpUpdate,
    execQpSolve, execCsi2FrameStart, execCsi2Line, execCsi2FrameEnd, execPointPacket, execTundishClose, execTundishWarn,
    execEncodeAuComplete, execReceiveFrame, execLoopSample, execLoopOutputInstant, execFfTableSwitch, execGateCycleStart,
    execRoutePrefetchTick, execTileBlockFetched, execRadiusMode, execProjectionBuildComplete, execImageWriteComplete,
    execKeystoneRestart, execEpochStart, execThermalLimit, execStretchRequestFall, execModelDrift, execCoeffBankSwitch,
    execStretchNotice, execStretchBoundary, execHello, execHelloTimeout, execHelloSend, execLeaveMessage, execTimeMessage,
    execTimeFollowTimeout, execConfigurationDigest, execConfigurationDigestSend, execSignatureMessage, execSignatureTimeout,
    execPairTimeout, execComparisonStart, execAetheolinkLaneFailure, execRetrainComplete, execApertureWrite,
    execSafeStateNotice, execKeystoneHalfMismatch, execPartitionAudit, execTranslationAudit, execDuplexCheck,
    execSlackRerunComplete, execSlackWindowEnd, execCheckerTest, execEoiExpiry, execResultStale, execClockFault,
    execViaductLaneFailure, execEthernetLinkUp, execEthernetLinkDown, execIbcRegulationLoss, execTileTaskComplete,
    execTransmitFrameSent, execSriovVfEnable, execPcieLinkDegraded, execEnergySuiteComplete, execQpSymbolicFactorComplete,
    execMapTileWriteComplete]
  all_goals
    repeat' first
    | with_reducible exact goesOn_next _
    | with_reducible exact goesOn_nextSweep _
    | with_reducible exact goesOn_nextMoves _
    | with_reducible apply goesOn_ite
    | split
    | extract_lets; clear_value *

theorem exec_goesOn (i : Instr) (s : State) : GoesOn (exec i s) := by
  cases h : packetRow i with
  | none => exact exec_event_goesOn s h
  | some r =>
    obtain ⟨f, body, hexec⟩ := exec_packet s h
    exact ⟨_, hexec⟩

/-- `settle` brings both lines to their levels and changes nothing that the levels follow. -/
theorem settle_linesFollow (s : State) : (settle s).linesFollow :=
  ⟨rfl, fun h => of_decide_eq_true (Bool.and_eq_true_iff.1 h).2⟩

/-- Settles O5: every meaning goes on (`exec_goesOn`), and the step that goes on settles the lines. -/
theorem noCommandStops : Obligations.NoCommandStops := by
  intro c s
  obtain ⟨u, hu⟩ := exec_goesOn c s
  exact ⟨settle u, hu, settle_linesFollow u⟩

/-- Settles O1: the queue's front is what `step` runs. -/
theorem stepRunsFrontCommand : Obligations.StepRunsFrontCommand := by
  refine ⟨fun c s rest => rfl, fun s hempty => ?_⟩
  rw [step, hempty]

/-- Settles O4: an empty queue keeps the state, and every command settles the lines (`noCommandStops`). -/
theorem everyStepKeepsTheLines : Obligations.EveryStepKeepsTheLines := by
  intro s t hfollow hstep
  cases hqueue : s.pending with
  | nil =>
    have hidle := stepRunsFrontCommand.2 s hqueue
    obtain rfl : s = t := Host.Outcome.next.inj (hidle.symm.trans hstep)
    exact hfollow
  | cons i rest =>
    rw [step, hqueue] at hstep
    obtain ⟨u, hu, hlines⟩ := noCommandStops i { s with pending := rest }
    obtain rfl : u = t := Host.Outcome.next.inj (hu.symm.trans hstep)
    exact hlines

/-- Settles O3: at reset no cause is pending, nothing holds the module and SIGNAL_FAULT is clear. -/
theorem resetLinesFollow : Obligations.ResetLinesFollow := by
  unfold Obligations.ResetLinesFollow
  decide

/-- Settles O6: a packet row is a take-up (`exec_packet`), and a take-up that waits changes nothing (`commandThen_waits`). -/
theorem packetWaits : Obligations.PacketWaits := by
  intro i r s hrow hwaits
  obtain ⟨f, body, hexec⟩ := exec_packet s hrow
  rw [hexec]
  exact commandThen_waits hwaits

/-- An OPEN context is listed: it differs from the resting row. -/
theorem Ctx.ne_rest_of_state {x : Ctx} (h : x.state ≠ .free) : x ≠ Ctx.rest := by
  rintro rfl
  exact h rfl

/-- Settles O7: the rows by `exec_packet` and `commandThen_refused`; then the refusal itself, whose reply reads the context that the
take-up wrote. -/
theorem packetRefusedByChecks : Obligations.PacketRefusedByChecks := by
  refine ⟨?rows, ?undefined, ?refusal⟩
  case rows =>
    intro i r s d hrow hrdy htake hcheck
    obtain ⟨f, body, hexec⟩ := exec_packet s hrow
    rw [hexec]
    exact commandThen_refused hrdy htake hcheck
  case undefined =>
    intro op p s d hrdy htake hcheck
    exact congrArg next (takeUp_refused hrdy htake hcheck)
  case refusal =>
    intro op d p s hopen x seq y
    let u : State := { s.setCtx p.ring y with host := { (s.setCtx p.ring y).host with taken := s.host.taken + 1 } }
    have hseq : (if decide (d ≠ 4 ∧ d ≠ 5 ∧ d ≠ 6) = true then x.expSeq + 1 else x.expSeq) = seq := by
      rw [show seq = if d = 4 ∨ d = 5 ∨ d = 6 then x.expSeq else x.expSeq + 1 from rfl, ← ite_not]
      exact if_congr (by rw [decide_eq_true_eq]; tauto) rfl rfl
    have hmove : moveHead p.ring (d ≠ 4 ∧ d ≠ 5 ∧ d ≠ 6) s = u := by
      rw [moveHead, hseq]
      rfl
    have hctx : u.ctx p.ring = y := State.setCtx_get s p.ring y (Ctx.ne_rest_of_state (by simp [y, x, hopen]))
    rw [refuseTaken, hmove, hctx]
    rfl

end Sys2Proof.Machine

/-!
PROOFS. The host side: replies and the mirror, attention, the lines and the sideband, the state after reset (spec
02_module_interfaces.md; 04_host_and_commands.md).
-/

namespace Sys2Proof.Machine

/-- Settles O2: the tables that the reset state leaves empty hold resting rows, and context 0's is the only context listed. -/
theorem resetState : Obligations.ResetState := by
  have hctx (c : Nat) (hc : c ≠ 0) : State.reset.ctx c = Ctx.rest := if_neg hc
  refine ⟨rfl, rfl, rfl, rfl, by decide, by decide, rfl, rfl, by decide, rfl, by decide, rfl, rfl, hctx, rfl, rfl, fun _ => rfl,
    fun _ => rfl, fun _ => rfl, fun _ => rfl, rfl, rfl, rfl, rfl, rfl⟩

theorem Ctx.state_ne_free_of_hearing {x : Ctx} (h : x.hearing = true) : x.state ≠ .free := by
  intro hfree
  simp [Ctx.hearing, hfree] at h

section Post

variable {c : Nat} {q : BitVec 32} {quiet : Bool} {cls area detail : Nat} {r : List Byte} {s : State}

/-- The reply of a context that hears: the 32 bytes in the ring, then the mirror with the tail moved on. -/
theorem post_of_hearing (h : (s.ctx c).hearing = true) :
    post c q quiet cls area detail r s = writeMirror c { s.setCtx c { s.ctx c with
        cqTail := ((s.ctx c).cqTail + 1) % 2 ^ (s.ctx c).ring.cqOrder, irqPending := (s.ctx c).irqPending || !quiet } with
      hostMem := Memory.write s.hostMem ((s.ctx c).ring.cqBase + 32 * (s.ctx c).cqTail) (replyBytes q cls area detail r) } :=
  if_pos h

theorem post_of_free (h : (s.ctx c).state = .free) : post c q quiet cls area detail r s = s := by
  have hdeaf : ¬ (s.ctx c).hearing = true := fun hhears => Ctx.state_ne_free_of_hearing hhears h
  exact (if_neg hdeaf).trans (if_pos h)

theorem post_of_dropped (hdeaf : (s.ctx c).hearing = false) (h : (s.ctx c).state ≠ .free) :
    post c q quiet cls area detail r s = s.setCtx c { s.ctx c with dropped := satInc (s.ctx c).dropped } :=
  (if_neg (Bool.not_eq_true _ ▸ hdeaf)).trans (if_neg h)

/-- A reply changes the contexts and host memory only. -/
theorem post_frame (c : Nat) (q : BitVec 32) (quiet : Bool) (cls area detail : Nat) (r : List Byte) (s : State) :
    post c q quiet cls area detail r s = { s with
      host := { s.host with ctxs := (post c q quiet cls area detail r s).host.ctxs }
      hostMem := (post c q quiet cls area detail r s).hostMem } := by
  by_cases hfree : (s.ctx c).state = .free
  · rw [post_of_free hfree]
  · cases hhears : (s.ctx c).hearing with
    | true => rw [post_of_hearing hhears]; rfl
    | false => rw [post_of_dropped hhears hfree]; rfl

theorem writeMirror_ctx_of_state_ne_free (h : (s.ctx c).state ≠ .free) :
    (writeMirror c s).ctx c = { s.ctx c with mirrorCount := (s.ctx c).mirrorCount + 1 } :=
  State.setCtx_get s c { s.ctx c with mirrorCount := (s.ctx c).mirrorCount + 1 } (Ctx.ne_rest_of_state h)

theorem writeMirror_ctx_other {k : Nat} (h : k ≠ c) : (writeMirror c s).ctx k = s.ctx k :=
  State.setCtx_other s c _ h

/-- A reply changes no context but its own. -/
theorem post_ctx_other {k : Nat} (h : k ≠ c) : (post c q quiet cls area detail r s).ctx k = s.ctx k := by
  by_cases hfree : (s.ctx c).state = .free
  · rw [post_of_free hfree]
  · cases hhears : (s.ctx c).hearing with
    | true =>
      rw [post_of_hearing hhears, writeMirror_ctx_other h]
      exact State.setCtx_other s c _ h
    | false =>
      rw [post_of_dropped hhears hfree]
      exact State.setCtx_other s c _ h

end Post

/-- Settles O8: the three cases of a reply (`post_of_hearing`, `post_of_dropped`, `post_of_free`), then what no case changes. -/
theorem replyGoesToTheRing : Obligations.ReplyGoesToTheRing := by
  intro c q quiet cls area detail r s x t
  refine ⟨fun hhears => ?hears, fun hdeaf hopen => ?dropped, post_of_free, fun k => post_ctx_other,
    post_frame c q quiet cls area detail r s⟩
  case hears =>
    let y : Ctx := { x with cqTail := (x.cqTail + 1) % 2 ^ x.ring.cqOrder, irqPending := x.irqPending || !quiet }
    let u : State := { s.setCtx c y with
      hostMem := Memory.write s.hostMem (x.ring.cqBase + 32 * x.cqTail) (replyBytes q cls area detail r) }
    have hfree : y.state ≠ .free := Ctx.state_ne_free_of_hearing (x := x) hhears
    have hctx : u.ctx c = y := State.setCtx_get s c y (Ctx.ne_rest_of_state hfree)
    have ht : t = writeMirror c u := post_of_hearing hhears
    constructor
    · rw [ht, writeMirror, hctx]
      rfl
    · rw [ht, writeMirror_ctx_of_state_ne_free (hctx.symm ▸ hfree), hctx]
  case dropped =>
    rw [show t = _ from post_of_dropped hdeaf hopen]
    exact ⟨rfl, State.setCtx_get s c _ (Ctx.ne_rest_of_state hopen)⟩

theorem pushLog_of_room {e : AttnEntry} {s : State} (h : s.host.log.length < 64) :
    pushLog e s = { s with host := { s.host with log := s.host.log ++ [e] } } :=
  if_pos h

theorem pushLog_of_full {e : AttnEntry} {s : State} (h : 64 ≤ s.host.log.length) :
    pushLog e s = { s with host := { s.host with log := s.host.log.drop 1 ++ [e], overflow := true } } :=
  if_neg (Nat.not_lt.2 h)

/-- An entry of the attention log changes the log and OVERFLOW only. -/
theorem pushLog_frame (e : AttnEntry) (s : State) :
    pushLog e s = { s with host := { s.host with log := (pushLog e s).host.log, overflow := (pushLog e s).host.overflow } } := by
  rcases Nat.lt_or_ge s.host.log.length 64 with h | h
  · rw [pushLog_of_room h]
  · rw [pushLog_of_full h]

/-- Settles O9: an event is its bit and an entry of the log (`pushLog_frame`); a write of 1 clears by the complement's AND. -/
theorem eventsAreRecorded : Obligations.EventsAreRecorded := by
  refine ⟨?event, ?line, ?clearCause, ?clearFault⟩
  case event =>
    intro b a d s _ e t
    let u : State := { s with host := { s.host with cause := s.host.cause ||| BitVec.ofNat 16 (2 ^ b) } }
    have ht : t = pushLog e u := rfl
    refine ⟨?_, fun hroom => ?_, fun hfull => ?_, ?_⟩
    · rw [ht, pushLog_frame]
    · rw [ht, pushLog_of_room (s := u) hroom]
      exact ⟨rfl, rfl⟩
    · rw [ht, pushLog_of_full (s := u) hfull]
      exact ⟨rfl, rfl⟩
    · rw [ht, pushLog_frame]
  case line =>
    intro b s _ t
    let u : State := { s with lines := { s.lines with
      fault := s.lines.fault ||| BitVec.ofNat 8 (2 ^ b), alert := s.lines.alert || !s.lines.fault.getLsbD b } }
    have ht : t = pushLog ⟨s.now, 1, 0, b, noCtx, 0⟩ u := rfl
    have hframe := pushLog_frame ⟨s.now, 1, 0, b, noCtx, 0⟩ u
    refine ⟨?_, ?_, ?_, fun hroom => ?_, ?_⟩
    · rw [ht, hframe]
    · rw [ht, hframe]
    · rw [ht, hframe]
    · rw [ht, pushLog_of_room (s := u) hroom]
      rfl
    · rw [ht, hframe]
  case clearCause =>
    intro v s b hb
    simp [clearAttnCause, hb]
  case clearFault =>
    intro v s b hb
    simp [clearSignalFault, hb]

@[simp] theorem pushLog_lines (e : AttnEntry) (s : State) : (pushLog e s).lines = s.lines := by rw [pushLog_frame]

/-- The state in which trip input `k` has been seen. -/
def tripSeen (k : Nat) (s : State) : State :=
  setFault (2 + k) { s with lines := if k = 0 then { s.lines with tripA := true } else { s.lines with tripB := true } }

theorem tripSeen_run (k : Nat) (s : State) : (tripSeen k s).lines.run = s.lines.run := by
  simp only [tripSeen, setFault, pushLog_lines]
  split <;> rfl

theorem exec_tripInputAssert_of_standby {s : State} {k : Nat} (hon : s.lines.run ≠ .off) (hrun : s.lines.run = .standby)
    (hk : k < 2) : exec (.tripInputAssert k) s = next (tripSeen k s) := by
  refine (if_neg (not_or.2 ⟨hon, Nat.not_le.2 hk⟩)).trans (congrArg next (if_pos ?_))
  exact (tripSeen_run k s).trans hrun

theorem exec_tripInputAssert_of_up {s : State} {k : Nat} (hon : s.lines.run ≠ .off) (hrun : s.lines.run ≠ .standby)
    (hk : k < 2) : exec (.tripInputAssert k) s = next (tripBy k (tripSeen k s)) := by
  refine (if_neg (not_or.2 ⟨hon, Nat.not_le.2 hk⟩)).trans (congrArg next (if_neg ?_))
  exact (tripSeen_run k s).symm ▸ hrun

/-- Settles O10: each event is a branch of its meaning, chosen by the module's state. -/
theorem lineEventsTakeEffect : Obligations.LineEventsTakeEffect := by
  refine ⟨fun s hon => if_neg hon, fun s hup => if_pos hup, fun s hdown => if_neg hdown, fun s hon => if_neg hon,
    fun s b hon => if_neg hon, fun s hup => if_pos hup, ?tripStandby, ?tripUp, ?release, ?clears, ?read, fun s c d => rfl, ?alert⟩
  case tripStandby =>
    intro s hstandby
    have hon : s.lines.run ≠ .off := by rw [hstandby]; decide
    exact ⟨exec_tripInputAssert_of_standby hon hstandby (Nat.zero_lt_two),
      exec_tripInputAssert_of_standby hon hstandby Nat.one_lt_two⟩
  case tripUp =>
    intro s hup
    have hon : s.lines.run ≠ .off := by rcases hup with h | h <;> rw [h] <;> decide
    have hnot : s.lines.run ≠ .standby := by rcases hup with h | h <;> rw [h] <;> decide
    exact ⟨exec_tripInputAssert_of_up hon hnot Nat.zero_lt_two, exec_tripInputAssert_of_up hon hnot Nat.one_lt_two⟩
  case release =>
    intro s hon
    exact ⟨(if_neg (by simp [hon])).trans (if_pos rfl), (if_neg (by simp [hon])).trans (if_neg Nat.one_ne_zero)⟩
  case clears =>
    intro s v hserved
    exact ⟨if_pos hserved, if_pos hserved, if_pos hserved, if_pos hserved⟩
  case read =>
    intro s c hlive
    exact if_pos hlive
  case alert =>
    intro s hlive halert
    exact if_pos ⟨hlive, halert⟩

/-- The answer of READ_ATTENTION is the reading of the log as it was; what the take-up wrote it does not read. -/
theorem exec_readAttention {s : State} {p : Packet} (h : s.accepts p 0x0002 0 true) :
    exec (.readAttention p) s = .next (answered p 0 0 0
      (readAttnReturn s s.host.log.head? (s.host.log.drop 1).length s.host.overflow)
      { s.taken p with host := { (s.taken p).host with log := s.host.log.drop 1, overflow := false } }) :=
  command_done h rfl rfl

/-- Settles O16: each answer is given at once (`command_done`); for an undefined opcode check 4 of Table 4.4 is the first to fail. -/
theorem identityAndAttentionCommands : Obligations.IdentityAndAttentionCommands := by
  refine ⟨fun s p h => command_done h rfl rfl, fun s p h => command_done h rfl rfl, ?entry, ?noEntry, ?ack, ?mask, ?occupancy,
    ?undefined⟩
  case entry =>
    intro s p e rest h hlog
    rw [exec_readAttention h, hlog]
    rfl
  case noEntry =>
    intro s p h hlog
    rw [exec_readAttention h, hlog]
    simp [readAttnReturn, noCtx]
  case ack =>
    intro s p h hbits
    exact command_done h (if_neg (Nat.not_le.2 hbits)) rfl
  case mask =>
    intro s p h hbits
    exact command_done h (if_neg (Nat.not_le.2 hbits)) rfl
  case occupancy =>
    intro s p h
    exact ⟨_, by simp, command_done h rfl rfl⟩
  case undefined =>
    intro s p op hrdy htake hctx hseq hbyte hflags hring
    have hcheck : s.packetCheck p op false 0 false = some 1 := by
      have hreserved : ¬ (p.byte3 ≠ 0 ∨ p.flags.toNat / 4 ≠ 0 ∨ p.context.toNat / 1024 ≠ 0) := by
        simp only [hbyte, ne_eq, not_true_eq_false, false_or]
        omega
      rw [State.packetCheck, if_neg (by omega), if_neg (not_not.2 hseq), if_neg hreserved]
      rfl
    exact congrArg next (takeUp_refused hrdy htake hcheck)

end Sys2Proof.Machine

/-!
PROOFS. Bounds that the arithmetic keeps: drift records and the readout (spec 06_core_arithmetic.md), windows, chunks and gate programs
(spec 07_convolution_and_sequence.md).
-/

namespace Sys2Proof.Machine

/-- What an execution does to a drift record: the hold runs, or EXP moves up, or down, or the record stays. -/
theorem Drift.move_cases (d : Drift) (c : Counts) :
    (0 < d.holdLeft ∧ d.move c = { d with holdLeft := d.holdLeft - 1 })
    ∨ (d.holdLeft = 0 ∧ d.satLimit < c.sat ∧ d.exp < d.maxExp
      ∧ d.move c = { d with exp := d.exp + 1, holdLeft := d.hold, moves := min 255 (d.moves + 1) })
    ∨ (d.holdLeft = 0 ∧ c.sat ≤ d.satLimit ∧ c.sat = 0 ∧ d.minExp < d.exp
      ∧ d.move c = { d with exp := d.exp - 1, holdLeft := d.hold, moves := min 255 (d.moves + 1) })
    ∨ (d.holdLeft = 0 ∧ d.move c = d) := by
  unfold Drift.move
  split
  case isTrue hhold => exact .inl ⟨hhold, rfl⟩
  case isFalse hhold =>
    have hzero : d.holdLeft = 0 := Nat.eq_zero_of_not_pos hhold
    split
    case isTrue hsat =>
      split
      case isTrue hmax => exact .inr (.inl ⟨hzero, hsat, hmax, rfl⟩)
      case isFalse => exact .inr (.inr (.inr ⟨hzero, rfl⟩))
    case isFalse hsat =>
      split
      case isTrue hdown => exact .inr (.inr (.inl ⟨hzero, Nat.not_lt.1 hsat, hdown.1, hdown.2.2, rfl⟩))
      case isFalse => exact .inr (.inr (.inr ⟨hzero, rfl⟩))

/-- Settles O28: the record by the four cases of `Drift.move_cases`, the readout by the order of its flags. -/
theorem driftKeepsItsBounds : Obligations.DriftKeepsItsBounds := by
  refine ⟨?moves, ?readout⟩
  case moves =>
    intro d c hmin hmax t
    have ht : t = d.move c := rfl
    obtain ⟨hhold, hmove⟩ | ⟨hhold, hsat, htop, hmove⟩ | ⟨hhold, hlimit, hsat, hlow, hmove⟩ | ⟨hhold, hmove⟩ := d.move_cases c
    all_goals rw [ht, hmove]
    case inr.inr.inr => omega
    all_goals
      dsimp only
      omega
  case readout =>
    intro a sa sw so
    unfold Acc.readout
    refine ⟨fun hnan => if_pos ?_, fun hnan hp hn => ?_, fun hnan hp hn => ?_, fun hnan hp hn hv => ?_⟩
    · rcases hnan with h | ⟨hp, hn⟩
      · simp [h]
      · simp [hp, hn]
    · simp [hnan, hp, hn]
    · simp [hnan, hp, hn]
    · simp [hnan, hp, hn, hv, ofScaled]

/-- A coordinate that padding reads lies within its axis (Table 7.3's modes). -/
theorem padCoord_lt {mode n m : Nat} {c : Int} (hn : 1 ≤ n) (h : padCoord mode n c = some m)
    (hreflect : mode = 2 → -((n : Int) - 1) ≤ c ∧ c ≤ 2 * ((n : Int) - 1)) : m < n := by
  unfold padCoord at h
  split at h
  · obtain rfl := Option.some.inj h
    omega
  · split at h
    · exact absurd h (by simp)
    · obtain rfl := Option.some.inj h
      split <;> omega
    · obtain rfl := Option.some.inj h
      have := hreflect rfl
      split <;> omega
    · obtain rfl := Option.some.inj h
      have := Int.emod_nonneg c (b := n) (by omega)
      have := Int.emod_lt_of_pos c (b := n) (by omega)
      omega

theorem sum_range_lt (n r : Nat) : ((List.range n).map fun k => if k < r then 1 else 0).sum = min n r := by
  induction n with
  | zero => simp
  | succ n ih =>
    rw [List.range_succ, List.map_append, List.sum_append, ih]
    by_cases hn : n < r <;> simp [hn] <;> omega

/-- The chunks sum to the whole: p quotients, and one more for each of the first t mod p. -/
theorem sum_chunkLengths {p : Nat} (t : Nat) (hp : 1 ≤ p) : (chunkLengths t p).sum = t := by
  rw [chunkLengths, max_eq_right hp, List.sum_map_add, sum_range_lt, List.map_const', List.sum_replicate, List.length_range,
    min_eq_right (Nat.mod_lt t hp).le, smul_eq_mul, Nat.div_add_mod]

theorem recurrence_concat (h : Nat) (ab : List (Nat × Nat)) (a b : Nat) :
    recurrence h (ab ++ [(a, b)]) = ((recurrence h ab).1 ++ [ffma a (recurrence h ab).2 b], ffma a (recurrence h ab).2 b) := by
  rw [recurrence, List.foldl_append]
  rfl

theorem length_recurrence (h : Nat) (ab : List (Nat × Nat)) : (recurrence h ab).1.length = ab.length := by
  induction ab using List.reverseRecOn with
  | nil => rfl
  | append_singleton ab x ih =>
    obtain ⟨a, b⟩ := x
    rw [recurrence_concat, List.length_append, List.length_append, ih]
    rfl

theorem getLast_recurrence (h : Nat) (ab : List (Nat × Nat)) : (recurrence h ab).1.getLast?.getD h = (recurrence h ab).2 := by
  induction ab using List.reverseRecOn with
  | nil => rfl
  | append_singleton ab x ih =>
    obtain ⟨a, b⟩ := x
    rw [recurrence_concat, List.getLast?_concat, Option.getD_some]

theorem runGates_append_end {e : GateOp} (he : e.op = 0) (gs rest : List GateOp) (m : List Nat) :
    runGates (gs ++ e :: rest) m = runGates gs m := by
  induction gs generalizing m with
  | nil => exact if_pos he
  | cons g gs ih =>
    rw [List.cons_append, runGates, runGates, ih]

/-- Settles O31. -/
theorem windowsAndChunks : Obligations.WindowsAndChunks := by
  refine ⟨fun mode n m c hn _ h hreflect => padCoord_lt hn h hreflect, fun t p hp => ⟨sum_chunkLengths t hp, by simp [chunkLengths], ?_⟩,
    fun h ab => ⟨rfl, length_recurrence h ab, getLast_recurrence h ab, recurrence_concat h ab⟩,
    fun gs rest e m he => runGates_append_end he gs rest m⟩
  intro k hk
  simp only [chunkLengths, max_eq_right hp, List.getElem?_map, List.getElem?_range hk, Option.map_some]
  split <;> rfl

end Sys2Proof.Machine

/-!
PROOFS. Mapped memory: what is written is read back (spec 10_memory_tiers.md, Virtual ranges and page tables).
-/

namespace Sys2Proof.Machine

theorem Page.byte_write_serving {x : Page} {o : Nat} {b : Byte} (h : Memory.wf x.serving = true) :
    Memory.byte (x.write o b).serving o = b := by
  unfold Page.serving Page.write at *
  split <;> simp_all [Memory.byte_setByte]

theorem Page.byte_write_serving_other {x : Page} {o q : Nat} {b : Byte} (h : q ≠ o) :
    Memory.byte (x.write o b).serving q = Memory.byte x.serving q := by
  unfold Page.serving Page.write
  split <;> simp_all [Memory.byte_setByte_other]

theorem Page.wf_write_serving {x : Page} {o : Nat} {b : Byte} (h : Memory.wf x.serving = true) :
    Memory.wf (x.write o b).serving = true := by
  unfold Page.serving Page.write at *
  split <;> simp_all [Memory.wf_setByte]

/-- The page table and every page's serving frame are in canonical form. -/
def State.memWf (s : State) : Prop :=
  Tab.wf Page.rest s.mem.pages = true ∧ ∀ k, Memory.wf (s.page k).serving = true

/-- The place in its page of an address of a mapping. -/
def Mapping.placeOf (m : Mapping) (va : Nat) : Nat := (va - m.va) % bytesOf m.big

section Write

variable {s : State} {c va : Nat} {b : Byte} {m : Mapping}

theorem vbyte_of_mapped (h : s.mapAt c va = some m) :
    s.vbyte c va = Memory.byte (s.page (m.pageAt va)).serving (m.placeOf va) := by
  rw [State.vbyte, h]
  rfl

theorem vwriteByte_of_mapped (h : s.mapAt c va = some m) :
    vwriteByte c va b s = s.setPage (m.pageAt va) ((s.page (m.pageAt va)).write (m.placeOf va) b) := by
  rw [vwriteByte, h]
  rfl

theorem vwriteByte_of_unmapped (h : s.mapAt c va = none) : vwriteByte c va b s = s := by
  rw [vwriteByte, h]

/-- A byte written changes the pages only. -/
theorem vwriteByte_frame (c va : Nat) (b : Byte) (s : State) :
    vwriteByte c va b s = { s with mem := { s.mem with pages := (vwriteByte c va b s).mem.pages } } := by
  cases h : s.mapAt c va with
  | none => rw [vwriteByte_of_unmapped h]
  | some m => rw [vwriteByte_of_mapped h]; rfl

theorem vwriteByte_mapAt (d ua : Nat) : (vwriteByte c va b s).mapAt d ua = s.mapAt d ua := by
  rw [vwriteByte_frame]
  rfl

theorem vwriteByte_page (hm : s.mapAt c va = some m) (hwf : Tab.wf Page.rest s.mem.pages = true) :
    (vwriteByte c va b s).page (m.pageAt va) = (s.page (m.pageAt va)).write (m.placeOf va) b := by
  rw [vwriteByte_of_mapped hm]
  exact Tab.get_set hwf

theorem vwriteByte_page_other (hm : s.mapAt c va = some m) {k : Nat} (hk : k ≠ m.pageAt va) :
    (vwriteByte c va b s).page k = s.page k := by
  rw [vwriteByte_of_mapped hm]
  exact Tab.get_set_other hk

theorem vwriteByte_memWf (hm : s.mapAt c va = some m) (hwf : s.memWf) : (vwriteByte c va b s).memWf := by
  refine ⟨?_, fun k => ?_⟩
  · rw [vwriteByte_of_mapped hm]
    exact Tab.wf_set hwf.1
  · by_cases hk : k = m.pageAt va
    · rw [hk, vwriteByte_page hm hwf.1]
      exact Page.wf_write_serving (hwf.2 _)
    · rw [vwriteByte_page_other hm hk]
      exact hwf.2 k

theorem vbyte_vwriteByte (hm : s.mapAt c va = some m) (hwf : s.memWf) : (vwriteByte c va b s).vbyte c va = b := by
  rw [vbyte_of_mapped ((vwriteByte_mapAt c va).trans hm), vwriteByte_page hm hwf.1]
  exact Page.byte_write_serving (hwf.2 _)

theorem vbyte_vwriteByte_other (hm : s.mapAt c va = some m) (hwf : s.memWf) {d ua : Nat} {n : Mapping}
    (hn : s.mapAt d ua = some n) (hother : n.pageAt ua ≠ m.pageAt va ∨ n.placeOf ua ≠ m.placeOf va) :
    (vwriteByte c va b s).vbyte d ua = s.vbyte d ua := by
  rw [vbyte_of_mapped ((vwriteByte_mapAt d ua).trans hn), vbyte_of_mapped hn]
  by_cases hk : n.pageAt ua = m.pageAt va
  · rw [hk, vwriteByte_page hm hwf.1]
    exact Page.byte_write_serving_other (hother.resolve_left (not_not.2 hk))
  · rw [vwriteByte_page_other hm hk]

end Write

/-- Two addresses of a mapping with distinct pages lie at different places. -/
theorem Mapping.pageAt_ne_or_placeOf_ne {m : Mapping} {ua va : Nat} (hpages : m.pages.Nodup)
    (hbytes : m.bytes = m.pages.length * bytesOf m.big) (hu : m.va ≤ ua) (hu' : ua < m.va + m.bytes) (hv : m.va ≤ va)
    (hv' : va < m.va + m.bytes) (hne : ua ≠ va) : m.pageAt ua ≠ m.pageAt va ∨ m.placeOf ua ≠ m.placeOf va := by
  by_contra hsame
  obtain ⟨hpage, hplace⟩ := not_or.1 hsame
  rw [not_not] at hpage hplace
  have hindex (a : Nat) (ha' : a < m.va + m.bytes) (ha : m.va ≤ a) : (a - m.va) / bytesOf m.big < m.pages.length :=
    Nat.div_lt_of_lt_mul (by rw [Nat.mul_comm]; omega)
  unfold Mapping.pageAt at hpage
  rw [List.getD_eq_getElem _ _ (hindex ua hu' hu), List.getD_eq_getElem _ _ (hindex va hv' hv)] at hpage
  have hdiv : (ua - m.va) / bytesOf m.big = (va - m.va) / bytesOf m.big := (hpages.getElem_inj_iff).1 hpage
  have hu'' := Nat.div_add_mod (ua - m.va) (bytesOf m.big)
  have hv'' := Nat.div_add_mod (va - m.va) (bytesOf m.big)
  unfold Mapping.placeOf at hplace
  rw [hdiv, hplace] at hu''
  omega

/-- Bytes written over a range of one mapping read back; the byte before them stays. -/
theorem vread_vwrite {c : Nat} {m : Mapping} {bs : List Byte} {s : State} {va : Nat} (hwf : s.memWf) (hpages : m.pages.Nodup)
    (hbytes : m.bytes = m.pages.length * bytesOf m.big) (hlow : m.va ≤ va) (hhigh : va + bs.length ≤ m.va + m.bytes)
    (hmap : ∀ i, i < bs.length → s.mapAt c (va + i) = some m) :
    (vwrite c va bs s).vread c va bs.length = bs
      ∧ ∀ ua, m.va ≤ ua → ua < va → s.mapAt c ua = some m → (vwrite c va bs s).vbyte c ua = s.vbyte c ua := by
  induction bs generalizing s va with
  | nil => exact ⟨rfl, fun _ _ _ _ => rfl⟩
  | cons b bs ih =>
    rw [List.length_cons] at hhigh hmap
    have hva : s.mapAt c va = some m := hmap 0 (Nat.succ_pos _)
    have hrest (i : Nat) (hi : i < bs.length) : (vwriteByte c va b s).mapAt c (va + 1 + i) = some m := by
      rw [vwriteByte_mapAt, Nat.add_assoc, Nat.add_comm 1]
      exact hmap (i + 1) (Nat.succ_lt_succ hi)
    obtain ⟨hread, hbefore⟩ := ih (vwriteByte_memWf hva hwf) (Nat.le_succ_of_le hlow) (by omega) hrest
    refine ⟨?_, fun ua hua hlt hmapped => ?_⟩
    · rw [List.length_cons, State.vread, vwrite, hread,
        hbefore va hlow (Nat.lt_succ_self va) ((vwriteByte_mapAt c va).trans hva), vbyte_vwriteByte hva hwf]
    · rw [vwrite, hbefore ua hua (Nat.lt_succ_of_lt hlt) ((vwriteByte_mapAt c ua).trans hmapped)]
      exact vbyte_vwriteByte_other hva hwf hmapped
        (Mapping.pageAt_ne_or_placeOf_ne hpages hbytes hua (by omega) hlow (by omega) hlt.ne)

/-- Settles O36: a byte by `vbyte_vwriteByte` and its frame lemmas, a range by `vread_vwrite`, host memory by the laws of memories. -/
theorem memoryReadsWhatWasWritten : Obligations.MemoryReadsWhatWasWritten := by
  refine ⟨?byte, fun s c va b hnone => vwriteByte_of_unmapped hnone, ?range, ?host⟩
  case byte =>
    intro s c va b m hm hpages hserving t
    have hwf : s.memWf := ⟨hpages, hserving⟩
    obtain ⟨hpages', hserving'⟩ := vwriteByte_memWf (b := b) hm hwf
    exact ⟨vbyte_vwriteByte hm hwf, fun d ua n hn hother => vbyte_vwriteByte_other hm hwf hn hother,
      vwriteByte_frame c va b s, hpages', hserving'⟩
  case range =>
    intro s c va bs m hmap hlow hhigh hbytes hnodup hpages hserving
    exact (vread_vwrite ⟨hpages, hserving⟩ hnodup hbytes hlow hhigh hmap).1
  case host =>
    intro h a bs hwf
    exact ⟨Memory.wf_write hwf, Memory.read_write hwf, fun x hx => Memory.byte_write_other hx⟩

end Sys2Proof.Machine

/-!
PROOFS. Time does not step back, and a source that loses its qualification is given up (spec 11_time_and_triggers.md, The timebase, Time
sources, Triggers).
-/

namespace Sys2Proof.Machine

/-! ### What the shared operations do to the timebase -/

theorem pushLog_now (e : AttnEntry) (s : State) : (pushLog e s).now = s.now := by rw [pushLog_frame]
theorem timeCause_now (s : State) : (timeCause s).now = s.now := pushLog_now _ _
theorem setFault_now (b : Nat) (s : State) : (setFault b s).now = s.now := pushLog_now _ _

theorem replyTo_now (p : Packet) (cls area detail : Nat) (r : List Byte) (s : State) :
    (replyTo p cls area detail r s).now = s.now := by
  rw [replyTo, post_frame]

theorem followUtc_now (s : State) : (followUtc s).now = s.now := by
  unfold followUtc
  dsimp only
  split <;> rfl

section LeNow

variable {n : Nat} {s : State}

theorem le_ite_now {c : Prop} [Decidable c] {a b : State} (ha : n ≤ a.now) (hb : n ≤ b.now) :
    n ≤ (if c then a else b).now := by
  split <;> assumption

theorem le_advance_now (k : Nat) (h : n ≤ s.now) : n ≤ (advance k s).now := h.trans (Nat.le_max_left _ _)
theorem le_setFault_now (b : Nat) (h : n ≤ s.now) : n ≤ (setFault b s).now := h.trans (setFault_now b s).ge
theorem le_timeCause_now (h : n ≤ s.now) : n ≤ (timeCause s).now := h.trans (timeCause_now s).ge
theorem le_followUtc_now (h : n ≤ s.now) : n ≤ (followUtc s).now := h.trans (followUtc_now s).ge

theorem le_qualify_now (k : Nat) (h : n ≤ s.now) : n ≤ (qualify k s).now := le_ite_now h h

theorem le_trackPhase_now (k : Nat) (h : n ≤ s.now) : n ≤ (trackPhase k s).now := le_ite_now h (le_followUtc_now h)

theorem le_noteTraceable_now (k : Nat) (was : Bool) (h : n ≤ s.now) : n ≤ (noteTraceable k was s).now :=
  le_ite_now (le_timeCause_now h) h

/-- A change of source moves the timebase up or leaves it: only from a seeded timebase, and only by an offset that is not negative. -/
theorem le_changeSource_now (k : Nat) (h : n ≤ s.now) : n ≤ (changeSource k s).now :=
  le_ite_now h (le_ite_now (le_timeCause_now (le_followUtc_now h))
    (le_ite_now (le_timeCause_now (le_followUtc_now (Nat.le_add_right_of_le h))) (le_timeCause_now (le_followUtc_now h))))

theorem le_loseSource_now (k : Nat) (h : n ≤ s.now) : n ≤ (loseSource k s).now :=
  le_ite_now h (le_ite_now (le_changeSource_now _ h) h)

theorem le_sourceEligible_now (k : Nat) (h : n ≤ s.now) : n ≤ (sourceEligible k s).now :=
  le_ite_now (le_changeSource_now k h) h

end LeNow

/-! ### No command or event of time steps the timebase back -/

/-- The outcome goes on to a state whose timebase stands at or above `n`. -/
def NotBefore (n : Nat) (o : Host.Outcome State Fault Refusal) : Prop := ∀ t, o = .next t → n ≤ t.now

theorem notBefore_next {n : Nat} {u : State} (h : n ≤ u.now) : NotBefore n (next u) := by
  rintro t ht
  obtain rfl := Host.Outcome.next.inj ht
  exact h

theorem notBefore_ite {n : Nat} {c : Prop} [Decidable c] {a b : Host.Outcome State Fault Refusal} (ha : NotBefore n a)
    (hb : NotBefore n b) : NotBefore n (if c then a else b) := by
  split <;> assumption

/-- The timebase that an answer leaves. -/
def Answer.NotBefore (n : Nat) : Answer → Prop
  | .reject _ _ => True
  | .done s _ _ _ _ => n ≤ s.now
  | .later s => n ≤ s.now

/-- A command packet leaves the timebase where its own part leaves it. -/
theorem notBefore_command {op least : Nat} {pf : Bool} {p : Packet} {s : State} {body : State → Ticket → Answer}
    (h : (body (s.taken p) (s.ticketOf p op)).NotBefore s.now) : NotBefore s.now (command op least pf p s body) := by
  refine notBefore_next ?_
  unfold takeUp
  split
  · exact le_rfl
  · split
    · next d _ => exact (replyTo_now p 3 1 d _ (moveHead p.ring _ s)).ge
    · revert h
      cases body (s.taken p) (s.ticketOf p op) with
      | reject a d => exact fun _ => (replyTo_now p 3 a d [] (s.taken p)).ge
      | done s2 cls a d ret => exact fun h => h.trans (replyTo_now ..).ge
      | later s2 => exact fun h => h

theorem notBefore_gptpMessage (k : Nat) (m : Gptp) (s : State) : NotBefore s.now (exec (.gptpMessage k m) s) := by
  refine notBefore_ite (notBefore_next le_rfl) ?_
  cases m with
  | delay => exact notBefore_next le_rfl
  | sync domain offset clockClass traceable utc leap err =>
    exact notBefore_ite (notBefore_next le_rfl) (notBefore_ite (notBefore_next (le_loseSource_now k le_rfl))
      (notBefore_next (le_noteTraceable_now k _ (le_trackPhase_now k
        (le_ite_now (le_ite_now (le_qualify_now k le_rfl) le_rfl) (le_ite_now (le_qualify_now k le_rfl) le_rfl))))))

theorem notBefore_ppsInEdge (n : Nat) (s : State) : NotBefore s.now (exec (.ppsInEdge n) s) := by
  have hon : s.now ≤ (advance n s).now := le_advance_now n le_rfl
  show NotBefore s.now (execPpsInEdge n s)
  unfold execPpsInEdge
  refine notBefore_ite (notBefore_next le_rfl) ?_
  dsimp only
  split
  · exact notBefore_next (le_loseSource_now 7 hon)
  · exact notBefore_next (le_noteTraceable_now 7 _ (le_trackPhase_now 7
      (le_ite_now (le_qualify_now 7 hon) (le_ite_now (le_loseSource_now 7 hon) hon))))

theorem notBefore_ppsLost (s : State) : NotBefore s.now (exec .ppsLost s) := by
  show NotBefore s.now (execPpsLost s)
  unfold execPpsLost
  split
  · exact notBefore_next le_rfl
  · next e _ =>
    have hon : s.now ≤ (advance (e + 1100000000) s).now := le_advance_now _ le_rfl
    exact notBefore_next (le_loseSource_now 7 (le_ite_now (le_setFault_now 5 hon) hon))

theorem notBefore_ppsTodLabelFrame (ch i y mo d h mi sec ns : Nat) (tr : Bool) (s : State) :
    NotBefore s.now (exec (.ppsTodLabelFrame ch i y mo d h mi sec ns tr) s) :=
  notBefore_ite (notBefore_next le_rfl) (notBefore_ite (notBefore_next le_rfl) (notBefore_next le_rfl))

theorem notBefore_sourceEligible (k : Nat) (s : State) : NotBefore s.now (exec (.sourceEligible k) s) :=
  notBefore_ite (notBefore_next le_rfl) (notBefore_next (le_sourceEligible_now k (le_advance_now _ le_rfl)))

theorem notBefore_slewComplete (s : State) : NotBefore s.now (exec .slewComplete s) :=
  notBefore_ite (notBefore_next le_rfl) (notBefore_next (le_advance_now _ le_rfl))

theorem notBefore_leapSecond (s : State) : NotBefore s.now (exec .leapSecond s) :=
  notBefore_ite (notBefore_next le_rfl) (notBefore_next (le_advance_now _ le_rfl))

theorem notBefore_triggerPulse (n : Nat) (s : State) : NotBefore s.now (exec (.triggerPulse n) s) :=
  notBefore_ite (notBefore_next le_rfl) (notBefore_ite (notBefore_next (le_advance_now _ le_rfl))
    (notBefore_ite (notBefore_next (le_advance_now _ le_rfl)) (notBefore_next le_rfl)))

theorem notBefore_triggerSettingEffect (n : Nat) (s : State) : NotBefore s.now (exec (.triggerSettingEffect n) s) := by
  show NotBefore s.now (execTriggerSettingEffect n s)
  unfold execTriggerSettingEffect
  dsimp only
  split
  · exact notBefore_next le_rfl
  · exact notBefore_next (le_advance_now _ le_rfl)

theorem notBefore_ppsOutSecond (s : State) : NotBefore s.now (exec .ppsOutSecond s) := by
  have hnext : s.now ≤ (s.now / 1000000000 + 1) * 1000000000 := by omega
  exact notBefore_ite (notBefore_next le_rfl) (notBefore_next hnext)

theorem notBefore_setCalendar (p : Packet) (s : State) : NotBefore s.now (exec (.setCalendar p) s) := by
  refine notBefore_command ?_
  dsimp only
  split
  · trivial
  split
  · trivial
  split
  · trivial
  next hlate => exact Nat.not_lt.1 fun hback => hlate (.inl hback)

theorem notBefore_setSource (p : Packet) (s : State) : NotBefore s.now (exec (.setSource p) s) := by
  refine notBefore_command ?_
  dsimp only
  split
  · trivial
  split
  · trivial
  have hkept : s.now ≤ (s.taken p).now := le_rfl
  exact le_ite_now hkept (le_loseSource_now _ hkept)

theorem notBefore_setUtcOffset (p : Packet) (s : State) : NotBefore s.now (exec (.setUtcOffset p) s) := by
  refine notBefore_command ?_
  dsimp only
  split
  · trivial
  split
  · trivial
  split
  · trivial
  have hkept : s.now ≤ (s.taken p).now := le_rfl
  exact le_followUtc_now hkept

/-! ### Periodic triggers -/

/-- The first instant of a periodic trigger after `n` lies after `n`: within the block by rounding up, else in the next block. -/
theorem TrigSet.lt_after {x : TrigSet} (hnum : 1 ≤ x.num) (hden : 1 ≤ x.den) (n : Nat) : n < x.after n := by
  have hblock : 1 ≤ x.block := by unfold TrigSet.block; omega
  unfold TrigSet.after TrigSet.pulseAt
  rw [max_eq_right hblock, max_eq_right hnum]
  dsimp only
  have hb := Nat.div_mul_le_self n x.block
  have hb' : n < n / x.block * x.block + x.block := Nat.lt_div_mul_add hblock
  split
  · omega
  next hphase =>
  split
  · next hk =>
    generalize hd : n - n / x.block * x.block - x.phase + 1 = d at *
    have hup : d * x.num ≤ ((d * x.num - 1) / x.block + 1) * x.block := by
      have := Nat.lt_div_mul_add hblock (a := d * x.num - 1)
      have : 1 ≤ d * x.num := Nat.mul_pos (by omega) hnum
      rw [Nat.succ_mul]
      omega
    have : d ≤ ((d * x.num - 1) / x.block + 1) * x.block / x.num := (Nat.le_div_iff_mul_le hnum).2 hup
    omega
  · rw [Nat.zero_mul, Nat.zero_div]
    omega

/-! ### A source that loses its qualification -/

/-- A source as its flags have it: QUALIFIED and ELIGIBLE. -/
def State.sourceFlags (s : State) (k : Nat) : Bool × Bool := ((s.source k).qualified, (s.source k).eligible)

theorem timeCause_tb (s : State) : (timeCause s).tb = s.tb := by
  rw [timeCause, attn, pushLog_frame]

theorem followUtc_tb (s : State) :
    (followUtc s).tb = { s.tb with utcOffset := (followUtc s).tb.utcOffset, fromGptp := (followUtc s).tb.fromGptp } := by
  unfold followUtc
  dsimp only
  split <;> rfl

theorem timeCause_followUtc_source (s : State) : (timeCause (followUtc s)).tb.source = s.tb.source := by
  rw [timeCause_tb, followUtc_tb]

theorem timeCause_followUtc_flags (s : State) (k : Nat) : (timeCause (followUtc s)).sourceFlags k = s.sourceFlags k := by
  unfold State.sourceFlags State.source
  rw [timeCause_tb, followUtc_tb]

/-- A shift of the sources moves their offsets, not their flags. -/
theorem shiftSources_flags (d : Int) (s : State) (k : Nat) : (shiftSources d s).sourceFlags k = s.sourceFlags k := by
  unfold State.sourceFlags State.source shiftSources
  dsimp only
  induction s.tb.sources with
  | nil => rfl
  | cons r t ih =>
    rw [List.map_cons, Tab.get, Tab.get]
    split
    · rfl
    · exact ih

theorem changeSource_source (j : Nat) (s : State) : (changeSource j s).tb.source = j := by
  unfold changeSource
  dsimp only
  split
  · next h => exact h.symm
  split
  · next h => rw [timeCause_followUtc_source, h]
  split <;> rw [timeCause_followUtc_source]

theorem changeSource_flags (j : Nat) (s : State) (k : Nat) : (changeSource j s).sourceFlags k = s.sourceFlags k := by
  unfold changeSource
  dsimp only
  split
  · rfl
  split
  · rw [timeCause_followUtc_flags]; rfl
  split
  · rw [timeCause_followUtc_flags]
    exact shiftSources_flags _ _ k
  · rw [timeCause_followUtc_flags]; rfl

/-- The best source of a kind is one of the kind, or the holdover. -/
theorem State.best_spec (s : State) (f : TimeSource → Bool) : s.best f = 15 ∨ f (s.source (s.best f)) = true := by
  unfold State.best
  refine List.foldlRecOn (motive := fun b => b = 15 ∨ f (s.source b) = true) (List.range 10) _ (.inl rfl) fun b hb k _ => ?_
  split
  · next h => exact .inr (Bool.and_eq_true_iff.1 h).1
  · exact hb

theorem loseSource_spec {s : State} {k : Nat} (hk : k ≤ 9) (hq : (s.source k).qualified = true) :
    (loseSource k s).sourceFlags k = (false, false) ∧ (loseSource k s).tb.source ≠ k := by
  let x : TimeSource := { s.source k with
    qualified := false, eligible := false, recent := [], losses := min 255 ((s.source k).losses + 1) }
  have hx : x ≠ TimeSource.rest := by
    intro hrest
    have : x.losses = 0 := by rw [hrest]; rfl
    simp only [x] at this
    omega
  have hget : (s.setSource k x).source k = x := State.setSource_get s k x hx
  have hlose : loseSource k s = if s.tb.source = k
      then changeSource ((s.setSource k x).best (·.eligible)) (s.setSource k x) else s.setSource k x :=
    if_neg (by simp [hq])
  have hflags : (s.setSource k x).sourceFlags k = (false, false) := by rw [State.sourceFlags, hget]
  rw [hlose]
  split
  · rw [changeSource_flags, changeSource_source]
    refine ⟨hflags, fun hbest => ?_⟩
    rcases State.best_spec (s.setSource k x) (·.eligible) with h | h
    · omega
    · rw [hbest, hget] at h
      exact Bool.false_ne_true h
  · next hsource => exact ⟨hflags, hsource⟩

/-- Settles O41: the events and commands one by one (`NotBefore`), the trigger by `TrigSet.lt_after`, the source by
`loseSource_spec`. -/
theorem timeNeverStepsBack : Obligations.TimeNeverStepsBack := by
  refine ⟨?now, fun x n hnum hden => x.lt_after hnum hden n, ?source⟩
  case now =>
    intro s t c hc
    suffices h : NotBefore s.now (exec c s) from h t
    obtain ⟨k, m, rfl⟩ | ⟨n, rfl⟩ | rfl | ⟨ch, i, y, mo, d, h, mi, sec, ns, tr, rfl⟩ | ⟨k, rfl⟩ | ⟨k, rfl⟩ | rfl | rfl | ⟨n, rfl⟩
      | ⟨n, rfl⟩ | rfl | ⟨p, rfl⟩ | ⟨p, rfl⟩ | ⟨p, rfl⟩ := hc
    · exact notBefore_gptpMessage k m s
    · exact notBefore_ppsInEdge n s
    · exact notBefore_ppsLost s
    · exact notBefore_ppsTodLabelFrame ch i y mo d h mi sec ns tr s
    · exact notBefore_next (le_loseSource_now k le_rfl)
    · exact notBefore_sourceEligible k s
    · exact notBefore_slewComplete s
    · exact notBefore_leapSecond s
    · exact notBefore_triggerPulse n s
    · exact notBefore_triggerSettingEffect n s
    · exact notBefore_ppsOutSecond s
    · exact notBefore_setCalendar p s
    · exact notBefore_setSource p s
    · exact notBefore_setUtcOffset p s
  case source =>
    intro s k hk t hq
    obtain ⟨hflags, hsource⟩ := loseSource_spec hk hq
    exact ⟨congrArg Prod.fst hflags, congrArg Prod.snd hflags, hsource⟩

end Sys2Proof.Machine

/-!
PROOFS. Start-up (spec 03_power_and_startup.md, Start-up sequence, Built-in self-test and reserve mapping).
-/

namespace Sys2Proof.Machine

/-- What every operation of a list keeps, the list keeps. -/
theorem overList_keeps {α : Sort*} {v : State → α} {op : Nat → State → State} (h : ∀ k s, v (op k s) = v s) (ks : List Nat) (s : State) :
    v (overList op ks s) = v s := by
  induction ks generalizing s with
  | nil => rfl
  | cons k ks ih => exact (ih (op k s)).trans (h k s)

/-! ### What a start fixes before its boot and keeps from there on -/

/-- The lines, the causes of reset, the retirement record and the fuses. -/
def State.startView (s : State) : RunState × Bool × BitVec 8 × BitVec 10 × BitVec 10 × List Retired × Fuses :=
  (s.lines.run, s.lines.vinGood, s.lines.fault, s.sup.resetCause, s.sup.nextCause, s.sup.record, s.fuses)

theorem attn_startView (b a d : Nat) (s : State) : (attn b a d s).startView = s.startView := by
  rw [attn, pushLog_frame]
  rfl

theorem bootBank_startView (k : Nat) (r : Bool × Bool) (s : State) : (bootBank k r s).startView = s.startView := by
  unfold bootBank
  dsimp only
  split
  · rfl
  split
  · exact attn_startView 14 0x0B 0 _
  · rfl

theorem ite_keeps {α : Sort*} {v : State → α} {c : Prop} [Decidable c] {a b : State} {x : α} (ha : v a = x) (hb : v b = x) :
    v (if c then a else b) = x := by
  split <;> assumption

theorem engineCheck_startView (k : Nat) (r : Bool × Bool) (s : State) : (engineCheck k r s).startView = s.startView := by
  unfold engineCheck
  dsimp only
  split
  · exact bootBank_startView k r s
  · exact (attn_startView 14 0x0B 0 _).trans (bootBank_startView k r s)

theorem engineChecks_startView (k : Nat) (rs : List (Bool × Bool)) (s : State) : (engineChecks k rs s).startView = s.startView := by
  induction rs generalizing k s with
  | nil => rfl
  | cons r rs ih => exact (ih (k + 1) _).trans (engineCheck_startView k r s)

theorem markAbsent_startView (why : DieOut) (n : Nat) (s : State) : (markAbsent why n s).startView = s.startView := by
  unfold markAbsent
  dsimp only
  split <;> rfl

theorem timeStart_startView (s : State) : (timeStart s).startView = s.startView := by
  unfold timeStart
  dsimp only
  split
  · split <;> rfl
  · rfl

theorem hubBoot_startView (s : State) : (hubBoot s).startView = s.startView := by
  unfold hubBoot
  dsimp only
  split
  · exact (bootBank_startView 1 _ _).trans (bootBank_startView 2 _ _)
  · have habsent (why : DieOut) (ns : List Nat) (u : State) : (overList (markAbsent why) ns u).startView = u.startView :=
      overList_keeps (markAbsent_startView why) ns u
    refine (timeStart_startView _).trans (ite_keeps (v := State.startView) ?_ ?_)
    case' refine_1 => refine (habsent .migrationEngine dieNums _).trans ?_
    all_goals
      exact (habsent .voltageTable _ _).trans ((engineChecks_startView 4 _ _).trans
        ((bootBank_startView 3 _ _).trans ((bootBank_startView 2 _ _).trans (bootBank_startView 1 _ _))))

/-- A start: the run and its causes of reset are fixed before the dies, the boot and the steps, which keep them. -/
theorem exec_startUp {s : State} {boot : Boot} {good : List Nat} {hub : Bool} (hrun : s.lines.run = .standby)
    (hka : s.lines.kaInRange = true) (hwake : s.lines.wake = true) (hlock : s.lines.lockdown = false)
    (hstop : s.lines.keystoneStopped = false) (hrestart : s.keystoneRestarting = false) (htest : s.safe.selfTestOk = true) :
    ∃ t, exec (.startUp boot good hub) s = .next t ∧ t.startView = (.startUp, true, s.lines.fault,
      (s.sup.resetCause &&& 0x0F0) ||| s.sup.nextCause, 0, s.sup.record, s.fuses) := by
  have hgo : ¬ (s.lines.run ≠ .standby ∨ !s.lines.kaInRange ∨ !s.lines.wake ∨ s.lines.lockdown ∨ s.lines.keystoneStopped
      ∨ s.keystoneRestarting ∨ !s.safe.selfTestOk) := by
    simp [hrun, hka, hwake, hlock, hstop, hrestart, htest]
  refine ⟨_, if_neg hgo, ?_⟩
  refine (ite_keeps (v := State.startView) (hubBoot_startView _) rfl).trans ?_
  refine (overList_keeps (v := State.startView) (markAbsent_startView .retired) _ _).trans ?_
  exact overList_keeps (v := State.startView) (fun n s => rfl) dieNums _

/-! ### BIST pass 1 and full compute -/

theorem retire_dies (kind unit index : Nat) (s : State) : (retire kind unit index s).sup.dies = s.sup.dies := by
  unfold retire
  split
  · rfl
  · rw [attn, pushLog_frame]

theorem failSites_die (n : Nat) (ps : List Nat) (s : State) (h : { s.die n with failed := ((s.die n).failed ++ ps).dedup } ≠ Die.rest) :
    (failSites n ps s).die n = { s.die n with failed := ((s.die n).failed ++ ps).dedup } := by
  have hkept (ks : List Nat) (u : State) : (overList (fun p s => if s.isRetired 0 n p then s else retire 0 n p s) ks u).sup.dies
      = u.sup.dies :=
    overList_keeps (v := fun s => s.sup.dies) (fun p s => ite_keeps (v := fun s => s.sup.dies) rfl (retire_dies 0 n p s)) ks u
  rw [State.die, failSites, hkept]
  exact State.setDie_get s n _ h

/-- The early sites of a die are sites of rows 0 to 2 that pass and that no default reserve holds, at most 32. -/
theorem State.mem_earlySites {s : State} {n p : Nat} (h : p ∈ s.earlySites n) :
    p < 36 ∧ p ∉ (s.die n).failed ∧ isReserveSite p = false := by
  have hmem := List.mem_of_mem_take h
  simp only [List.mem_filter, List.mem_range, Bool.and_eq_true, State.passing, Bool.not_eq_true',
    List.contains_eq_mem, decide_eq_false_iff_not] at hmem
  tauto

theorem State.length_earlySites (s : State) (n : Nat) : (s.earlySites n).length ≤ 32 := List.length_take_le 32 _

theorem exec_bistPass1Complete {s : State} {n : Nat} {failing : List Nat} (hn : n < 4) (hout : (s.die n).out = none)
    (hbist : (s.die n).bist1 = false) (hrails : (s.die n).rails = .good) (hpark : (s.die n).parked = false)
    (hreset : (s.die n).resetting = false) (hup : s.upRun) :
    ∃ t, exec (.bistPass1Complete n failing) s = .next t ∧ (t.die n).bist1 = true
      ∧ (t.die n).early = (t.die n).order.length ∧ (t.die n).order = (failSites n failing s).earlySites n := by
  have hgo : ¬ (4 ≤ n ∨ (s.die n).out.isSome ∨ (s.die n).bist1 ∨ (s.die n).rails ≠ .good ∨ (s.die n).parked ∨ (s.die n).resetting
      ∨ (s.lines.run ≠ .startUp ∧ s.lines.run ≠ .running)) := by
    have hrun : ¬ (s.lines.run ≠ .startUp ∧ s.lines.run ≠ .running) := fun ⟨h1, h2⟩ => hup.elim h1 h2
    simp only [hout, hbist, hrails, hpark, hreset, hrun]
    simpa using hn
  let u := failSites n failing s
  let d : Die := { u.die n with
    bist1 := true, early := (u.earlySites n).length, active := (u.earlySites n).length, order := u.earlySites n }
  have hd : d ≠ Die.rest := fun h => Bool.false_ne_true (congrArg Die.bist1 h).symm
  have hdie : (settle (dieSteps (u.setDie n d))).die n = d := State.setDie_get u n d hd
  refine ⟨_, if_neg hgo, ?_⟩
  show ((settle (dieSteps (u.setDie n d))).die n).bist1 = true ∧ _
  rw [show (settle (dieSteps (u.setDie n d))).die n = d from hdie]
  exact ⟨rfl, rfl, rfl⟩

/-- Execution state and fuses, which completing the dies leaves alone. -/
def State.exFuses (s : State) : Exec × Fuses := (s.ex, s.fuses)

theorem retire_exFuses (kind unit index : Nat) (s : State) : (retire kind unit index s).exFuses = s.exFuses := by
  unfold retire
  split
  · rfl
  · rw [attn, pushLog_frame]
    rfl

theorem mapDie_exFuses (n : Nat) (s : State) : (mapDie n s).exFuses = s.exFuses :=
  ite_keeps (v := State.exFuses) rfl (ite_keeps (v := State.exFuses) rfl rfl)

theorem completeDie_exFuses (failing : List (Nat × Nat)) (n : Nat) (s : State) : (completeDie failing n s).exFuses = s.exFuses :=
  ite_keeps (v := State.exFuses) rfl ((mapDie_exFuses n _).trans (overList_keeps (v := State.exFuses)
    (fun p s => ite_keeps (v := State.exFuses) rfl (retire_exFuses 0 n p s)) _ _))

theorem attn_eq_host (b a d : Nat) (s : State) : attn b a d s = { s with host := (attn b a d s).host } := by
  rw [attn, pushLog_frame]

theorem attn_cause (b a d : Nat) (s : State) : (attn b a d s).host.cause = s.host.cause ||| BitVec.ofNat 16 (2 ^ b) := by
  rw [attn, pushLog_frame]

theorem exec_fullCompute {s : State} {failing : List (Nat × Nat)} (hrun : s.lines.run = .running) (hfull : s.sup.full = false)
    (hsteps : s.sup.steps &&& 0x1FFE = 0x1FFE) :
    ∃ t, exec (.fullCompute failing) s = .next t ∧ t.sup.full = true ∧ t.sup.early = false
      ∧ t.host.cause.getLsbD 0 = true ∧ t.exFuses = s.exFuses := by
  have hgo : ¬ (s.lines.run ≠ .running ∨ s.sup.full ∨ s.sup.steps &&& 0x1FFE ≠ 0x1FFE) := by
    simp only [hrun, hfull, hsteps]
    simp
  have hkept := overList_keeps (v := State.exFuses) (completeDie_exFuses failing) dieNums s
  refine ⟨_, if_neg hgo, ?_⟩
  generalize overList (completeDie failing) dieNums s = u at hkept
  rw [attn_eq_host]
  refine ⟨rfl, rfl, ?_, hkept⟩
  show (attn 0 0 0 _).host.cause.getLsbD 0 = true
  rw [attn_cause]
  simp

/-! ### HOST_RDY -/

/-- The trial start of a component is passed (R588). -/
def proveTrial (k : Nat) (s : State) : State :=
  let c := s.comp k
  if c.trial then s.setComp k { c with proven := true } else s

/-- The link is in L0 and HOST_RDY is high. -/
def linked (speed width : Nat) (s : State) : State :=
  { s with host := { s.host with hostRdy := true, linkUp := true, linkSpeed := speed, linkWidth := width } }

/-- Step 12 of Table 3.3: running, in Depot, with early compute. -/
def firstRise (s : State) : State :=
  { s with
    lines := { s.lines with run := .running }
    sup := { s.sup with steps := s.sup.steps ||| 0x1000, early := !s.sup.full }
    pa := { s.pa with mode := .depot, modeW := modeBudget s.fuses.grade .depot } }

/-- All that HOST_RDY_RISE reads or writes beside the components. -/
def State.readyView (s : State) : HostIf × Supply × Exec := (s.host, s.sup, s.ex)

theorem proveTrial_readyView (k : Nat) (s : State) : (proveTrial k s).readyView = s.readyView :=
  ite_keeps (v := State.readyView) rfl rfl

theorem exec_hostRdyRise {s : State} {speed width : Nat} (hrun : s.lines.run = .startUp) (hlock : s.lines.lockdown = false)
    (hperst : s.host.perst = false) (hdue : s.sup.resetDue = none) (hhub : s.sup.hubOk = true)
    (h7 : s.sup.steps.getLsbD 7 = true) (h8 : s.sup.steps.getLsbD 8 = true) (h11 : s.sup.steps.getLsbD 11 = true)
    (hlow : 1 ≤ speed) (hhigh : speed ≤ 6) :
    ∃ t, exec (.hostRdyRise speed width) s = .next t ∧ t.host.hostRdy = true ∧ t.host.linkUp = true
      ∧ t.host.linkSpeed = speed ∧ t.host.linkWidth = width ∧ t.lines.run = .running ∧ t.pa.mode = .depot
      ∧ t.sup.early = !s.sup.full ∧ t.ex = s.ex ∧ t.host.ctxs = s.host.ctxs := by
  have hgo : ¬ (s.lines.lockdown ∨ s.host.perst ∨ s.sup.resetDue.isSome
      ∨ !(s.sup.steps.getLsbD 7 && s.sup.steps.getLsbD 8 && s.sup.steps.getLsbD 11 && s.sup.hubOk) ∨ speed = 0 ∨ 6 < speed
      ∨ (s.lines.run ≠ .startUp ∧ s.lines.run ≠ .running)) := by
    simp only [hlock, hperst, hdue, h7, h8, h11, hhub, hrun]
    simp
    omega
  have hkept : (overList proveTrial [1, 2] (linked speed width s)).readyView = (linked speed width s).readyView :=
    overList_keeps (v := State.readyView) proveTrial_readyView [1, 2] _
  have hexec : exec (.hostRdyRise speed width) s = next (firstRise (overList proveTrial [1, 2] (linked speed width s))) :=
    (if_neg hgo).trans (if_pos (Or.inl hrun))
  refine ⟨_, hexec, ?_⟩
  generalize overList proveTrial [1, 2] (linked speed width s) = u at hkept
  simp only [State.readyView, Prod.mk.injEq] at hkept
  obtain ⟨hhost, hsup, hex⟩ := hkept
  have hctxs : u.host.ctxs = s.host.ctxs := by rw [hhost]; rfl
  exact ⟨congrArg HostIf.hostRdy hhost, congrArg HostIf.linkUp hhost, congrArg HostIf.linkSpeed hhost,
    congrArg HostIf.linkWidth hhost, rfl, rfl, congrArg (fun x : Supply => !x.full) hsup, hex, hctxs⟩

/-- Settles O14: the start by what it keeps from its first assignments on (`exec_startUp`), BIST by `earlySites`. -/
theorem startUpSequence : Obligations.StartUpSequence := by
  refine ⟨?start, ?bist, ?ready, ?full⟩
  case start =>
    intro s boot good hub hrun hka hwake hlock hstop hrestart htest
    obtain ⟨t, ht, hview⟩ := exec_startUp (boot := boot) (good := good) (hub := hub) hrun hka hwake hlock hstop hrestart htest
    simp only [State.startView, Prod.mk.injEq] at hview
    obtain ⟨hup, hvin, hfault, hcause, hnext, hrecord, hfuses⟩ := hview
    exact ⟨t, ht, hup, hvin, hcause, hnext, hfault, hrecord, hfuses⟩
  case bist =>
    intro s n failing hn hout hbist hrails hpark hreset hup
    obtain ⟨t, ht, hdone, hearly, horder⟩ := exec_bistPass1Complete (failing := failing) hn hout hbist hrails hpark hreset hup
    refine ⟨t, ht, hdone, hearly, ?_, fun p hp => ?_⟩
    · rw [hearly, horder]
      exact State.length_earlySites _ n
    · rw [horder] at hp
      obtain ⟨hrow, hpass, hseat⟩ := State.mem_earlySites hp
      have hlisted : { s.die n with failed := ((s.die n).failed ++ failing).dedup } ≠ Die.rest := fun h => by
        have hoff := congrArg Die.rails h
        rw [show _ = Rails.good from hrails] at hoff
        cases hoff
      rw [failSites_die n failing s hlisted] at hpass
      refine ⟨hrow, fun hfail => hpass ?_, hseat⟩
      exact List.mem_dedup.2 (List.mem_append_right _ hfail)
  case ready =>
    intro s speed width hrun hlock hperst hdue hhub h7 h8 h11 hlow hhigh
    exact exec_hostRdyRise hrun hlock hperst hdue hhub h7 h8 h11 hlow hhigh
  case full =>
    intro s failing hrun hfull hsteps
    obtain ⟨t, ht, hdone, hearly, hcause, hkept⟩ := exec_fullCompute (failing := failing) hrun hfull hsteps
    exact ⟨t, ht, hdone, hearly, hcause, congrArg Prod.fst hkept, congrArg Prod.snd hkept⟩

end Sys2Proof.Machine

/-!
PROOFS. Flasks' configuration commands (spec 05_execution_model.md, Flasks, Parting lines and configuration generations).
Each clause names, guard by guard, why the command's own part goes on to the effect.
-/

namespace Sys2Proof.Machine

/-- Settles O20: each command's guards let the packet pass, and its effect is the one stated. -/
theorem flaskConfigurationCommands : Obligations.FlaskConfigurationCommands := by
  refine ⟨?create, ?remove, ?shares, ?queue, ?commit, ?admitTenant, ?release⟩
  case create =>
    intro s p hacc f hf hcls hmode hauto hspan hempty hfull hbank hc3 htile
    have hrange : ¬ (15 < f ∨ 3 < p.u8 13 ∨ 2 < p.u8 14 ∨ 1 < p.u8 18 ∨ (p.u8 14 = 0 ∧ (p.u16 16 < 5 ∨ 1000 < p.u16 16))) := by
      omega
    have hfullOk : ¬ ((!s.sup.full) = true ∧ (p.u8 14 = 0 ∨ p.u8 13 ≠ 0)) := by simp [hfull]
    have hpair : ¬ ((p.u8 13 = 3 ∧ (p.u8 14 ≠ 0 ∨ s.c3Dies < 3)) ∨ (p.u8 14 = 2 ∧ p.u8 13 ≠ 0)) := by omega
    refine command_done (b := 0) hacc ?_ rfl
    refine (if_neg hrange).trans ((if_neg (not_not.2 hempty)).trans ((if_neg hfullOk).trans ?_))
    exact (if_neg (Bool.not_eq_true _ ▸ hbank)).trans (if_neg hpair)
  case remove =>
    intro s p hacc hf hforce hstate hjobs
    have hidle : ¬ (p.u8 13 = 0 ∧ ((s.jobsOf (p.u8 12)).any fun j => (s.job j).live) = true) := by
      rintro ⟨h0, hany⟩
      obtain ⟨j, hj, hlive⟩ := List.any_eq_true.1 hany
      exact Bool.false_ne_true ((hjobs.resolve_left (by omega) j hj).symm.trans hlive)
    refine then_done (b := 0) hacc ?_ rfl
    exact (if_neg (by omega)).trans ((if_neg hstate).trans (if_neg hidle))
  case shares =>
    intro s p hacc f x sum hf hkind hreg hshare hburst hzero hstate hseries hsum
    have hrange : ¬ (13 < p.u8 14 ∨ 1000 < p.u16 16 ∨ 4095 < p.u16 18 ∨ (!p.zeros 20 4) = true) := by
      simp [hzero]; omega
    refine command_done (b := 0) hacc ?_ rfl
    refine (if_neg (by omega)).trans ((if_neg hstate).trans ((if_neg (Bool.not_eq_true _ ▸ hseries)).trans ?_))
    refine (if_neg (by omega)).trans ((if_neg (by omega)).trans ((if_neg (by omega)).trans ((if_pos hkind).trans ?_)))
    exact (if_neg hrange).trans (if_neg (not_lt.2 hsum))
  case queue =>
    intro s p hacc f x q hf hkind hq htake hzero hstate hseries hbank hothers hown
    have hrange : ¬ (queueCount (p.u8 16) ≤ p.u8 14 ∨ 1 < p.u8 17 ∨ (!p.zeros 18 6) = true) := by
      simp [hzero]; omega
    have hfree : ¬ ((flaskNums.any fun g => g ≠ f && ((s.flask g).committed.queues.contains q
        || (s.flask g).shadow.queues.contains q)) = true) := by
      simpa [not_or] using hothers
    refine command_done (b := 0) hacc ?_ rfl
    refine (if_neg (by omega)).trans ((if_neg hstate).trans ((if_neg (Bool.not_eq_true _ ▸ hseries)).trans ?_))
    refine (if_neg (by simp [hbank])).trans ((if_neg (by omega)).trans ((if_pos hkind).trans ((if_neg hrange).trans ?_)))
    exact (if_pos (by simp [htake])).trans ((if_neg hfree).trans (if_neg (by simpa using hown)))
  case commit =>
    intro s p hacc n ms hn1 hn16 hplain htime hms hnodup hok horder g tk
    have htimeout := timeoutOf_le htime
    have hrange : ¬ (n = 0 ∨ 16 < n ∨ 1 < p.u8 13 ∨ 10000 < timeoutOf (p.u32 32) ∨ (ms.any (15 < ·)) = true ∨ ¬ ms.Nodup) := by
      have hsmall : ¬ (ms.any (15 < ·)) = true := by simpa using hms
      have hnums : ¬ (n = 0 ∨ 16 < n ∨ 1 < p.u8 13 ∨ 10000 < timeoutOf (p.u32 32)) := by omega
      tauto
    have hcommits : ¬ (ms.any fun f => !(s.flask f).commits) = true := by
      simpa using fun f hf => (hok f hf).1
    have hnone : ¬ (ms.any s.anySeries) = true := by
      simpa using fun f hf => (hok f hf).2
    refine command_later hacc ?_
    refine (if_neg hrange).trans ((if_neg (by omega)).trans ((if_neg hcommits).trans ((if_neg hnone).trans ?_)))
    exact if_neg (by rw [horder]; decide)
  case admitTenant =>
    intro s p hacc f c x hf hc hstate hfree hclosing hnone hnew hclass hroom
    refine command_done (b := 0) hacc ?_ rfl
    refine (if_neg (by omega)).trans ((if_neg hstate).trans ((if_neg (not_or.2 ⟨hfree, hclosing⟩)).trans ((if_neg hnew).trans ?_)))
    refine (if_neg (Option.not_isSome_iff_eq_none.2 hnone)).trans ((if_neg ?_).trans (if_neg (not_le.2 hroom)))
    exact fun ⟨h0, hne⟩ => hclass.elim h0 hne
  case release =>
    intro s p hacc f c x hf hc hplain hstate hmem hjobs
    have hidle : ¬ (p.u8 16 = 0 ∧ ((s.jobsOfCtx c).any fun j => (s.job j).flask = f) = true) := by
      rintro ⟨-, hany⟩
      obtain ⟨j, hj, hjf⟩ := List.any_eq_true.1 hany
      exact hjobs j hj (of_decide_eq_true hjf)
    refine command_done (b := 0) hacc ?_ rfl
    refine (if_neg (by omega)).trans ((if_neg hstate).trans ((if_neg (not_not.2 hmem)).trans ((if_neg hidle).trans ?_)))
    have hgraceful : ¬ p.u8 16 = 1 := by omega
    dsimp only
    rw [if_neg hgraceful]
    rfl

end Sys2Proof.Machine

/-!
PROOFS. Contexts and functions (spec 04_host_and_commands.md, Functions and contexts, Admitting and retiring clients).
-/

namespace Sys2Proof.Machine

/-- What `beginClose` without force leaves of its context is drained when nothing of it is in flight. -/
theorem beginClose_drained {s : State} {c : Nat} {closer : Option Ticket} (h : (s.ctx c).inFlight = []) :
    ((beginClose false closer c s).ctx c).drained = true := by
  rw [beginClose, if_neg Bool.false_ne_true, State.setCtx_get _ _ _ (Ctx.ne_rest_of_state CtxState.noConfusion), Ctx.drained, h]
  rfl

theorem overList_singleton (op : Nat → State → State) (k : Nat) (s : State) : overList op [k] s = op k s := rfl

/-- Settles O17: each command's guards let the packet pass, and what closes drains at once. -/
theorem contextCommands : Obligations.ContextCommands := by
  refine ⟨?openCtx, ?close, ?attach, ?query, ?grant, ?revoke⟩
  case openCtx =>
    intro s p c hacc hzero t f hring hroom hfree
    refine command_done (b := 0) hacc ?_ rfl
    have hvalid : ¬ (!ringOk f (ringParams p)) = true := by simp [hring]
    refine (if_neg (by simp [hzero])).trans ((if_neg hvalid).trans ((if_neg (not_le.2 hroom)).trans ?_))
    dsimp only
    rw [hfree]
    rfl
  case close =>
    intro s p hacc hc hplain hother x hx hfn hanch hopen hflight hidle
    refine command_done (b := 0) hacc ?_ rfl
    have hkind : ¬ (((s.taken p).ctx (p.u16 12)).anchored = true ∨ p.u16 12 = p.ring
        ∨ ((s.taken p).ctx (p.u16 12)).state = .free ∨ ((s.taken p).ctx (p.u16 12)).state = .closing) := by
      simp [hx, hanch, hopen, hother]
    refine (if_neg (by omega)).trans ((if_neg ?_).trans ((if_neg hkind).trans ((if_neg ?_).trans ?_)))
    · rintro ⟨-, hne⟩
      exact hne (hx ▸ hfn)
    · simp only [hidle, Bool.false_eq_true, and_false, not_false_eq_true]
    · dsimp only
      rw [show decide (p.u8 14 = 1) = false by simp [hplain], if_pos (beginClose_drained (hx ▸ hflight)), beginClose,
        if_neg Bool.false_ne_true]
      simp only [hx, hopen, decide_true, Bool.and_true]
      rfl
  case attach =>
    intro s p hacc hc x hfn hanch hstate hring
    have hkind : ¬ (x.anchored = true ∨ (x.state ≠ .detached ∧ x.state ≠ .halted)) := by
      rintro (h | ⟨h1, h2⟩)
      · exact Bool.false_ne_true (hanch.symm.trans h)
      · exact hstate.elim h1 h2
    have hvalid : ¬ (!ringOk ((s.taken p).ctx p.ring).fn (ringParams p)) = true := by simp [← hfn, x, hring]
    refine command_done (b := 0) hacc ?_ rfl
    exact (if_neg (not_le.2 hc)).trans ((if_neg (not_not.2 hfn)).trans ((if_neg hkind).trans (if_neg hvalid)))
  case query =>
    intro s p hacc hc x hfn
    refine command_done (b := 0) hacc ?_ rfl
    exact (if_neg (not_le.2 hc)).trans (if_neg fun h => h.1 hfn)
  case grant =>
    intro s p c hacc hf hn1 hn hareas hvf hgranted hfree
    refine command_done (b := 0) hacc ?_ rfl
    refine (if_neg (by omega)).trans ((if_neg (not_lt.2 hvf)).trans ((if_neg (Bool.not_eq_true _ ▸ hgranted)).trans ?_))
    dsimp only
    rw [hfree]
    rfl
  case revoke =>
    intro s p hacc hf hplain hgranted f home hctxs hcloser hstate hflight hidle
    refine ⟨_, command_done (b := 0) hacc ?_ rfl, rfl⟩
    have hhome : ¬ ((!(s.fn f).granted) = true ∨ ((s.taken p).ctx home).closer.isSome = true) := by simp [hgranted, f, hcloser]
    have hquiet : ¬ (p.u8 13 = 0 ∧ (((s.taken p).ctxsOf f).any (s.taken p).ctxBusy) = true) := by simp [hctxs, hidle]
    refine (if_neg (by omega)).trans ((if_neg hhome).trans ((if_neg hquiet).trans ?_))
    have hopen : ¬ ((s.taken p).ctx home).state = .closing := by simp [hstate]
    have hclosed : beginClose false (some (s.ticketOf p 0x0106)) home (s.taken p) = (s.taken p).setCtx home
        { (s.taken p).ctx home with state := .closing, enable := false, closer := some (s.ticketOf p 0x0106) } := by
      rw [beginClose, if_neg Bool.false_ne_true, hstate, decide_eq_false CtxState.noConfusion, Bool.and_false]
    have hdrained := beginClose_drained (closer := some (s.ticketOf p 0x0106)) hflight
    rw [hclosed] at hdrained
    have hall : ∀ u : State, u = (s.taken p).setCtx home { (s.taken p).ctx home with
        state := .closing, enable := false, closer := some (s.ticketOf p 0x0106) } →
        ([home].all fun c => (u.ctx c).drained) = true := by
      rintro u rfl
      rw [List.all_cons, hdrained]
      rfl
    have hswept : overList (fun c u => if (u.ctx c).state = .closing then u else beginClose (decide (p.u8 13 = 1))
        (if c = ((s.taken p).fn (p.u8 12)).home then some (s.ticketOf p 0x0106) else none) c u) [home] (s.taken p)
        = (s.taken p).setCtx home { (s.taken p).ctx home with
            state := .closing, enable := false, closer := some (s.ticketOf p 0x0106) } := by
      rw [hplain]
      refine (if_neg hopen).trans ?_
      exact (congrArg (beginClose false · home (s.taken p)) (if_pos rfl)).trans hclosed
    dsimp only
    rw [show (s.taken p).ctxsOf (p.u8 12) = [home] from hctxs, if_pos (hall _ hswept), hswept, overList_singleton]
    rfl

end Sys2Proof.Machine

/-!
PROOFS. Jobs and submitted work (spec 05_execution_model.md, Jobs, Pour images, Pour entries, Tile-task mode).
-/

namespace Sys2Proof.Machine

theorem not_bnot {b : Bool} (h : b = true) : ¬ (!b) = true := by simp [h]

/-- The guard of a command that names a job lets its owner pass. -/
theorem State.jobNamed_guard {s : State} {p : Packet} {op j : Nat} (hused : (s.job j).used = true) (howner : (s.job j).owner = p.ring) :
    ¬ (!s.jobNamed (s.ticketOf p op) j) = true := by
  refine not_bnot ?_
  rw [State.jobNamed, hused, decide_eq_true (show _ = (s.ticketOf p op).ctx from howner)]
  rfl

/-- The guard of a command that names a flask lets its tenants pass. -/
theorem State.isTenant_guard {s : State} {p : Packet} {op f : Nat} (h : p.ring ∈ (s.flask f).tenants) :
    ¬ (!s.isTenant (s.ticketOf p op) f) = true :=
  not_bnot (decide_eq_true h)

/-- R169: the first ready job that fits and has cores is the one chosen, and none is passed. -/
theorem State.choose_of_fits {s : State} {j : Nat} {cs : List (Nat × Nat)} (hfits : s.fits j = true) (hplace : s.place j = some cs)
    (rest skipped : List Nat) : s.choose (j :: rest) skipped = some (j, cs, skipped) := by
  rw [State.choose, if_pos hfits, hplace]

/-- Settles O22: each command's guards let the packet pass; a placement takes the first ready job; a stalled job faults. -/
theorem jobCommands : Obligations.JobCommands := by
  refine ⟨?load, ?start, ?stop, ?query, ?unload, ?placement, ?stall⟩
  case load =>
    intro s p im t j hacc hf hprog htenant hmode hstate hload hkept
    have hready : ¬ ((s.flask (p.u8 12)).state = .empty ∨ (s.flask (p.u8 12)).state = .resetting) := by
      rcases hstate with h | h | h <;> simp [h]
    refine command_done (b := 0) hacc ?_ rfl
    refine (if_neg (by omega)).trans ((if_neg (State.isTenant_guard htenant)).trans ((if_neg hready).trans ((if_neg hmode).trans ?_)))
    rw [show loadImage (p.u8 12) (s.ticketOf p 528).ctx im none (s.taken p) = .ok (t, j, []) from hload]
    dsimp only
    rw [if_neg hkept]
    rfl
  case start =>
    intro s p hacc hj hrepeat hsafe x tk hused howner hstate hdigest
    have hready : ¬ (x.state ≠ .loaded ∧ x.state ≠ .ended ∧ x.state ≠ .faulted) := by tauto
    refine command_later hacc ?_
    refine (if_neg (by omega)).trans ((if_neg (ne_true_of_eq_false hsafe)).trans ((if_neg (State.jobNamed_guard hused howner)).trans ?_))
    exact (if_neg hready).trans (if_neg (not_not.2 hdigest))
  case stop =>
    intro s p hacc hj hmode x tk hused howner hstate
    refine then_later hacc ?_
    refine (if_neg (by omega)).trans ((if_neg (State.jobNamed_guard hused howner)).trans ((if_neg (not_not.2 hstate)).trans ((if_neg (by omega)).trans ?_)))
    rw [State.setJob_get]
    · rw [hmode]
      rfl
    · exact fun h => JobState.noConfusion (congrArg Job.state h)
  case query =>
    intro s p hacc hj x hused howner
    exact command_done (b := 0) hacc ((if_neg (not_le.2 hj)).trans (if_neg (State.jobNamed_guard hused howner))) rfl
  case unload =>
    intro s p hacc hj x hused howner hstate
    have hdone : ¬ (x.state ≠ .loaded ∧ x.state ≠ .ended ∧ x.state ≠ .faulted) := by tauto
    exact command_done (b := 0) hacc ((if_neg (not_le.2 hj)).trans ((if_neg (State.jobNamed_guard hused howner)).trans (if_neg hdone))) rfl
  case placement =>
    intro s f j cs rest hactive hsafe hready hfits hplace
    have hgo : ¬ ((s.flask f).state ≠ .active ∨ s.safe.safeState = true) := by simp [hactive, hsafe]
    refine (if_neg hgo).trans ?_
    rw [hready, State.choose_of_fits hfits hplace]
    rfl
  case stall =>
    intro s j hlive hfree hnone
    have hidle (g : Nat × Queue → Bool) : (!s.ex.queues.any fun y => decide (y.1 / 64 = 3) && g y) = true := by
      rw [Bool.not_eq_true', List.any_eq_false]
      intro y hy h
      exact hnone y hy (of_decide_eq_true (Bool.and_eq_true_iff.1 h).1)
    exact if_pos ⟨hlive, hfree, hidle _⟩

theorem map_indexed_eq {α : Type*} {g : Nat × α → α} {es : List α} (hg : ∀ x, g x = x.2) :
    ((List.range es.length).zip es).map g = es :=
  (List.map_congr_left fun x _ => hg x).trans (List.map_snd_zip (by rw [List.length_range]))

/-- Settles O26: each command's guards let the packet pass. -/
theorem submittedWork : Obligations.SubmittedWork := by
  refine ⟨?pour, ?program, ?tiles, fun _ _ _ => rfl⟩
  case pour =>
    intro s p params f hacc n es e hq hn1 hn hsafe hflask hmode hcls hrange hgone hvalid hheld hroom
    have hfree : ¬ ((s.flask f).mode ≠ .free ∨ (s.flask f).cls ≠ 0) := by simp [hmode, hcls]
    have hinRange : ¬ (!(s.taken p).rangeOk p.ring (p.u64 16) (32 * n) false) = true := by simp [hrange]
    have hgood : ¬ ((s.taken p).engineGone e = true ∨ (!(s.taken p).pourValid f ⟨e, p.u8 12, es, params⟩) = true
        ∨ (!(s.flask f).committed.queues.contains (e, p.u8 12)) = true) := by
      simp [hgone, hvalid, hheld]
    refine then_done (b := 0) hacc ?_ rfl
    refine (if_neg (by omega)).trans ((if_neg (ne_true_of_eq_false hsafe)).trans ?_)
    rw [show (s.taken p).senderFlask (s.ticketOf p 0x0230) = some f from hflask]
    dsimp only
    rw [map_indexed_eq]
    · exact (if_neg hfree).trans ((if_neg hinRange).trans ((if_neg hgood).trans (if_neg (Nat.not_le.2 (Nat.lt_succ_of_le hroom)))))
    · exact fun _ => rfl
  case program =>
    intro s p hacc x hf hprog htenant hmode hcls hstate
    refine command_done (b := 0) hacc ?_ rfl
    refine (if_neg (by omega)).trans ((if_neg (State.isTenant_guard htenant)).trans ((if_neg ?_).trans (if_neg hstate)))
    exact not_or.2 ⟨not_not.2 hmode, not_not.2 hcls⟩
  case tiles =>
    intro s p f ts hacc x hsafe hflask hmode hprog hlen hroom hsize
    have hall : ts.take (p.u32 24) = ts := List.take_of_length_le hlen.le
    have hsmall : ¬ (ts.any fun k => decide (0x100000 < k.2)) = true := by simpa using hsize
    refine command_done (b := 0) hacc ?_ rfl
    refine (if_neg (ne_true_of_eq_false hsafe)).trans ?_
    rw [show (s.taken p).senderFlask (s.ticketOf p 0x0232) = some f from hflask]
    dsimp only
    rw [hall]
    exact (if_neg (not_not.2 hmode)).trans ((if_neg (by simp [x, hprog])).trans ((if_neg (not_lt.2 hroom)).trans (if_neg hsmall)))

end Sys2Proof.Machine

/-!
PROOFS. Drift records, streams, convolution and sequence operations (spec 06_core_arithmetic.md, Commands;
07_convolution_and_sequence.md).
-/

namespace Sys2Proof.Machine

/-- A stream command of the job's owner finds its stream. -/
theorem State.namedStream_of_owner {s : State} {p : Packet} {op k : Nat} (hj : p.u16 12 < 4096)
    (hused : (s.job (p.u16 12)).used = true) (howner : (s.job (p.u16 12)).owner = p.ring)
    (hstream : s.streamOf (p.u16 12) (p.u16 14) = some k) : (s.taken p).namedStream (s.ticketOf p op) p = .ok k := by
  refine (if_neg (not_le.2 hj)).trans ((if_neg (State.jobNamed_guard hused howner)).trans ?_)
  rw [State.taken_streamOf, hstream]

/-- Settles O29: each command's guards let the packet pass, and a stream command finds the stream it names. -/
theorem driftAndStreamCommands : Obligations.DriftAndStreamCommands := by
  refine ⟨?query, ?set, ?streams⟩
  case query =>
    intro s p hacc hj hused howner hdecl
    have hknown : ¬ (s.driftDecl (p.u16 12) (p.u16 14)).isNone = true := by simpa [Option.isSome_iff_ne_none] using hdecl
    refine command_done (b := 0) hacc ?_ rfl
    exact (if_neg (not_le.2 hj)).trans ((if_neg (State.jobNamed_guard hused howner)).trans (if_neg hknown))
  case set =>
    intro s p hacc hj x tk hused howner hdecl hvalid hended hfaulted d
    have hknown : ¬ (s.driftDecl (p.u16 12) (p.u16 14)).isNone = true := by simpa [Option.isSome_iff_ne_none] using hdecl
    refine command_later hacc ?_
    refine (if_neg (not_le.2 hj)).trans ((if_neg (State.jobNamed_guard hused howner)).trans ((if_neg hknown).trans ?_))
    exact (if_neg (ne_true_of_eq_false hvalid)).trans (if_neg (not_or.2 ⟨hended, hfaulted⟩))
  case streams =>
    intro s p k hj hused howner hstream x
    have hnamed (op : Nat) : (s.taken p).namedStream (s.ticketOf p op) p = .ok k :=
      State.namedStream_of_owner hj hused howner hstream
    refine ⟨fun hacc => ?query, fun hacc => ?reset, ?now, ?later, ?import_⟩
    case query =>
      refine command_done (b := 0) hacc ?_ rfl
      rw [hnamed]
      rfl
    case reset =>
      refine command_later hacc ?_
      rw [hnamed]
      rfl
    case now =>
      intro hacc hhost hroom hstill hnone c
      refine command_done (b := 0) hacc ?_ rfl
      rw [hnamed]
      refine (if_neg (by omega)).trans ((if_neg (not_lt.2 hroom)).trans ((if_neg (by omega)).trans ((if_pos ⟨hstill, hnone⟩).trans ?_)))
      rw [decide_eq_false (by omega : ¬ p.u8 16 = 1)]
      rfl
    case later =>
      intro hacc hhost hroom hstill
      refine command_later hacc ?_
      rw [hnamed]
      refine (if_neg (by omega)).trans ((if_neg (not_lt.2 hroom)).trans ((if_neg (by omega)).trans ((if_neg ?_).trans ?_)))
      · exact fun h => ne_true_of_eq_false hstill h.1
      · rw [decide_eq_false (by omega : ¬ p.u8 16 = 1)]
        rfl
    case import_ =>
      intro hacc hhost hdev head body hlen hmax hcrc hlayout hdigest hcls
      have hhere : decide (p.u8 16 = 1) = false := decide_eq_false (by omega)
      refine command_later hacc ?_
      rw [hnamed]
      have hbody : (s.taken p).getBytes p.ring (decide (p.u8 16 = 1)) (p.u64 24 + 64) (fieldOf head 32 8) = body := by
        rw [hhere, hlen]
        rfl
      have hhead : (s.taken p).getBytes p.ring (decide (p.u8 16 = 1)) (p.u64 24) 64 = head := by
        rw [hhere]
        rfl
      have hsame : decide (fieldOf head 2 2 = moduleDigest (s.taken p) % 65536) = true := decide_eq_true hdigest
      have hplain : ¬ ((s.flask (s.job (p.u16 12)).flask).cls = 3 ∧ ((!true) = true ∨ (!bitAt (fieldOf head 40 1) 1) = true)) :=
        fun h => hcls h.1
      refine (if_neg (by omega)).trans ((if_neg (by omega)).trans ?_)
      rw [show (s.taken p).getBytes (s.ticketOf p 0x0253).ctx (decide (p.u8 16 = 1)) (p.u64 24) 64 = head from hhead]
      refine (if_neg (by omega)).trans ((if_neg (by simp [hhere])).trans ?_)
      rw [show (s.taken p).getBytes (s.ticketOf p 0x0253).ctx (decide (p.u8 16 = 1)) (p.u64 24 + 64) (fieldOf head 32 8) = body
        from hbody, hsame]
      refine (if_neg (not_not.2 hcrc)).trans ((if_neg ?_).trans ((if_neg ?_).trans (if_neg hplain)))
      · exact not_or.2 ⟨not_not.2 hlayout, not_not.2 hlen⟩
      · exact fun h => Bool.false_ne_true h.1

theorem not_any_of_forall {α : Type*} {f : α → Bool} {o : Option α} (h : ∀ y, o = some y → f y = false) :
    ¬ o.any f = true := by
  cases o with
  | none => exact Bool.false_ne_true
  | some y => exact ne_true_of_eq_false (h y rfl)

/-- Settles O30: with its record admitted and its stream found, each operation makes its writes and no others. -/
theorem convolutionAndSequenceOperations : Obligations.ConvolutionAndSequenceOperations := by
  refine ⟨?conv, ?regroup, ?recur, ?ssm, ?scan⟩
  case conv =>
    refine fun s q k core x ep ts r en => ⟨fun hen hvalid hscale => ?_, fun hen hvalid => ?_⟩
    · show execConv q k core x ep ts s = _
      rw [execConv, hen]
      refine if_neg (not_or.2 ⟨not_bnot hvalid, not_not.2 hscale⟩)
    · show execDwconv q k core x ep ts s = _
      rw [execDwconv, hen]
      exact if_neg (not_bnot hvalid)
  case regroup =>
    intro s q k x ts r en hvalid a o
    refine ⟨fun hen => ?_, fun hen => ?_⟩
    · show execS2c q k x ts s = _
      rw [execS2c, hen]
      exact if_neg (not_bnot hvalid)
    · show execC2s q k x ts s = _
      rw [execC2s, hen]
      exact if_neg (not_bnot hvalid)
  case recur =>
    intro s q k m core x ts row r en hen hstream hvalid hlen fresh units
    show execRecur q k core x ts row s = _
    unfold execRecur
    rw [hen]
    dsimp only
    rw [hstream]
    refine (if_neg (not_or.2 ⟨not_bnot hvalid, not_any_of_forall fun y hy => decide_eq_false (hlen y hy)⟩)).trans ?_
    cases row <;> rfl
  case ssm =>
    intro s q k m core x ts row r en hen hstream hn1 hn hlen fresh ys
    have hwithin : within 1 64 x.n = true := by simp [within, hn1, hn]
    show execSsmStep q k core x ts row s = _
    unfold execSsmStep
    rw [hen]
    dsimp only
    rw [hstream]
    refine (if_neg (not_or.2 ⟨not_bnot hwithin, not_any_of_forall fun y hy => decide_eq_false (hlen y hy)⟩)).trans ?_
    cases row <;> rfl
  case scan =>
    intro s q k m core x ts row r en hen hstream hlen fresh ys
    show execScan q k core x ts row s = _
    unfold execScan
    rw [hen]
    dsimp only
    rw [hstream]
    refine (if_neg (not_any_of_forall fun y hy => decide_eq_false (hlen y hy))).trans ?_
    cases row <;> rfl

end Sys2Proof.Machine

/-!
PROOFS. KV sequences and families (spec 08_attention_kv.md, Sequences and their layout; 09_rollouts_and_tables.md, Families and
forks).
-/

namespace Sys2Proof.Machine

/-- The guard of a command that names a sequence lets the tenants of its flask pass. -/
theorem State.namedSeq_guard {s : State} {p : Packet} {op q : Nat} (hlive : (s.seq q).state ≠ .free)
    (htenant : p.ring ∈ (s.flask (s.seq q).flask).tenants) : ¬ (!s.namedSeq (s.ticketOf p op) q) = true := by
  refine not_bnot ?_
  rw [State.namedSeq, decide_eq_true hlive, Bool.true_and]
  exact decide_eq_true htenant

/-- The guard of a command that names a family lets the tenants of its flask pass. -/
theorem State.namedFamily_guard {s : State} {p : Packet} {op k q : Nat} {ms : List Nat} (hms : s.members k = q :: ms)
    (htenant : p.ring ∈ (s.flask (s.seq q).flask).tenants) : ¬ (!s.namedFamily (s.ticketOf p op) k) = true := by
  refine not_bnot ?_
  rw [State.namedFamily, hms]
  exact decide_eq_true htenant

/-- Settles O32: each command's guards let the packet pass; a fork of one target with policy 0 keeps the source's windowing. -/
theorem sequenceAndFamilyCommands : Obligations.SequenceAndFamilyCommands := by
  refine ⟨?create, ?ofSequence, ?fork, ?ofFamily⟩
  case create =>
    intro s p q t hacc f base x hf hflags htenant hfmt hlayout hfree hpaced hmake
    have hfmtOk : ¬ ((!decide (p.u8 19 = 0 ∨ p.u8 19 = 1 ∨ p.u8 19 = 3)) = true ∨ (!x.layoutOk) = true) :=
      not_or.2 ⟨not_bnot (decide_eq_true hfmt), not_bnot hlayout⟩
    have hgranted : ¬ (((s.flask f).mode = .paced ∨ 1 ≤ (s.flask f).cls) ∧ (!x.prealloc) = true) := by
      rintro ⟨hkind, hno⟩
      obtain ⟨hmode, hcls⟩ := hpaced.resolve_left fun h => not_bnot h hno
      exact hkind.elim hmode (by omega)
    refine command_done (b := 0) hacc ?_ rfl
    refine (if_neg (by omega)).trans ((if_neg (State.isTenant_guard htenant)).trans ((if_neg hfmtOk).trans ?_))
    rw [show lowest (fun q => decide (((s.taken p).seq q).state = .free)) 65536 0 = some q from hfree]
    refine (if_neg hgranted).trans ?_
    split
    next d h => exact absurd (h.symm.trans hmake) nofun
    next u h =>
      cases h.symm.trans hmake
      rfl
  case ofSequence =>
    intro s p x hlive htenant
    have hnamed (op : Nat) := State.namedSeq_guard (op := op) hlive htenant
    refine ⟨?destroy, ?closing, fun hacc => ?query, ?trim⟩
    case destroy =>
      intro hacc hidle t
      exact then_done (b := 0) hacc ((if_neg (hnamed _)).trans (if_neg (Option.not_isSome_iff_eq_none.2 hidle))) rfl
    case closing =>
      intro hacc hbusy
      exact then_later hacc ((if_neg (hnamed _)).trans (if_pos (Option.isSome_iff_ne_none.2 hbusy)))
    case query => exact command_done (b := 0) hacc (if_neg (hnamed _)) rfl
    case trim =>
      intro hacc hn hlost
      have hgood : ¬ x.trimBad (p.u32 16) = true := by
        simpa [Seq.trimBad] using ⟨hn, hlost⟩
      refine ⟨fun hidle => ?_, fun hbusy => ?_⟩
      · refine then_done (b := 0) hacc ?_ rfl
        exact (if_neg (hnamed _)).trans ((if_neg hgood).trans (if_neg (Option.not_isSome_iff_eq_none.2 hidle)))
      · refine then_later hacc ?_
        exact (if_neg (hnamed _)).trans ((if_neg hgood).trans (if_pos (Option.isSome_iff_ne_none.2 hbusy)))
  case fork =>
    intro s p b k t hacc a x y hlive htenant hone hpol hva hfamily hroom hrun hidle hmake hnone
    have htargets : ((List.range (p.u16 14)).map (forkPolicy (p.u8 16 % 4) x.slide ((s.taken p).vread p.ring (p.u48 24) 64)))
        = [some x.slide] := by
      rw [hone, hpol]
      rfl
    refine then_done (b := 0) hacc ?_ rfl
    refine (if_neg (by omega)).trans ((if_neg (State.namedSeq_guard (by simp [hlive, x]) htenant)).trans ?_)
    refine (if_neg (by omega)).trans ?_
    rw [hone] at htargets ⊢
    rw [show List.map (forkPolicy (p.u8 16 % 4) ((s.taken p).seq (p.u16 12)).slide
      ((s.taken p).vread (s.ticketOf p 804).ctx (p.u48 24) 64)) (List.range 1) = [some x.slide] from htargets]
    refine (if_neg Bool.false_ne_true).trans ((if_neg (show ¬ x.state = .closing by simp [hlive])).trans ?_)
    rw [show (s.taken p).freeRun 1 = some b from hrun]
    split
    next h => exact absurd h nofun
    cases ‹some b = some _›
    split
    case h_2 h => exact absurd (h.symm.trans hfamily) nofun
    cases (‹_ = some _› : x.family = some _).symm.trans hfamily
    rw [if_pos (show ((s.taken p).members k).length + 1 ≤ 4096 from hroom)]
    -- `makeTargets` stays a name here, so that nothing evaluates it.
    obtain ⟨make, heq⟩ : ∃ make, make = makeTargets := ⟨_, rfl⟩
    rw [← heq] at hmake ⊢
    dsimp only
    split
    next d h => exact absurd (h.symm.trans hmake) nofun
    next u h =>
      cases h.symm.trans hmake
      exact if_pos ⟨Option.isNone_iff_eq_none.2 hidle, by simpa using hnone⟩
  case ofFamily =>
    intro s p q ms hms htenant gs
    have hnamed (op : Nat) := State.namedFamily_guard (op := op) hms htenant
    refine ⟨?query, ?destroy⟩
    case query =>
      intro hacc
      refine command_done (b := 0) hacc ((if_neg (hnamed _)).trans ?_) rfl
      rw [State.taken_members, hms]
      rfl
    case destroy =>
      intro hacc hidle t
      have hnoneBusy : (q :: ms).filter (fun m => ((s.taken p).seq m).step.isSome) = [] :=
        List.filter_eq_nil_iff.2 fun m hm => Option.not_isSome_iff_eq_none.2 (hidle m hm)
      have hall : (q :: ms).filter (fun m => !([] : List Nat).contains m) = q :: ms := List.filter_eq_self.2 fun _ _ => rfl
      refine then_done (b := 0) hacc ((if_neg (hnamed _)).trans ?_) rfl
      dsimp only
      rw [show (s.taken p).members (p.u16 12) = q :: ms from hms, hnoneBusy, hall]
      rfl

end Sys2Proof.Machine

/-!
PROOFS. Gathers and training operations (spec 09_rollouts_and_tables.md, Tokenizer codebooks and sampling, Map tables in the deep
store, Training in Depot mode).
-/

namespace Sys2Proof.Machine

/-- Settles O34: with its entry found, each operation's checks let it make its writes and no others. -/
theorem gatherAndTrainingOperations : Obligations.GatherAndTrainingOperations := by
  refine ⟨?codes, ?table, ?gradW, ?attend, ?opt, ?quantize⟩
  case codes =>
    refine fun s q k rows entries width ts r en => ⟨?_, ?_⟩
    · intro hen
      show execVqEncode q k rows entries width ts s = _
      rw [execVqEncode, hen]
      rfl
    · intro hen codes tb n scales hrange
      have hin : ¬ (codes.any fun c => decide (entries ≤ c ∧ c ≠ 0xFFFFFFFF)) = true := by
        simp only [List.any_eq_true, decide_eq_true_eq, not_exists, not_and]
        intro c hc hle hne
        exact (hrange c hc).elim (not_lt.2 hle) hne
      show execCodeGather q k rows entries width ts s = _
      unfold execCodeGather
      rw [hen]
      refine (if_neg hin).trans ?_
      have hscale (c : Nat) : (if c = 0xFFFFFFFF ∨ (!tb.rowScaled) = true then (0 : Byte) else s.vbyte r.ctx (tb.scaleVa + c))
          = if c = 0xFFFFFFFF ∨ tb.rowScaled = false then 0 else s.vbyte r.ctx (tb.scaleVa + c) :=
        if_congr (by rw [Bool.not_eq_true']) rfl rfl
      have hscales : codes.map (fun c => if c = 0xFFFFFFFF ∨ (!tb.rowScaled) = true then (0 : Byte)
          else s.vbyte r.ctx (tb.scaleVa + c)) = scales := List.map_congr_left fun c _ => hscale c
      exact congrArg (fun l => next (vwrite r.ctx (en.tensor ts 2).va
        (codes.flatMap fun c => if c = 0xFFFFFFFF then List.replicate n 0 else s.vread r.ctx (tb.va + c * n) n)
        (if (en.tensor ts 2).rowScaled then vwrite r.ctx (en.tensor ts 2).scaleVa l s else s))) hscales
  case table =>
    intro s q k x r en hen t keys tiles missed hcreated hrows hwait data y u
    have htiles : keys.zip (keys.map fun a => t.find r.flask (a / 2 ^ 24)) = tiles := (List.map_prod_left_eq_zip).symm
    have hfound : tiles.map (·.2) = keys.map fun a => t.find r.flask (a / 2 ^ 24) := List.map_map
    have hin : ¬ (keys.any fun a => decide (t.rows ≤ a % 2 ^ 24)) = true := by simpa using hrows
    have hgo : ¬ (x.wait = true ∧ missed ≠ []) := fun h => hwait.elim (ne_true_of_eq_false · h.1) h.2
    show execTableGather q k x s = _
    unfold execTableGather
    rw [hen]
    dsimp only
    rw [htiles, ← hfound]
    refine (if_neg (not_bnot hcreated)).trans ((if_neg hin).trans ((if_neg hgo).trans ?_))
    exact congrArg next (if_congr List.isEmpty_iff rfl rfl)
  case gradW =>
    intro s q k core a b split ts r en hen
    show execGradW q k core a b split ts s = _
    rw [execGradW, hen]
    rfl
  case attend =>
    intro s q k core a ts r en hen n g put
    show execAttendGrad q k core a ts s = _
    rw [execAttendGrad, hen]
    rfl
  case opt =>
    intro s q k x r en hen at_ t
    refine ⟨?_, ?_⟩
    · rintro ⟨j, hj, hbad⟩
      have hany : ((List.range x.count).any fun j => !(f32 (at_ 1 j)).isFin) = true := 
        List.any_eq_true.2 ⟨j, List.mem_range.2 hj, by rw [hbad]; rfl⟩
      show execOptStep q k x s = _
      unfold execOptStep
      rw [hen]
      exact if_pos hany
    · intro hall new u
      have hany : ¬ ((List.range x.count).any fun j => !(f32 (at_ 1 j)).isFin) = true := by
        simpa using hall
      show execOptStep q k x s = _
      unfold execOptStep
      rw [hen]
      exact if_neg hany
  case quantize =>
    intro s q k core a b ts r en hen tc
    refine ⟨fun hw4 => ?_, fun hw4 => ?_⟩
    · show execQuantize q k core a b ts s = _
      unfold execQuantize
      rw [hen]
      exact if_pos hw4
    · intro out
      show execQuantize q k core a b ts s = _
      unfold execQuantize
      rw [hen]
      exact if_neg (ne_true_of_eq_false hw4)

end Sys2Proof.Machine

/-!
PROOFS. Memory commands (spec 10_memory_tiers.md, Commands, Virtual ranges and page tables, Quotas and pins).
-/

namespace Sys2Proof.Machine

/-- Settles O37: each command's checks let the packet pass, and its effect is the one stated. -/
theorem memoryCommands : Obligations.MemoryCommands := by
  refine ⟨?allocate, ?release, ?share, ?ofPages, ?translation, ?quota, ?memory, ?policy, ?evacuate⟩
  case allocate =>
    intro s p f t frames hacc hflask htier1 htier hflags hstack va hvalid hfree hmap hclear
    refine then_done (b := 0) hacc ?_ rfl
    have hbig : (p.u8 13).testBit 0 = true := by rw [hflags]; rfl
    have hfixed : (p.u8 13).testBit 1 = false := by rw [hflags]; rfl
    have hstrict : (p.u8 13).testBit 2 = false := by rw [hflags]; rfl
    have hany : (if p.u8 14 = 0xFF then 4 else p.u8 14) = 4 := if_pos hstack
    rw [hbig, hfixed, hstrict, hany]
    refine (if_neg (by omega)).trans ?_
    rw [show (s.taken p).senderFlask (s.ticketOf p 769) = some f from hflask]
    refine (if_neg ?_).trans ((if_neg (ne_true_of_eq_false hfree)).trans ?_)
    · exact not_or.2 ⟨not_bnot hvalid, fun h => Bool.false_ne_true h.2⟩
    rw [if_neg Bool.false_ne_true, show mapNew f (s.ticketOf p 769).ctx (p.u8 12) 4 (false && decide (4 < 4)) true
      (fitVa (bytesOf true) (p.u64 16) ((s.taken p).takenVa (s.ticketOf p 769).ctx) generalBase) (p.u64 16) none true false
      (s.taken p) = .ok (t, frames) from hmap]
    exact if_pos (List.isEmpty_iff.2 hclear)
  case release =>
    intro s p f ps hacc hflask hvalid hpages hall t
    have hwhole : ¬ (ps.any fun x => p.u48 16 % bytesOf x.1.big ≠ 0 ∨ (p.u48 16 + p.u64 24) % bytesOf x.1.big ≠ 0) = true := by
      simp only [List.any_eq_true, not_exists, not_and, decide_eq_true_eq, not_or, not_not]
      exact fun x hx => ⟨(hall x hx).1, (hall x hx).2.1⟩
    have hunheld : ¬ (ps.any fun x => x.1.job.isSome) = true := by
      simp only [List.any_eq_true, not_exists, not_and, Option.isSome_iff_ne_none, not_not]
      exact fun x hx => (hall x hx).2.2.1
    have hown : ps.filter (fun x => !x.1.own) = [] :=
      List.filter_eq_nil_iff.2 fun x hx => not_bnot (hall x hx).2.2.2
    refine then_done (b := 0) hacc ?_ rfl
    rw [show (s.taken p).senderFlask (s.ticketOf p 0x0302) = some f from hflask]
    refine (if_neg (not_bnot hvalid)).trans ?_
    rw [show (s.taken p).pagesOf (s.ticketOf p 0x0302).ctx (p.u48 16) (p.u64 24) = some ps from hpages]
    refine (if_neg hwhole).trans ((if_neg hunheld).trans ?_)
    rw [hown]
    rfl
  case share =>
    intro s p a b fa fb ps hacc ha hb ha' hb' hfa hfb hva hvb hpages hne hall hfree hclass t hma hmb hmn hxlat
    subst ha hb
    have hvalid : ¬ ((!rangeValid (p.u48 16) (p.u64 32) false) = true ∨ (!rangeValid (p.u48 24) (p.u64 32) false) = true) :=
      not_or.2 ⟨not_bnot hva, not_bnot hvb⟩
    have hsmall : (ps.all fun x => x.1.big) = false := by
      obtain ⟨x, hx⟩ := List.exists_mem_of_ne_nil ps hne
      exact List.all_eq_false.2 ⟨x, hx, ne_true_of_eq_false (hall x hx).1⟩
    have haligned : ¬ ((p.u48 16 % bytesOf false ≠ 0 ∨ p.u48 24 % bytesOf false ≠ 0 ∨ p.u64 32 % bytesOf false ≠ 0)
        ∨ (ps.any fun x => x.1.big ≠ false) = true) := by
      have hsize : bytesOf false = 65536 := rfl
      have hsame : ¬ (ps.any fun x => x.1.big ≠ false) = true := by simpa using fun x m hx => (hall (x, m) hx).1
      exact not_or.2 ⟨by rw [hsize]; omega, hsame⟩
    have hown : ¬ (ps.any fun x => !x.1.own) = true := by simpa using fun x m hx => (hall (x, m) hx).2.1
    have hunpaced : ¬ (ps.any fun x => (s.page x.2).claims.any fun c => decide (c.tier = 0)) = true := by
      simpa using fun x m hx => (hall (x, m) hx).2.2
    refine then_done (b := 0) hacc ?_ rfl
    refine (if_neg (by omega)).trans ?_
    rw [show (s.taken p).flaskOfCtx (p.u16 12) = some fa from hfa, show (s.taken p).flaskOfCtx (p.u16 14) = some fb from hfb]
    refine (if_neg hvalid).trans ?_
    rw [hpages]
    dsimp only
    rw [hsmall]
    refine (if_neg haligned).trans ((if_neg hown).trans ((if_neg (ne_true_of_eq_false hfree)).trans ((if_neg hunpaced).trans ?_)))
    exact (if_neg (not_bnot hclass)).trans (if_neg (not_lt.2 hxlat))
  case ofPages =>
    intro s p f ps hflask hpages hpaced wait
    have hplain : ¬ (s.taken p).pacedMaps ps = true := ne_true_of_eq_false hpaced
    refine ⟨?pin, ?unpin, ?lower, ?raise⟩
    case pin =>
      intro hacc htier1 htier t hroom hquota
      refine then_later hacc ((if_neg (by omega)).trans ?_)
      rw [show (s.taken p).senderFlask (s.ticketOf p 0x0304) = some f from hflask, hpages]
      refine (if_neg hplain).trans ((if_neg (not_bnot hroom)).trans (if_neg ?_))
      exact fun h => hquota.elim h.2.ne' (not_le.2 h.1)
    case unpin =>
      intro hacc
      refine then_done (b := 0) hacc ?_ rfl
      rw [show (s.taken p).senderFlask (s.ticketOf p 0x0305) = some f from hflask, hpages]
      exact if_neg hplain
    case lower =>
      intro hacc hop htier hstack
      refine then_later hacc ?_
      have hstackOk : ¬ 4 < (if p.u8 14 = 0xFF then 4 else p.u8 14) := by split <;> omega
      refine (if_neg (by omega)).trans ?_
      rw [show (s.taken p).senderFlask (s.ticketOf p 0x0306) = some f from hflask, hpages]
      exact (if_neg hplain).trans ((if_neg (by omega)).trans (if_pos hop))
    case raise =>
      intro hacc hop htier1 htier hstack t own others hraise hquota hroom
      have hany : (if p.u8 14 = 0xFF then 4 else p.u8 14) = 4 := if_pos hstack
      have hlower : ¬ (p.u8 13 = 0 ∨ (ps.any fun k => (s.page k).homeTier ≤ p.u8 13) = true) := by
        refine not_or.2 ⟨by omega, ?_⟩
        simpa using hraise
      have hothers : ¬ ((!t.pinRoom f (p.u8 13) others) = true ∧ 0 < others) := fun h =>
        hroom.elim (by omega) fun hr => not_bnot hr h.1
      refine then_later hacc ?_
      rw [hany]
      refine (if_neg (by omega)).trans ?_
      rw [show (s.taken p).senderFlask (s.ticketOf p 0x0306) = some f from hflask, hpages]
      refine (if_neg hplain).trans ((if_pos hop).trans ((if_neg hlower).trans ((if_neg ?_).trans (if_neg hothers))))
      exact fun h => hquota.elim h.2.ne' (not_le.2 h.1)
  case translation =>
    intro s p f m hacc hflask hmap
    refine ⟨?ret, ?length, ?entry, command_done (b := 0) hacc ?_ rfl⟩
    rotate_left 3
    · rw [show (s.taken p).senderFlask (s.ticketOf p 0x0307) = some f from hflask,
        show (s.taken p).mapAt (s.ticketOf p 0x0307).ctx (p.u48 16) = some m from hmap]
      rfl
    · simp
    · rw [List.append_assoc, List.append_assoc]
      exact List.take_left' (length_leBytes 8 _)
  case quota =>
    intro s p hacc hc htier1 htier hstate
    exact command_done (b := 0) hacc ((if_neg (by omega)).trans (if_neg hstate)) rfl
  case memory =>
    intro s p hacc hf htier1 htier hc hsender
    refine command_done (b := 0) hacc ((if_neg (by omega)).trans ((if_neg fun h => h.1 hsender).trans ?_)) rfl
    rw [if_pos hc]
    rfl
  case policy =>
    intro s p hacc hk hth1 hth hw1 hw
    exact command_done (b := 0) hacc ((if_neg (by omega)).trans (if_neg (by omega))) rfl
  case evacuate =>
    intro s p hacc hn hempty hmay hnone
    refine then_later hacc ((if_neg (by omega)).trans (if_neg ?_))
    have hidle : ¬ ((s.taken p).mem.evac.any fun e => decide (e.stack = p.u8 12)) = true := by simpa using hnone
    exact not_or.2 ⟨not_bnot hempty, not_or.2 ⟨not_bnot hmay, hidle⟩⟩

end Sys2Proof.Machine

/-!
PROOFS. Samples, batches and the Codec Engine (spec 12_ingest_and_video.md).
-/

namespace Sys2Proof.Machine

theorem State.enabled_of_camera {s : State} {k : Nat} {r : CamRec} (h : s.camera k = some r) : (s.instream k).enabled = true := by
  cases he : (s.instream k).enabled with
  | true => rfl
  | false => exact absurd ((if_pos (by rw [he]; rfl)).symm.trans h) nofun

/-- The guard of an entry that has not acted yet lets it act. -/
theorem firstAct_guard {r : PourRun} {k : Nat} (h : ∀ y ∈ r.own, y.1 ≠ k) : ¬ (r.own.any fun y => decide (y.1 = k)) = true := by
  simpa using fun b hb => h (k, b) hb rfl

/-- Settles O43: with its stream, its slot or its entry found, each event's guards let it take the effect stated. -/
theorem samplesAndBatches : Obligations.SamplesAndBatches := by
  refine ⟨?camera, ?points, ?close, ?take⟩
  case camera =>
    intro s k n r q hk hn hcam t
    refine ⟨?_, fun l => ?_, fun e => ?_⟩
    · intro hnow hnext
      have hon : ¬ (48 ≤ k ∨ (!((advance n s).instream k).enabled) = true) :=
        not_or.2 ⟨not_le.2 hk, not_bnot (State.enabled_of_camera hnow)⟩
      refine (if_neg hon).trans ?_
      rw [hnow, show (takeRecord k (endFrame k r (advance n s))).camera k = some q from hnext]
      rfl
    · show execCsi2Line k l s = _
      rw [execCsi2Line, hcam]
      exact if_pos hk
    · show execCsi2FrameEnd k e s = _
      rw [execCsi2FrameEnd, hcam]
      exact if_neg (not_le.2 hk)
  case points =>
    intro s k n e m data r hk hk' hon t hrec hcount hsweep pts
    have hgo : ¬ ((!within 48 63 k) = true ∨ (!((advance n s).instream k).enabled) = true) :=
      not_or.2 ⟨not_bnot (decide_eq_true ⟨hk, hk'⟩), not_bnot hon⟩
    refine (if_neg hgo).trans ?_
    rw [show ((startSweep k data ((advance n s).setInstream k { (advance n s).instream k with
      phyErr := satAdd ((advance n s).instream k).phyErr e })).instream k).rec_ = some (.point r) from hrec]
    cases hs : r.sweep with
    | flag z => exact absurd hs (hsweep z).1
    | packets i => exact absurd hs ((hsweep ⟨0, 0, false⟩).2 i)
    | wrap z =>
      dsimp only
      rw [hs, hcount]
      rfl
  case close =>
    intro s u ref i hslot y
    refine ⟨?_, ?_⟩
    · intro hopen hpart hstate t
      have hgo : ¬ (y.closed = true ∨ y.complete = true ∨ (y.state ≠ .filling ∧ y.state ≠ .held)) := by
        simp only [hopen, hpart, Bool.false_eq_true, false_or]
        exact fun h => hstate.elim h.1 h.2
      show execTundishClose u ref s = _
      rw [execTundishClose, hslot]
      exact if_neg hgo
    · intro hfilling hwarn
      show execTundishWarn u ref s = _
      rw [execTundishWarn, hslot]
      exact if_pos ⟨hfilling, hwarn⟩
  case take =>
    intro s q k u early r en hen hfirst hused hflask
    have hgo : ¬ ((r.own.any fun y => decide (y.1 = k)) = true ∨ (!(s.tundish u).used) = true ∨ (s.tundish u).flask ≠ r.flask) :=
      not_or.2 ⟨firstAct_guard hfirst, not_or.2 ⟨not_bnot hused, not_not.2 hflask⟩⟩
    have hexec : exec (.takeBatch q k u early) s = execTakeBatch q k u early s := rfl
    rw [hexec, execTakeBatch, hen]
    refine ⟨fun i hslot => ?_, fun hslot hfree hfresh => ?_, fun hslot hpaced => ?_⟩
    · refine (if_neg hgo).trans ?_
      rw [hslot]
      rfl
    · refine (if_neg hgo).trans ?_
      rw [hslot]
      exact (if_neg hfree).trans (if_neg (ne_true_of_eq_false hfresh))
    · intro out t
      refine (if_neg hgo).trans ?_
      rw [hslot]
      exact if_pos hpaced

/-- Settles O44: with its entry or its picture found, each operation's guards let it act. -/
theorem codecOperations : Obligations.CodecOperations := by
  refine ⟨?decode, ?flush, ?encode⟩
  case decode =>
    intro s q k n time au r en hen x hfirst hused hflask hstream held m t v
    have hgo : ¬ ((r.own.any fun y => decide (y.1 = k)) = true ∨ (!x.used) = true ∨ x.flask ≠ r.flask) :=
      not_or.2 ⟨firstAct_guard hfirst, not_or.2 ⟨not_bnot hused, not_not.2 hflask⟩⟩
    have hfeeds : decide (x.stream ≠ 0xFF) = false := decide_eq_false (not_not.2 hstream)
    show execDecodeAu q k n time au s = _
    rw [execDecodeAu, hen]
    refine (if_neg hgo).trans ?_
    rw [hfeeds]
    simp only [Bool.false_eq_true, if_false, Bool.not_false, Bool.and_true]
    rfl
  case flush =>
    intro s q k n r en hen x hfirst hused hflask bad t
    have hgo : ¬ ((r.own.any fun y => decide (y.1 = k)) = true ∨ (!x.used) = true ∨ x.flask ≠ r.flask) :=
      not_or.2 ⟨firstAct_guard hfirst, not_or.2 ⟨not_bnot hused, not_not.2 hflask⟩⟩
    show execFlush q k n s = _
    rw [execFlush, hen]
    exact if_neg hgo
  case encode =>
    intro s n irap room data y x hinput hused
    refine ⟨?_, ?_⟩
    · intro hroom hskip hgap head t
      have hgo : ¬ ((!room) = true ∨ ((x.skipping = true ∨ x.gap = true) ∧ (!irap) = true)) := by
        simp [hroom, hskip, hgap]
      show execEncodeAuComplete n irap room data s = _
      rw [execEncodeAuComplete, hinput]
      refine (if_neg (not_bnot hused)).trans ((if_neg hgo).trans ?_)
      rw [show (s.session 1 n).gap = false from hgap]
      rfl
    · intro hroom t
      show execEncodeAuComplete n irap room data s = _
      rw [execEncodeAuComplete, hinput]
      exact (if_neg (not_bnot hused)).trans (if_pos (Or.inl (by rw [hroom]; rfl)))

end Sys2Proof.Machine

/-!
PROOFS. Spatial commands (spec 13_fusion_tracking_planning.md, Commands, Calibration).
-/

namespace Sys2Proof.Machine

theorem within_guard {lo hi v : Nat} (hlo : lo ≤ v) (hhi : v ≤ hi) : ¬ (!within lo hi v) = true :=
  not_bnot (decide_eq_true ⟨hlo, hhi⟩)

/-- The guard of an access lets through what no access of its kind faults on. -/
theorem access_guard {c : Prop} {o : Option Nat} (h : c → o = none) : ¬ (c ∧ o.isSome = true) :=
  fun ⟨hc, ho⟩ => Option.not_isSome_iff_eq_none.2 (h hc) ho

/-- Settles O45: each command's guards let the packet pass, and its effect is the one stated. -/
theorem spatialCommands : Obligations.SpatialCommands := by
  refine ⟨?load, ?built, ?switch, ?projection, ?unproject, ?tracks, ?untrack, ?lattice, ?switchLattice, ?query⟩
  case load =>
    intro s p hacc hengine n clone bytes recs hset hflags hn1 hn hlast haccess hfree hidle hgood
    have hrange : ¬ (1 < p.u8 12 ∨ 3 < p.u8 13 ∨ (!within 1 64 n) = true ∨ 64 < p.u8 14 + n) :=
      not_or.2 ⟨not_lt.2 hset, not_or.2 ⟨not_lt.2 hflags, not_or.2 ⟨within_guard hn1 hn, not_lt.2 hlast⟩⟩⟩
    have hquiet : ¬ (s.calInUse (p.u8 12) = true ∨ s.sp.building.isSome = true) :=
      not_or.2 ⟨ne_true_of_eq_false hfree, Option.not_isSome_iff_eq_none.2 hidle⟩
    refine command_later hacc ((if_neg hrange).trans ((if_neg (ne_true_of_eq_false hengine)).trans ?_))
    exact (if_neg (access_guard haccess)).trans ((if_neg hquiet).trans (if_neg (not_bnot hgood)))
  case built =>
    intro s tk set ks hbuilding t
    show execProjectionBuildComplete s = _
    rw [execProjectionBuildComplete, finishBuild, hbuilding]
    rfl
  case switch =>
    intro s p hacc hengine ms hn1 hn htime hms hnodup hok horder staged t
    have htimeout := timeoutOf_le htime
    have hrange : ¬ (p.u8 12 = 0 ∨ 16 < p.u8 12 ∨ 10000 < timeoutOf (p.u32 32) ∨ (ms.any (15 < ·)) = true ∨ ¬ ms.Nodup) := by
      have hsmall : ¬ (ms.any (15 < ·)) = true := by simpa using hms
      have hnums : ¬ (p.u8 12 = 0 ∨ 16 < p.u8 12 ∨ 10000 < timeoutOf (p.u32 32)) := by omega
      tauto
    have hbuilt : ¬ (ms.any fun f => !s.calBuilt (1 - s.calOf f)) = true := by simpa using fun f hf => (hok f hf).1
    have hcommits : ¬ (ms.any fun f => !(s.flask f).commits) = true := by simpa using fun f hf => (hok f hf).2.1
    have hnone : ¬ (ms.any s.anySeries) = true := by simpa using fun f hf => (hok f hf).2.2
    refine command_later hacc ((if_neg hrange).trans ((if_neg (ne_true_of_eq_false hengine)).trans ((if_neg hbuilt).trans ?_)))
    exact (if_neg hcommits).trans ((if_neg hnone).trans (if_neg (not_bnot horder)))
  case projection =>
    intro s p d t pages hacc hengine k f hk hf htenant hnew haccess hok hsensors hpages u v w
    have hgood : ¬ ((!d.ok) = true ∨ (!(d.sensors.all fun n => (s.cal 0 n).camera && (s.cal 1 n).camera)) = true) := by
      refine not_or.2 ⟨not_bnot hok, not_bnot (List.all_eq_true.2 fun n hn => ?_)⟩
      rw [(hsensors n hn).1, (hsensors n hn).2]
      rfl
    refine command_done (b := 0) hacc ((if_neg (by omega)).trans ((if_neg (ne_true_of_eq_false hengine)).trans ?_)) rfl
    refine (if_neg (State.isTenant_guard htenant)).trans ((if_neg (ne_true_of_eq_false hnew)).trans ?_)
    refine (if_neg (Option.not_isSome_iff_eq_none.2 haccess)).trans ((if_neg hgood).trans ?_)
    rw [hpages]
    rfl
  case unproject =>
    intro s p hacc hk hused htenant hfree
    refine command_done (b := 0) hacc ((if_neg (not_lt.2 hk)).trans ((if_neg (not_bnot hused)).trans ?_)) rfl
    exact (if_neg (State.isTenant_guard htenant)).trans (if_neg (ne_true_of_eq_false hfree))
  case tracks =>
    intro s p x hengine hk hok haccess k y
    refine ⟨?_, ?_⟩
    · intro hacc hf hn1 hn htenant hnew hroom
      have hrange : ¬ (7 < k ∨ 15 < p.u8 13 ∨ (!within 1 2048 (p.u16 14)) = true) :=
        not_or.2 ⟨not_lt.2 hk, not_or.2 ⟨not_lt.2 hf, within_guard hn1 hn⟩⟩
      refine command_done (b := 0) hacc ((if_neg hrange).trans ((if_neg (ne_true_of_eq_false hengine)).trans ?_)) rfl
      refine (if_neg (State.isTenant_guard htenant)).trans ((if_neg (not_lt.2 hnew.le)).trans ((if_neg (not_lt.2 hroom)).trans ?_))
      exact (if_neg (Option.not_isSome_iff_eq_none.2 haccess)).trans (if_neg (not_bnot hok))
    · intro hacc hused htenant
      refine command_later hacc ((if_neg (not_lt.2 hk)).trans ((if_neg (ne_true_of_eq_false hengine)).trans ((if_neg hused).trans ?_)))
      refine (if_neg (State.isTenant_guard htenant)).trans ?_
      exact (if_neg (Option.not_isSome_iff_eq_none.2 haccess)).trans (if_neg (not_bnot hok))
  case untrack =>
    intro s p hacc hk y hused htenant hfree hstaged
    refine command_done (b := 0) hacc ((if_neg (not_lt.2 hk)).trans ((if_neg hused).trans ?_)) rfl
    refine (if_neg (State.isTenant_guard htenant)).trans ((if_neg (ne_true_of_eq_false hfree)).trans ?_)
    rw [endTrackSet, State.taken_trackSet, show (s.trackSet (p.u8 12)).staged = [] from hstaged]
    rfl
  case lattice =>
    intro s p m t more hacc hengine hk hf hkind x f n bytes htenant haccess hidle hlattice hpages
    have hcopy : ¬ (decide (p.u8 14 = 1) = true ∧ ((s.taken p).accessFault p.ring (p.u64 16) n false).isSome = true) :=
      access_guard fun h => haccess (of_decide_eq_true h)
    refine command_done (b := 0) hacc ((if_neg (by omega)).trans ((if_neg (ne_true_of_eq_false hengine)).trans ?_)) rfl
    refine (if_neg (State.isTenant_guard htenant)).trans ((if_neg hcopy).trans ?_)
    refine (if_neg (Option.not_isSome_iff_eq_none.2 hidle)).trans ?_
    dsimp only
    rw [show latticeOf ((s.taken p).getBytes (s.ticketOf p 0x0508).ctx (decide (p.u8 14 = 1)) (p.u64 16) (p.u32 24)) = some m
      from hlattice]
    dsimp only
    rw [show objectPages (if ((s.taken p).lattice (p.u8 12)).used = true then ((s.taken p).lattice (p.u8 12)).flask else p.u8 13)
      (2 * ((max (p.u32 24) ((s.taken p).lattice (p.u8 12)).active.length + 65535) / 65536)
        - ((s.taken p).lattice (p.u8 12)).pages.length) (s.taken p) = .ok (t, more) from hpages]
    rfl
  case switchLattice =>
    intro s p hacc hengine hk x hused htenant hidle
    refine command_later hacc ((if_neg (not_lt.2 hk)).trans ((if_neg (ne_true_of_eq_false hengine)).trans ?_))
    refine (if_neg (not_bnot hused)).trans ((if_neg (State.isTenant_guard htenant)).trans ?_)
    exact if_neg (Option.not_isSome_iff_eq_none.2 hidle)
  case query =>
    intro s p f hacc hflask i words
    have hmine : ¬ ((s.taken p).senderFlask (s.ticketOf p 0x050A)).isNone = true := by rw [hflask]; exact Bool.false_ne_true
    refine ⟨fun hkind => ?_, fun hkind hi hused => ?_, fun hkind hi => ?_⟩
    · exact command_done (b := 0) hacc ((if_neg (by omega)).trans ((if_neg hmine).trans (if_pos hkind))) rfl
    · refine command_done (b := 0) hacc ((if_neg (by omega)).trans ((if_neg hmine).trans ((if_neg (by omega)).trans ?_))) rfl
      exact (if_pos hkind).trans (if_neg hused)
    · refine command_done (b := 0) hacc ((if_neg (by omega)).trans ((if_neg hmine).trans ((if_neg (by omega)).trans ?_))) rfl
      exact if_neg (by omega)

end Sys2Proof.Machine

/-!
PROOFS. Spatial operations (spec 13_fusion_tracking_planning.md, Frames and the ego pose, Tracks, Search, Projection onto the grid).
-/

namespace Sys2Proof.Machine

/-- Settles O46: with its entry found, each operation's checks let it write its result. -/
theorem spatialOperations : Obligations.SpatialOperations := by
  refine ⟨?pose, ?align, ?track, ?cost, ?octree, ?plan, ?lift⟩
  case pose =>
    intro s q k x r en hen hx p
    have hexec : exec (.posePush q k x) s = execPosePush q k x s := rfl
    rw [hexec, execPosePush, hen]
    refine ⟨fun hnew => (if_neg (not_lt.2 hx)).trans ?_, fun e hego hold => (if_neg (not_lt.2 hx)).trans ?_⟩
    · rcases hnew with hego | ⟨e, hego, hlater⟩
      · rw [hego]
        rfl
      · rw [hego]
        dsimp only
        rw [decide_eq_true hlater]
        rfl
    · rw [hego]
      dsimp only
      rw [decide_eq_false (not_lt.2 hold)]
      rfl
  case align =>
    intro s q k slot r en hen c a d o m x ref epoch flags n hslot hkind hhere hmember base pts t0 t1
    have hgood : ¬ (m.kind ≠ 3 ∨ 63 < slot) := not_or.2 ⟨not_not.2 hkind, not_lt.2 hslot⟩
    have hpresent : ¬ (bitAt flags 0 || !bitAt (s.vnum c (d + 24) 4) x.member) = true := by simp [hhere, hmember]
    have hexec : exec (.alignPoints q k slot) s = execAlignPoints q k slot s := rfl
    rw [hexec, execAlignPoints, hen]
    refine ⟨fun p0 p1 pt h0 h1 ht => ?_, fun ht => ?_⟩
    · refine (if_neg hgood).trans ((if_neg hpresent).trans ?_)
      dsimp only
      rw [show s.poseAt _ = _ from h0, show s.poseAt _ = _ from h1, show s.poseAt _ = _ from ht]
      rfl
    · refine (if_neg hgood).trans ((if_neg hpresent).trans ?_)
      dsimp only
      split
      next ht' => exact absurd (ht.symm.trans ht') nofun
      next =>
        simp only [c, o, n, a, d, flags, epoch]
        rfl
  case track =>
    intro s q k set most r en hen x c a d hused hflask hm1 hm ds ref flags o hoos hlast haligned
    have hgo : ¬ (x.capacity = 0 ∨ x.flask ≠ r.flask ∨ (!within 1 4096 most) = true) :=
      not_or.2 ⟨hused, not_or.2 ⟨not_not.2 hflask, within_guard hm1 hm⟩⟩
    have hexec : exec (.trackUpdate q k set most) s = execTrackUpdate q k set most s := rfl
    rw [hexec, execTrackUpdate, hen]
    refine (if_neg hgo).trans ?_
    refine congrArg (fun u => next (noteOwn 5 q k _ u)) ((if_neg (ne_true_of_eq_false haligned)).trans (if_neg ?_))
    rw [Bool.or_eq_true, not_or]
    refine ⟨fun h => of_decide_eq_true h hoos, ?_⟩
    split
    next t hl => exact fun h => not_le.2 (hlast t hl) (of_decide_eq_true h)
    next => exact Bool.false_ne_true
  case cost =>
    intro s q k m r en hen hok
    have hexec : exec (.costmapBuild q k m) s = execCostmapBuild q k m s := rfl
    rw [hexec, execCostmapBuild, hen]
    exact if_neg (not_bnot hok)
  case octree =>
    intro s q k m r en hen
    have hexec : exec (.octreeBuild q k m) s = execOctreeBuild q k m s := rfl
    dsimp only
    rw [hexec, execOctreeBuild, hen]
    dsimp only
    rfl
  case plan =>
    intro s q k m l r en hen hlattice hflask hp1 hp heps y
    have hgo : ¬ ((s.lattice m.lattice).flask ≠ r.flask ∨ (!within 1 4 m.passes) = true ∨ m.eps.length < m.passes) :=
      not_or.2 ⟨not_not.2 hflask, not_or.2 ⟨within_guard hp1 hp, not_lt.2 heps⟩⟩
    have hexec : exec (.plan q k m) s = execPlan q k m s := rfl
    rw [hexec, execPlan, hen]
    dsimp only
    rw [hlattice]
    refine ⟨fun p hpose => (if_neg hgo).trans ?_, fun hpose => (if_neg hgo).trans ?_⟩
    · rw [hpose]
      simp only [y]
      rfl
    · rw [hpose]
      rfl
  case lift =>
    intro s q k core table chans pitch ts r en copy hen hcopy hused hflask hc1 hc
    have hgo : ¬ ((!(s.projection table).used) = true ∨ (s.projection table).flask ≠ r.flask ∨ (!within 1 4096 chans) = true) :=
      not_or.2 ⟨not_bnot hused, not_or.2 ⟨not_not.2 hflask, within_guard hc1 hc⟩⟩
    have hexec : exec (.bevLift q k core table chans pitch ts) s = execBevLift q k core table chans pitch ts s := rfl
    rw [hexec, execBevLift, hen]
    dsimp only
    rw [hcopy]
    exact if_neg hgo

end Sys2Proof.Machine

/-!
PROOFS. Loop commands (spec 14_control_and_solver.md, Commands, Loop channels, Trip inputs).
-/

namespace Sys2Proof.Machine

/-- A tenant of a flask has a flask. -/
theorem State.flaskOfCtx_isSome {s : State} {c f : Nat} (hf : f ≤ 15) (h : c ∈ (s.flask f).tenants) : (s.flaskOfCtx c).isSome = true := by
  rw [State.flaskOfCtx, List.find?_isSome]
  exact ⟨f, List.mem_range.2 (Nat.lt_succ_of_le hf), by simpa using h⟩

/-- The guard of a command that only tenants send lets a tenant pass. -/
theorem State.senderFlask_guard {s : State} {p : Packet} {op f : Nat} (hf : f ≤ 15) (h : p.ring ∈ (s.flask f).tenants) :
    ¬ ((s.taken p).senderFlask (s.ticketOf p op)).isNone = true := by
  have hsome : ((s.taken p).senderFlask (s.ticketOf p op)).isSome = true := State.flaskOfCtx_isSome hf h
  simpa [Option.isSome_iff_ne_none] using hsome

/-- Of a configured object of the sender's flask the control commands' common check finds nothing. -/
theorem State.controlCheck_of_tenant {s : State} {p : Packet} {op f : Nat} {known : Bool} (hknown : known = true) (hf : f ≤ 15)
    (h : p.ring ∈ (s.flask f).tenants) : (s.taken p).controlCheck (s.ticketOf p op) known f = none := by
  have hmine : ¬ (!known || !s.isTenant (s.ticketOf p op) f) = true := by
    rw [Bool.or_eq_true, not_or]
    exact ⟨not_bnot hknown, State.isTenant_guard h⟩
  exact (if_neg (State.senderFlask_guard hf h)).trans (if_neg hmine)

theorem dropPending_of_none {s : State} {k d : Nat} (h : (s.loop k).pending = none) : dropPending k d s = s := by
  rw [dropPending, h]

/-- Settles O47: each command's guards let the packet pass, and its effect is the one stated. -/
theorem loopCommands : Obligations.LoopCommands := by
  refine ⟨?configure, ?ofChannel, ?ofEngine⟩
  case configure =>
    intro s p hacc hengine hk k c b r secs
    refine ⟨?on, ?off⟩
    case on =>
      intro hon hoff hmine haccess hrec hf htenant haccess2 hsecs hffA hffB hrate htripA htripB
      have hknown : ¬ (decide (c.cascade ≠ []) = true ∧ (!s.isTenant (s.ticketOf p 0x0601) c.record.flask) = true) :=
        fun ⟨hcascade, hno⟩ => State.isTenant_guard (hmine (of_decide_eq_true hcascade)) hno
      have htables : ¬ ((!s.tableFor r.flask r.ffA) = true ∨ (!s.tableFor r.flask r.ffB) = true) :=
        not_or.2 ⟨not_bnot hffA, not_bnot hffB⟩
      refine command_done (b := 0) hacc ((if_neg (by omega)).trans ((if_neg (ne_true_of_eq_false hengine)).trans ?_)) rfl
      refine (if_neg (State.senderFlask_guard hf htenant)).trans ((if_neg hknown).trans ((if_neg (by omega)).trans ?_))
      refine (if_neg (not_not.2 hoff)).trans ((if_neg (Option.not_isSome_iff_eq_none.2 haccess)).trans ?_)
      refine (if_neg (not_bnot hrec)).trans ((if_neg (State.isTenant_guard htenant)).trans ?_)
      refine (if_neg (Option.not_isSome_iff_eq_none.2 haccess2)).trans ((if_neg (not_bnot hsecs)).trans ?_)
      refine (if_neg htables).trans ((if_neg (not_bnot hrate)).trans ?_)
      dsimp only
      rw [show (if (s.taken p).lines.tripA = true then tripBy 0 (s.taken p) else s.taken p) = s.taken p from
        if_neg (ne_true_of_eq_false htripA), show (if (s.taken p).lines.tripB = true then tripBy 1 (s.taken p) else s.taken p) = s.taken p
        from if_neg (ne_true_of_eq_false htripB)]
      rfl
    case off =>
      intro hoff hcascade hf htenant hstate hidle
      have hknown : ¬ (decide (c.cascade ≠ []) = true ∧ (!s.isTenant (s.ticketOf p 0x0601) c.record.flask) = true) :=
        fun h => State.isTenant_guard htenant h.2
      refine command_done (b := 0) hacc ((if_neg (by omega)).trans ((if_neg (ne_true_of_eq_false hengine)).trans ?_)) rfl
      refine (if_neg (State.senderFlask_guard hf htenant)).trans ((if_neg hknown).trans ((if_pos hoff).trans ?_))
      refine (if_neg (not_bnot (decide_eq_true hcascade))).trans ((if_neg hstate).trans ?_)
      rw [dropPending_of_none (s := s.taken p) hidle]
      rfl
  case ofChannel =>
    intro s p hengine hk k c hcascade hf htenant
    have hcheck (op : Nat) : (s.taken p).controlCheck (s.ticketOf p op) (decide (((s.taken p).loop (p.u8 12)).cascade ≠ []))
        ((s.taken p).loop (p.u8 12)).record.flask = none :=
      State.controlCheck_of_tenant (decide_eq_true hcascade) hf htenant
    refine ⟨?coeff, ?open_, ?close, ?manual, ?query⟩
    case coeff =>
      intro hacc hn1 hn hstate hstaged haccess hrate secs hsecs
      have hrange : ¬ (127 < k ∨ (!within 1 8 (p.u8 13)) = true) := not_or.2 ⟨not_lt.2 hk, within_guard hn1 hn⟩
      have hfits : ¬ (c.state ≠ .off ∧ (!s.rateFits k (p.u8 13) c.record.periodNs) = true) := fun h => not_bnot (hrate h.1) h.2
      refine command_later hacc ((if_neg hrange).trans ((if_neg (ne_true_of_eq_false hengine)).trans ?_))
      rw [hcheck]
      refine (if_neg hstate).trans ((if_neg (Option.not_isSome_iff_eq_none.2 haccess)).trans ?_)
      refine (if_neg (not_bnot hsecs)).trans ((if_neg hfits).trans ?_)
      rw [show ((s.taken p).loop (p.u8 12)).staged = none from hstaged]
      rfl
    case open_ =>
      intro hacc
      refine ⟨fun hfaulted => ?_, fun hauto hidle => ?_⟩
      · refine command_done (b := 0) hacc ((if_neg (not_lt.2 hk)).trans ((if_neg (ne_true_of_eq_false hengine)).trans ?_)) rfl
        rw [hcheck]
        exact if_pos hfaulted
      · have hbad : ¬ (c.state ≠ .auto ∨ c.pending.isSome = true) :=
          not_or.2 ⟨not_not.2 hauto, Option.not_isSome_iff_eq_none.2 hidle⟩
        refine command_later hacc ((if_neg (not_lt.2 hk)).trans ((if_neg (ne_true_of_eq_false hengine)).trans ?_))
        rw [hcheck]
        exact (if_neg (by rw [show ((s.taken p).loop (p.u8 12)).state = .auto from hauto]; exact LoopState.noConfusion)).trans (if_neg hbad)
    case close =>
      intro hacc hidle
      have hpending : ¬ c.pending.isSome = true := Option.not_isSome_iff_eq_none.2 hidle
      refine ⟨fun hmode hstate => ?_, fun hmode hstate => ?_⟩
      · have hmay : ¬ (!if p.u8 13 = 1 then decide (c.state = .manual ∨ c.state = .opened)
            else decide (c.state = .auto ∨ c.state = .opened)) = true := by
          rw [if_pos hmode]
          exact not_bnot (decide_eq_true hstate)
        refine command_later hacc ((if_neg (by omega)).trans ((if_neg (ne_true_of_eq_false hengine)).trans ?_))
        rw [hcheck]
        refine (if_neg (not_or.2 ⟨hmay, hpending⟩)).trans ?_
        rw [if_pos hmode]
        rfl
      · have hother : ¬ p.u8 13 = 1 := by omega
        have hmay : ¬ (!if p.u8 13 = 1 then decide (c.state = .manual ∨ c.state = .opened)
            else decide (c.state = .auto ∨ c.state = .opened)) = true := by
          rw [if_neg hother]
          exact not_bnot (decide_eq_true hstate)
        refine command_later hacc ((if_neg (by omega)).trans ((if_neg (ne_true_of_eq_false hengine)).trans ?_))
        rw [hcheck]
        refine (if_neg (not_or.2 ⟨hmay, hpending⟩)).trans ?_
        rw [if_neg hother]
        rfl
    case manual =>
      intro hacc
      refine command_done (b := 0) hacc ((if_neg (not_lt.2 hk)).trans ((if_neg (ne_true_of_eq_false hengine)).trans ?_)) rfl
      rw [hcheck]
      rfl
    case query =>
      intro hacc
      refine command_done (b := 0) hacc ((if_neg (not_lt.2 hk)).trans ?_) rfl
      rw [hcheck]
      rfl
  case ofEngine =>
    intro s p hengine
    have hhere := ne_true_of_eq_false hengine
    refine ⟨fun hacc hk hvalid => ?_, fun hacc => ?_, fun hacc htripA htripB hsafe => ?_⟩
    · exact command_done (b := 0) hacc ((if_neg (by omega)).trans (if_neg hhere)) rfl
    · exact command_done (b := 0) hacc (if_neg hhere) rfl
    · have hmay : ¬ (s.lines.tripA = true ∨ s.lines.tripB = true ∨ s.safe.safeState = true) := by simp [htripA, htripB, hsafe]
      exact command_done (b := 0) hacc ((if_neg hhere).trans (if_neg hmay)) rfl

end Sys2Proof.Machine

/-!
PROOFS. Maps, gates, frames, tables, traces and resident problems (spec 14_control_and_solver.md, Signals and frames, Friction and
cogging tables, Trace buffers, The Solver).
-/

namespace Sys2Proof.Machine

/-- Settles O48: each command's guards let the packet pass; each event finds what it acts on. -/
theorem mapsTablesTracesProblems : Obligations.MapsTablesTracesProblems := by
  refine ⟨?maps, ?gates, ?cycle, ?receive, ?transmit, ?table, ?switch, ?arm, ?read, ?create, ?factor, ?ofProblem⟩
  case maps =>
    intro s p tx hacc hengine hdir first n raw hroom haccess hok
    have htx : decide (p.u8 12 = 1) = tx := by rw [hdir]; cases tx <;> rfl
    have hdir1 : ¬ 1 < p.u8 12 := by rw [hdir]; split <;> decide
    have hall : raw.all (fun (x : List Byte × List Byte) => (s.taken p).mapOk tx x.1 x.2) = true := List.all_eq_true.2 hok
    refine command_done (b := 0) hacc ?_ rfl
    dsimp only
    rw [htx]
    refine (if_neg hdir1).trans ((if_neg (ne_true_of_eq_false hengine)).trans ((if_neg (not_lt.2 hroom)).trans ?_))
    exact (if_neg (Option.not_isSome_iff_eq_none.2 haccess)).trans (if_neg (not_bnot hall))
  case gates =>
    intro s p gates hacc hengine hk haccess hlength hok hnone
    refine command_later hacc ((if_neg (not_lt.2 hk)).trans ((if_neg (ne_true_of_eq_false hengine)).trans ?_))
    refine (if_neg (Option.not_isSome_iff_eq_none.2 haccess)).trans ((if_neg (not_or.2 ⟨not_not.2 hlength, not_bnot hok⟩)).trans ?_)
    dsimp only
    rw [show ((s.taken p).port (p.u8 12)).stagedGates = none from hnone]
    rfl
  case cycle =>
    intro s k since gates t hstaged cycle
    show execGateCycleStart k s = _
    rw [execGateCycleStart, hstaged]
    rfl
  case receive =>
    intro s medium port vlan id mac time n payload m f hup hrun hengine hmaps hfields hmedium hport hid hvlan hfits
    have hlive : decide ((medium = 0 ∨ (s.port (ethPort medium port)).up = true) ∧ s.lines.run = .running
        ∧ (!s.engineGone 6) = true) = true :=
      decide_eq_true ⟨hup, hrun, by rw [hengine]; rfl⟩
    have hhit : (decide (m.medium = medium ∧ m.port = port ∧ m.id = id)
        && (decide (medium = 0) || decide (m.vlan % 4096 = vlan % 4096 ∧ m.mac = mac))) = true := by
      rw [decide_eq_true ⟨hmedium, hport, hid⟩, Bool.true_and, Bool.or_eq_true]
      exact hvlan.imp decide_eq_true decide_eq_true
    refine (if_neg (not_bnot hlive)).trans ?_
    rw [hmaps]
    refine congrArg next ?_
    rw [List.foldl_cons, List.foldl_nil, hfields]
    exact if_pos ⟨hhit, hfits⟩
  case transmit =>
    intro s n q m hq hm hlets
    show execTransmitFrameSent n s = _
    rw [execTransmitFrameSent, hq, hm]
    exact if_neg (not_bnot hlets)
  case table =>
    intro s p hacc hengine k f x b sw hk hf hswitch htenant hmine hfree hidle haccess hok
    refine command_done (b := 0) hacc ((if_neg (by omega)).trans ((if_neg (ne_true_of_eq_false hengine)).trans ?_)) rfl
    refine (if_neg (State.isTenant_guard htenant)).trans ((if_neg fun h => h.2 (hmine h.1)).trans ?_)
    refine (if_neg (ne_true_of_eq_false hfree)).trans ((if_neg (Option.not_isSome_iff_eq_none.2 hidle)).trans ?_)
    exact (if_neg (Option.not_isSome_iff_eq_none.2 haccess)).trans (if_neg (not_bnot hok))
  case switch =>
    intro s k n hswitch
    show execFfTableSwitch k s = _
    rw [execFfTableSwitch, hswitch]
    rfl
  case arm =>
    intro s p f hacc hengine hk hf htenant k x b c hmine
    have hused : ¬ (decide (x.state ≠ 0) = true ∧ (!s.isTenant (s.ticketOf p 0x060C) x.flask) = true) := fun ⟨hx, hno⟩ => by
      rw [hmine (of_decide_eq_true hx)] at hno
      exact State.isTenant_guard htenant hno
    have hknown := State.senderFlask_guard (s := s) (op := 0x060C) hf htenant
    refine ⟨fun haction haccess hok hcascade hflask => ?_, fun haction hstate htrigger => ?_, fun haction hstate => ?_⟩
    · have hloop : ¬ (c.cascade = [] ∨ (!s.isTenant (s.ticketOf p 0x060C) c.record.flask) = true) := by
        rw [hflask]
        exact not_or.2 ⟨hcascade, State.isTenant_guard htenant⟩
      refine command_done (b := 0) hacc ((if_neg (by omega)).trans ((if_neg (ne_true_of_eq_false hengine)).trans ?_)) rfl
      refine (if_neg hknown).trans ((if_neg hused).trans ((if_pos haction).trans ?_))
      refine (if_neg (Option.not_isSome_iff_eq_none.2 haccess)).trans ((if_neg (not_bnot hok)).trans ((if_neg hloop).trans ?_))
      rw [show ((s.taken p).loop (numAt ((s.taken p).vread (s.ticketOf p 0x060C).ctx (p.u64 16) 16) 0 1)).record.flask = f from hflask]
      rfl
    · refine command_done (b := 0) hacc ((if_neg (by omega)).trans ((if_neg (ne_true_of_eq_false hengine)).trans ?_)) rfl
      refine (if_neg hknown).trans ((if_neg hused).trans ((if_neg (by omega)).trans ((if_neg ?_).trans ((if_pos haction).trans ?_))))
      · exact not_bnot (decide_eq_true fun h0 : x.state = 0 => by omega)
      · exact congrArg (ok ·) (if_pos ⟨hstate, htrigger⟩)
    · refine command_done (b := 0) hacc ((if_neg (by omega)).trans ((if_neg (ne_true_of_eq_false hengine)).trans ?_)) rfl
      refine (if_neg hknown).trans ((if_neg hused).trans ((if_neg (by omega)).trans ((if_neg ?_).trans ((if_neg (by omega)).trans ?_))))
      · exact not_bnot (decide_eq_true fun h0 : x.state = 0 => by omega)
      · exact congrArg (ok ·) (if_pos hstate)
  case read =>
    intro s p hacc hengine hk x bytes hf htenant hstate
    have hused : decide (x.state ≠ 0) = true := decide_eq_true (by rw [hstate]; decide)
    refine command_done (b := 0) hacc ((if_neg (not_lt.2 hk)).trans ((if_neg (ne_true_of_eq_false hengine)).trans ?_)) rfl
    rw [show (s.taken p).controlCheck (s.ticketOf p 0x060D) (decide (((s.taken p).traceCh (p.u8 12)).state ≠ 0))
      ((s.taken p).traceCh (p.u8 12)).flask = none from State.controlCheck_of_tenant hused hf htenant]
    exact if_neg (not_not.2 hstate)
  case create =>
    intro s p d hacc hengine k f cols nnz hk hf htenant hnew hticket haccess hok hroom
    have hfree : ¬ ((s.qp k).created = true ∨ (s.qp k).ticket.isSome = true) :=
      not_or.2 ⟨ne_true_of_eq_false hnew, Option.not_isSome_iff_eq_none.2 hticket⟩
    refine command_later hacc ((if_neg (by omega)).trans ((if_neg (ne_true_of_eq_false hengine)).trans ?_))
    refine (if_neg (State.isTenant_guard htenant)).trans ((if_neg hfree).trans ?_)
    refine (if_neg (Option.not_isSome_iff_eq_none.2 haccess)).trans ((if_neg (not_bnot hok)).trans ?_)
    exact if_neg (not_lt.2 hroom)
  case factor =>
    intro s k t hticket x
    show execQpSymbolicFactorComplete k s = _
    rw [execQpSymbolicFactorComplete, hticket]
    rfl
  case ofProblem =>
    intro s p hk k x hcreated hf htenant
    have hcheck (op : Nat) : (s.taken p).controlCheck (s.ticketOf p op) ((s.taken p).qp (p.u8 12)).created
        ((s.taken p).qp (p.u8 12)).flask = none :=
      State.controlCheck_of_tenant hcreated hf htenant
    refine ⟨fun hacc hengine hfree => ?_, fun hacc => ?_⟩
    · refine command_done (b := 0) hacc ((if_neg (not_lt.2 hk)).trans ((if_neg (ne_true_of_eq_false hengine)).trans ?_)) rfl
      rw [hcheck]
      exact if_neg (ne_true_of_eq_false hfree)
    · refine command_done (b := 0) hacc ((if_neg (not_lt.2 hk)).trans ?_) rfl
      rw [hcheck]
      rfl

end Sys2Proof.Machine

/-!
PROOFS. Loop samples and outputs, PUBLISH_TRAJ, QP_UPDATE and QP_SOLVE (spec 14_control_and_solver.md, Loop channels, The Solver).
-/

namespace Sys2Proof.Machine

/-- With no coefficients staged a channel has none to take. -/
theorem takeStaged_of_none {s : State} {k at_ : Nat} (h : (s.loop k).staged = none) : takeStaged k at_ s = s := by
  rw [takeStaged, h]

/-- With no change pending a channel samples as it stands. -/
theorem takePending_of_none {c : LoopCh} {at_ : Nat} (h : c.pending = none) : takePending c at_ = (c, none, none) := by
  rw [takePending, h]

/-- Settles O49: each sample, output and operation finds nothing that holds it back. -/
theorem loopAndSolverOperations : Obligations.LoopAndSolverOperations := by
  refine ⟨?sample, ?output, ?publish, ?update, ?solve⟩
  case sample =>
    intro s k c0 n t c hcascade hdue hstate hsp hstaged hpending c1 hfault
    have hgo : ¬ (c0.cascade = [] ∨ c0.due.isSome = true) := not_or.2 ⟨hcascade, Option.not_isSome_iff_eq_none.2 hdue⟩
    refine (if_neg hgo).trans ((if_neg fun h => hsp h.2.1).trans ?_)
    rw [takeStaged_of_none (s := advance _ s) hstaged]
    refine (if_neg hstate).trans ?_
    have hplain : takePending c n = (c, none, none) := takePending_of_none hpending
    rw [show takePending { (advance (instantOf (s.loop k).record.periodNs (s.loop k).lastSample s.now) s).loop k with
      lastSample := instantOf (s.loop k).record.periodNs (s.loop k).lastSample s.now }
      (instantOf (s.loop k).record.periodNs (s.loop k).lastSample s.now) = (c, none, none) from hplain]
    exact congrArg next (if_neg hfault)
  case output =>
    intro s k n gen hdue hstate c out t a
    show execLoopOutputInstant k s = _
    rw [execLoopOutputInstant, hdue]
    exact if_neg hstate
  case publish =>
    intro s q k slot r en hen hslot a h n cols hdt1 hdt hn1 hn hc1 hc hzero o x t
    have hgood : ¬ ((!within 1000 1000000000 (numAt h 8 4)) = true ∨ (!within 2 4096 n) = true ∨ (!within 1 64 cols) = true
        ∨ (!zerosAt h 16 16) = true) :=
      not_or.2 ⟨within_guard hdt1 hdt, not_or.2 ⟨within_guard hn1 hn, not_or.2 ⟨within_guard hc1 hc, not_bnot hzero⟩⟩⟩
    have hexec : exec (.publishTraj q k slot) s = execPublishTraj q k slot s := rfl
    rw [hexec, execPublishTraj, hen]
    exact ⟨fun hpaced => (if_neg (not_lt.2 hslot)).trans ((if_neg hgood).trans (if_pos hpaced)),
      fun hfree => (if_neg (not_lt.2 hslot)).trans ((if_neg hgood).trans (if_neg hfree))⟩
  case update =>
    intro s q k n r en hen x a o m hcreated hflask
    have hgo : ¬ ((!x.created) = true ∨ x.flask ≠ r.flask) := not_or.2 ⟨not_bnot hcreated, not_not.2 hflask⟩
    have hexec : exec (.qpUpdate q k n) s = execQpUpdate q k n s := rfl
    rw [hexec, execQpUpdate, hen]
    refine ⟨fun hgone => (if_neg hgo).trans (if_pos ?_), fun l hhere hsources hm1 hm hchanges => (if_neg hgo).trans ((if_neg ?_).trans ?_)⟩
    · rw [Bool.or_eq_true, List.any_map, List.any_eq_true]
      exact hgone
    · rw [Bool.or_eq_true, not_or, List.any_map, List.any_eq_true]
      exact ⟨ne_true_of_eq_false hhere, fun ⟨y, hy, hmissing⟩ => ne_true_of_eq_false (hsources y hy) hmissing⟩
    · have hwithin : within 1 65536 m = true := decide_eq_true ⟨hm1, hm⟩
      dsimp only
      rw [show within 1 65536 (s.vnum r.ctx (en.tensors.getD 0 0) 4) = true from hwithin, if_pos rfl, if_pos rfl]
      rw [show (s.qp n).changes _ _ = some l from hchanges]
      rfl
  case solve =>
    intro s q k n stop r en hen hcreated hflask o
    have hexec : exec (.qpSolve q k n stop) s = execQpSolve q k n stop s := rfl
    rw [hexec, execQpSolve, hen]
    exact if_neg (not_or.2 ⟨not_bnot hcreated, not_not.2 hflask⟩)

end Sys2Proof.Machine

/-!
PROOFS. Truss commands (spec 15_determinism_pacing.md, Commands and codes, Forming a truss, Registers).
-/

namespace Sys2Proof.Machine

/-- The guard of a command that names a member lets a joined one pass. -/
theorem State.joined_guard {s : State} {m : Nat} (h : m ∈ s.joined) : ¬ (!s.joined.contains m) = true :=
  not_bnot (List.elem_eq_true_of_mem h)

theorem not_isNone_of_ne_none {α : Type*} {o : Option α} (h : o ≠ none) : ¬ o.isNone = true :=
  fun hnone => h (Option.isNone_iff_eq_none.1 hnone)

/-- Settles O50: each command's guards let the packet pass, and its effect is the one stated. -/
theorem trussCommands : Obligations.TrussCommands := by
  refine ⟨?set, ?query, ?pair, ?leave, ?aperture, ?copy, ?clear⟩
  case set =>
    intro s p hacc hm hen hch hzero hid halone
    exact command_done (b := 0) hacc ((if_neg (by omega)).trans (if_neg (not_not.2 halone))) rfl
  case query =>
    intro s p hacc t m
    refine ⟨fun hme => ?_, fun hm hjoined => ?_⟩
    · exact command_done (b := 0) hacc (if_pos hme) rfl
    · refine command_done (b := 0) hacc ((if_neg (by omega)).trans ((if_neg (not_lt.2 hm)).trans ?_)) rfl
      exact if_neg (State.joined_guard hjoined)
  case pair =>
    intro s p hacc m mask tk hm hother hmask hzero hpartner hpairing hjoined hcomparable
    have hidle : ¬ (s.truss.partner.isSome = true ∨ s.truss.pairing.isSome = true) :=
      not_or.2 ⟨Option.not_isSome_iff_eq_none.2 hpartner, Option.not_isSome_iff_eq_none.2 hpairing⟩
    have hall : ((flaskNums.filter (bitAt mask)).all s.comparable) = true :=
      List.all_eq_true.2 fun f hf => hcomparable f (List.mem_filter.1 hf).1 (List.mem_filter.1 hf).2
    have hrange : ¬ (3 < m ∨ m = s.truss.me ∨ mask = 0 ∨ p.u8 13 ≠ 0) :=
      not_or.2 ⟨not_lt.2 hm, not_or.2 ⟨hother, not_or.2 ⟨hmask, not_not.2 hzero⟩⟩⟩
    refine then_later hacc ((if_neg hrange).trans ((if_neg hidle).trans ?_))
    exact (if_neg (State.joined_guard hjoined)).trans (if_neg (not_bnot hall))
  case leave =>
    intro s p
    refine ⟨fun hacc hpaired => ?_, fun hacc => ⟨fun hnone => ?_, fun htruss => ?_⟩, fun hacc => ?_⟩
    · exact command_done (b := 0) hacc (if_neg (not_isNone_of_ne_none hpaired)) rfl
    · exact command_done (b := 0) hacc (if_pos hnone) rfl
    · exact command_done (b := 0) hacc (if_neg htruss) rfl
    · exact command_done (b := 0) hacc rfl rfl
  case aperture =>
    intro s p f hacc hflask k o n hk hmembers hzero hmine
    have hrange : ¬ (63 < k ∨ 15 < p.u8 13 ∨ p.u16 22 ≠ 0) := 
      not_or.2 ⟨not_lt.2 hk, not_or.2 ⟨not_lt.2 hmembers, not_not.2 hzero⟩⟩
    refine ⟨fun hclose => ?_, fun hopen ho hkind hholder hrangeOk => ?_⟩
    · refine command_done (b := 0) hacc ?_ rfl
      rw [show (s.taken p).senderFlask (s.ticketOf p 0x0A10) = some f from hflask]
      exact (if_neg hrange).trans ((if_neg fun h => h.2 (hmine h.1)).trans (if_pos hclose))
    · refine command_done (b := 0) hacc ?_ rfl
      rw [show (s.taken p).senderFlask (s.ticketOf p 0x0A10) = some f from hflask]
      refine (if_neg hrange).trans ((if_neg fun h => h.2 (hmine h.1)).trans ((if_neg hopen).trans (if_neg ?_)))
      exact not_or.2 ⟨not_le.2 ho, not_or.2 ⟨not_not.2 hkind, not_or.2 ⟨not_not.2 hholder, not_bnot hrangeOk⟩⟩⟩
  case copy =>
    intro s p f hacc hflask hm hk hzero hzero2 hjoined hrangeOk
    have hrange : ¬ (3 < p.u8 12 ∨ 63 < p.u8 13 ∨ p.u16 14 ≠ 0 ∨ p.u16 22 ≠ 0) := by omega
    have hgood (a : CopyEnd) (ha : a ≠ .refused) :
        ¬ ((!(s.taken p).rangeOk p.ring (p.u48 16) (p.u64 24) false) = true ∨ a = .refused) :=
      not_or.2 ⟨not_bnot hrangeOk, ha⟩
    refine ⟨command_done (b := 0) hacc ?_ rfl, command_done (b := 0x0A) hacc ?_ rfl⟩
    · rw [show (s.taken p).senderFlask (s.ticketOf p 0x0A11) = some f from hflask]
      exact (if_neg hrange).trans ((if_neg (State.joined_guard hjoined)).trans (if_neg (hgood .written CopyEnd.noConfusion)))
    · rw [show (s.taken p).senderFlask (s.ticketOf p 0x0A11) = some f from hflask]
      exact (if_neg hrange).trans ((if_neg (State.joined_guard hjoined)).trans (if_neg (hgood .lost CopyEnd.noConfusion)))
  case clear => exact fun s v hserved => if_pos hserved

end Sys2Proof.Machine

/-!
PROOFS. Truss events (spec 15_determinism_pacing.md, Forming a truss, Lock-step comparison, Pace stretching, AetheoLink ports,
Copies between members).
-/

namespace Sys2Proof.Machine

theorem putStretch_id (n : Nat) (s : State) : (putStretch n s).truss.id = s.truss.id := by
  unfold putStretch
  split <;> rfl

theorem putStretch_flaskStretch (n : Nat) (s : State) : (putStretch n s).truss.flaskStretch = s.truss.flaskStretch := by
  unfold putStretch
  split <;> rfl

/-- A stretch that one flask alone waits for takes effect at the boundary that is due. -/
theorem stretchBoundary_of_single {s : State} {f b : Nat} {w : StretchWait} (hlast : (s.flask f).lastBoundary = some b)
    (hwaits : s.truss.stretchWaits = [w]) (hflask : w.flask = f) (hdue : w.since + 3000 ≤ b) :
    let t := putStretch w.factor { s with truss := { s.truss with stretchWaits := [] } }
    stretchBoundary f s = some { t with truss := { t.truss with flaskStretch := Tab.del s.truss.flaskStretch f } } := by
  have hdueWaits : [w].filter (fun v => decide (v.flask = f ∧ v.since + 3000 ≤ b)) = [w] := by simp [hflask, hdue]
  have hrest : [w].filter (fun v => !([w].contains v)) = [] := by simp
  unfold stretchBoundary
  rw [hlast, hwaits]
  dsimp only
  rw [hdueWaits, hrest, List.getLast?_singleton]
  simp only [putStretch_flaskStretch, List.any_nil, Bool.false_eq_true, if_false]

/-- Settles O51: each event's guards let it take the effect stated. -/
theorem trussEvents : Obligations.TrussEvents := by
  refine ⟨?hello, ?silent, ?sends, ?digest, ?time, ?follow, ?stretch, ?boundary, ?signature, ?unanswered, ?pair, ?comparison,
    ?ports, ?aperture⟩
  case hello =>
    intro s port m id mid hops hport hm hup hstate hnew hfar
    have hgo : ¬ (1 < port ∨ 3 < m ∨ (!(s.aePort port).up) = true) :=
      not_or.2 ⟨not_lt.2 hport, not_or.2 ⟨not_lt.2 hm, not_bnot hup⟩⟩
    have hbetter : decide ((s.member m).hops = 0 ∨ hops < (s.member m).hops
        ∨ (hops = (s.member m).hops ∧ port ≤ (s.member m).viaPort) ∨ port = (s.member m).viaPort) = true :=
      decide_eq_true (Or.inl hnew)
    refine (if_neg hgo).trans ?_
    rw [hbetter, hstate, if_neg (not_le.2 hfar)]
    rfl
  case silent =>
    refine fun s m => ⟨fun hjoined => ?_, rfl⟩
    exact congrArg next (if_pos hjoined)
  case sends => exact fun s => ⟨rfl, fun htruss => if_neg htruss⟩
  case digest =>
    intro s m d hjoined hmember hstretch
    have hgo : ¬ ((!(s.member m).joined) = true ∨ d.member ≠ m) := not_or.2 ⟨not_bnot hjoined, not_not.2 hmember⟩
    exact (if_neg hgo).trans (congrArg (fun u => next (tryPair (checkPair u))) (if_neg fun h => h.2 hstretch))
  case time =>
    intro s port st err offset tr hport hup htruss hjoined hfollow hst x t y u hfollow2 hjoined2
    have hgo : ¬ (1 < port ∨ (!(s.aePort port).up) = true ∨ s.truss.id = 0) :=
      not_or.2 ⟨not_lt.2 hport, not_or.2 ⟨not_bnot hup, htruss⟩⟩
    refine (if_neg hgo).trans ?_
    have hgood : (decide (st = 1 ∨ st = 2) && tr) = tr := by simp [hst]
    rw [hgood, if_pos hst]
    refine (if_neg ?_).trans (if_neg ?_)
    · exact fun h => absurd (hfollow2.symm.trans h) nofun
    · exact fun h => ne_true_of_eq_false hjoined h.2.1
  case follow =>
    intro s port hfollow hapart hpartner t
    show execTimeFollowTimeout s = _
    rw [execTimeFollowTimeout, hfollow]
    exact if_pos ⟨hapart, hpartner⟩
  case stretch =>
    intro s m req n hm hreq hreq2
    exact if_neg (not_or.2 ⟨State.joined_guard hm, not_or.2 ⟨not_lt.2 hreq, not_lt.2 hreq2⟩⟩)
  case boundary =>
    intro s f b w hlast hwaits hflask hdue htruss t
    show execStretchBoundary f s = _
    rw [execStretchBoundary, stretchBoundary_of_single hlast hwaits hflask hdue]
    refine congrArg next (if_pos ?_)
    exact (putStretch_id w.factor { s with truss := { s.truss with stretchWaits := [] } }).trans htruss
  case signature =>
    intro s m f n g hpartner hmask
    have hgo : ¬ (s.truss.partner ≠ some m ∨ (!bitAt s.truss.pairMask f) = true) :=
      not_or.2 ⟨not_not.2 hpartner, not_bnot hmask⟩
    have hexec : exec (.signatureMessage m f n g) s = execSignatureMessage m f n g s := rfl
    rw [hexec, execSignatureMessage]
    refine ⟨fun hown => (if_neg hgo).trans ?_, fun y hown => (if_neg hgo).trans ?_⟩
    · rw [hown]
      rfl
    · rw [hown]
      rfl
  case unanswered =>
    intro s f n y hown
    show execSignatureTimeout f n s = _
    rw [execSignatureTimeout, hown]
    rfl
  case pair =>
    intro s t m mask since hpairing
    show execPairTimeout s = _
    rw [execPairTimeout, hpairing]
    rfl
  case comparison =>
    intro s f hagreed hmask hnew hstart hdue done t
    have hgo : ¬ ((!s.truss.agreed) = true ∨ (!bitAt s.truss.pairMask f) = true ∨ s.truss.compared.getLsbD f = true
        ∨ (!s.periodStart f) = true ∨ s.nextBoundary f < s.truss.agreedAt + 10000000) :=
      not_or.2 ⟨not_bnot hagreed, not_or.2 ⟨not_bnot hmask, not_or.2 ⟨ne_true_of_eq_false hnew, not_or.2
        ⟨not_bnot hstart, not_lt.2 hdue⟩⟩⟩⟩
    refine ⟨fun hsome => (if_neg hgo).trans ?_, fun hall => (if_neg hgo).trans ?_⟩
    · rw [show decide ((s.truss.compared ||| BitVec.ofNat 16 (2 ^ f)).toNat = s.truss.pairMask) = false from decide_eq_false hsome]
      rfl
    · rw [show decide ((s.truss.compared ||| BitVec.ofNat 16 (2 ^ f)).toNat = s.truss.pairMask) = true from decide_eq_true hall]
      rfl
  case ports =>
    intro s k l hk x
    refine ⟨fun hl hen hlane hup => ?_, fun htraining hlanes => ?_⟩
    · have hlive : (x.up || x.retraining) = true := by rw [hup]; rfl
      exact if_neg (not_or.2 ⟨not_lt.2 hk, not_or.2 ⟨not_lt.2 hl, not_or.2 ⟨not_bnot hen, not_or.2
        ⟨not_bnot hlane, not_bnot hlive⟩⟩⟩⟩)
    · refine (if_neg (not_or.2 ⟨not_lt.2 hk, not_bnot htraining⟩)).trans ?_
      rw [if_neg hlanes, decide_eq_true hlanes]
      rfl
  case aperture =>
    intro s m k n bs x hopen hm hmember hroom hrange
    exact if_neg (not_or.2 ⟨not_bnot hopen, not_or.2 ⟨State.joined_guard hm, not_or.2 ⟨not_bnot hmember, not_or.2
      ⟨not_lt.2 hroom, not_bnot hrange⟩⟩⟩⟩)

end Sys2Proof.Machine

/-!
PROOFS. Safety commands (spec 17_functional_safety.md, Commands, When SAFE_OUT is valid, Result classes and result age, C3 flasks).
-/

namespace Sys2Proof.Machine

/-- Settles O53: each command's guards let the packet pass, and its effect is the one stated. -/
theorem safetyCommands : Obligations.SafetyCommands := by
  refine ⟨?arm, ?resultClass, ?queries, ?notice, ?policy, ?enter, ?times, ?layout, ?revoke⟩
  case arm =>
    intro s p hacc hsafe
    have hfree := ne_true_of_eq_false hsafe
    refine ⟨fun hoff => ?_, fun hon hmode hfull hnotice => ?_⟩
    · exact command_done (b := 0) hacc ((if_neg (by omega)).trans ((if_neg hfree).trans (if_pos hoff))) rfl
    · have hmay : ¬ ((!s.outMode) = true ∨ (!s.sup.full) = true) := not_or.2 ⟨not_bnot hmode, not_bnot hfull⟩
      refine command_done (b := 0) hacc ((if_neg (by omega)).trans ((if_neg hfree).trans ((if_neg (by omega)).trans ?_))) rfl
      exact (if_neg hmay).trans (if_neg hnotice)
  case resultClass =>
    intro s p hacc x n hflags hage haccept hreaction hth hw1 hw hloosens
    refine command_later hacc ((if_neg (not_lt.2 hflags)).trans ((if_neg ?_).trans (if_neg ?_)))
    · exact not_or.2 ⟨not_lt.2 hage, not_or.2 ⟨not_lt.2 haccept, not_or.2 ⟨not_lt.2 hreaction, not_or.2
        ⟨hth, not_or.2 ⟨Nat.one_le_iff_ne_zero.1 hw1, not_lt.2 hw⟩⟩⟩⟩⟩
    · exact fun h => ne_true_of_eq_false (hloosens h.1) h.2
  case queries =>
    exact fun s p => ⟨fun hacc => command_done (b := 0) hacc rfl rfl, fun hacc => command_done (b := 0) hacc rfl rfl,
      fun hacc => command_done (b := 0) hacc rfl rfl⟩
  case notice =>
    intro s p hacc hv hid v
    have hfirst : bitsOf (p.u8 12) 1 0 = p.u8 12 % 4 := by
      simp only [bitsOf, Nat.pow_zero, Nat.div_one, Nat.reduceAdd, Nat.reduceSub, Nat.reducePow]
    refine command_done (b := 0) hacc ((if_neg (by omega)).trans ?_) rfl
    rw [hfirst]
    rfl
  case policy =>
    intro s p hacc k th w x hk hth1 hth hw1 hw hloosens
    refine command_done (b := 0) hacc ((if_neg ?_).trans (if_neg ?_)) rfl
    · exact not_or.2 ⟨not_lt.2 hk, not_or.2 ⟨not_lt.2 hth1, not_or.2 ⟨not_lt.2 hth, not_or.2 ⟨not_lt.2 hw1, not_lt.2 hw⟩⟩⟩⟩
    · rintro ⟨hout, hlooser⟩
      obtain ⟨hth', hw'⟩ := hloosens.resolve_left (fun h => ne_true_of_eq_false h hout)
      exact hlooser.elim (not_lt.2 hth') (not_lt.2 hw')
  case enter => exact fun s p hacc hkey => command_done (b := 0) hacc (if_neg (not_not.2 hkey)) rfl
  case times =>
    intro s p hacc a b c ha hb hb' hc hc' hloosens
    refine command_done (b := 0) hacc ((if_neg (by omega)).trans (if_neg ?_)) rfl
    rintro ⟨hout, hlooser⟩
    obtain ⟨ha', hb', hc'⟩ := hloosens.resolve_left (fun h => ne_true_of_eq_false h hout)
    exact hlooser.elim (not_lt.2 ha') fun h => h.elim (not_lt.2 hb') (not_lt.2 hc')
  case layout =>
    intro s p hacc hf x hstate hcls hnodup hdies
    have hrange : ¬ (15 < p.u8 12 ∨ ([p.u8 13, p.u8 14, p.u8 15].any (3 < ·)) = true) := by
      refine not_or.2 ⟨not_lt.2 hf, ?_⟩
      simp only [List.any_eq_true, decide_eq_true_eq, not_exists, not_and, not_lt]
      exact fun n hn => (hdies n hn).1
    have hserve : ¬ ([p.u8 13, p.u8 14, p.u8 15].any fun n => !(s.die n).inService || (s.die n).short) = true := by
      simp only [List.any_eq_true, not_exists, not_and]
      intro n hn
      rw [(hdies n hn).2.1, (hdies n hn).2.2]
      exact Bool.false_ne_true
    have hkind : ¬ ((x.state ≠ .created ∧ x.state ≠ .loaded) ∨ x.cls ≠ 3 ∨ ¬ [p.u8 13, p.u8 14, p.u8 15].Nodup
        ∨ ([p.u8 13, p.u8 14, p.u8 15].any fun n => !(s.die n).inService || (s.die n).short) = true) :=
      not_or.2 ⟨fun h => hstate.elim h.1 h.2, not_or.2 ⟨not_not.2 hcls, not_or.2 ⟨not_not.2 hnodup, hserve⟩⟩⟩
    exact command_done (b := 0) hacc ((if_neg hrange).trans (if_neg hkind)) rfl
  case revoke =>
    intro s p hacc hf x hstate
    refine command_later hacc ((if_neg (not_lt.2 hf)).trans (if_neg ?_))
    exact fun h => hstate.elim h.1 fun h' => h'.elim h.2.1 h.2.2

end Sys2Proof.Machine

/-!
PROOFS. Safety events (spec 17_functional_safety.md, Freedom from interference, Comparison, Result classes and result age,
The safe state).
-/

namespace Sys2Proof.Machine

/-- A result that is older than its class's limit is stale (17, Result classes and result age). -/
theorem exec_resultStale {s : State} {c e : Nat} (hnew : (s.rclass c).newest = some e)
    (hcheck : (s.rclass c).cfg.staleCheck = true) (hlimit : (s.rclass c).cfg.ageLimit ≠ 0)
    (hstale : (s.rclass c).stale = false) :
    exec (.resultStale c) s = next (classFailure c 0x21
      (match (advance (e + (s.rclass c).cfg.ageLimit * 1000 + 1) s).ex.results.lookup c with
        | some h => h.flask
        | none => 0)
      ((advance (e + (s.rclass c).cfg.ageLimit * 1000 + 1) s).setRclass c { s.rclass c with stale := true })) := by
  have hgo : ¬ ((!(s.rclass c).cfg.staleCheck) = true ∨ (s.rclass c).cfg.ageLimit = 0 ∨
      (s.rclass c).stale = true) := by
    simp [hcheck, hlimit, hstale]
  show execResultStale c s = _
  unfold execResultStale
  dsimp only
  rw [hnew]
  exact if_neg hgo

/-- While notices of the safe state are left and have a channel, the next one is due (17, The safe state). -/
theorem exec_safeStateNotice {s : State} (hsafe : s.safe.safeState = true)
    (hchan : s.safe.noticeChannels ≠ []) (hn : s.safe.noticeRepeat < 255) :
    exec .safeStateNotice s
      = next (sendNotice (advance (s.safe.cause.time + 100000000 * s.safe.noticeRepeat) s)) := by
  have hgo : ¬ ((!s.safe.safeState) = true ∨ s.safe.noticeChannels = []) :=
    not_or.2 ⟨not_bnot hsafe, hchan⟩
  show execSafeStateNotice s = _
  rw [execSafeStateNotice, if_neg hgo]
  exact congrArg (fun n => next (sendNotice (advance n s))) (if_pos hn)

/-- Where exactly one element of a list without repetition passes, the filter is that element. -/
theorem filter_eq_singleton {l : List Nat} {q : Nat → Bool} {a : Nat} (hl : l.Nodup) (ha : a ∈ l)
    (h : ∀ x ∈ l, q x = true ↔ x = a) : l.filter q = [a] := by
  rw [show l.filter q = l.filter (· == a) from List.filter_congr fun x hx => by
    rw [Bool.eq_iff_iff, h x hx, beq_iff_eq]]
  rw [List.filter_beq, List.count_eq_one_of_mem hl ha]
  rfl

theorem mem_flaskNums {f : Nat} : f ∈ flaskNums ↔ f ≤ 15 := by
  rw [flaskNums, List.mem_range]
  omega

/-- An audit that finds every flask's tags as the owner copy has them (17, Freedom from interference). -/
theorem exec_partitionAudit_ok {s : State} {tags : List (Nat × Nat × Holdings)} (hrun : s.lines.run = .running)
    (hok : ∀ f ∈ flaskNums, (tags.lookup f).getD (0, {}) = s.ownerCopy f) :
    exec (.partitionAudit tags) s = nextSweep { s with safe := { s.safe with partitionOk := true } } := by
  have hbad : flaskNums.filter (fun f => decide ((tags.lookup f).getD (0, {}) ≠ s.ownerCopy f)) = [] :=
    List.filter_eq_nil_iff.2 fun f hf => by simpa using hok f hf
  show execPartitionAudit tags s = _
  rw [execPartitionAudit, hbad]
  exact if_neg (not_not_intro hrun)

/-- An audit that finds one flask of C1 to C3 changed revokes it and enters the safe state. -/
theorem exec_partitionAudit_changed {s : State} {tags : List (Nat × Nat × Holdings)} {f : Nat}
    (hrun : s.lines.run = .running) (hf : f ≤ 15) (hcls : 1 ≤ (s.flask f).cls)
    (honly : ∀ g ∈ flaskNums, (tags.lookup g).getD (0, {}) = s.ownerCopy g ↔ g ≠ f) :
    exec (.partitionAudit tags) s = nextSweep (safeCause 9 0x27 (some f) none false
      (revoke f { s with safe := { s.safe with partitionOk := false } })) := by
  have hbad : flaskNums.filter (fun g => decide ((tags.lookup g).getD (0, {}) ≠ s.ownerCopy g)) = [f] :=
    filter_eq_singleton List.nodup_range (mem_flaskNums.2 hf) fun g hg => by
      rw [decide_eq_true_iff, ne_eq, honly g hg, not_not]
  have hhigh : [f].filter (fun g => decide (1 ≤ max (s.flask g).cls (s.ownerCopy g).1)) = [f] :=
    List.filter_eq_self.2 fun g hg => by
      rw [List.mem_singleton.1 hg]
      exact decide_eq_true (le_max_of_le_left hcls)
  have hlow : [f].filter (fun g => !([f] : List Nat).contains g) = [] := by simp
  show execPartitionAudit tags s = _
  rw [execPartitionAudit, hbad, hhigh, hlow]
  exact if_neg (not_not_intro hrun)

/-- An audit that finds every locked table as it was locked. -/
theorem exec_translationAudit_ok {s : State} {read : List (Nat × BitVec 64)} (hrun : s.lines.run = .running)
    (hok : ∀ x ∈ s.safe.lockedCrc, (s.flask x.1).cls = 0 ∨ read.lookup x.1 = none ∨ read.lookup x.1 = some x.2) :
    exec (.translationAudit read) s = next { s with safe := { s.safe with translationOk := true } } := by
  show execTranslationAudit read s = _
  unfold execTranslationAudit
  rw [List.filter_eq_nil_iff.2 ?bad]
  case bad =>
    intro x hx
    obtain h | h | h := hok x hx
    · simp [h]
    · simp [h]
    · simp [h]
  exact if_neg (not_not_intro hrun)

/-- An audit that finds the one locked table changed revokes its flask and enters the safe state. -/
theorem exec_translationAudit_changed {s : State} {read : List (Nat × BitVec 64)} {f : Nat} {v w : BitVec 64}
    (hrun : s.lines.run = .running) (hlocked : s.safe.lockedCrc = [(f, v)]) (hcls : 1 ≤ (s.flask f).cls)
    (hread : read.lookup f = some w) (hne : w ≠ v) :
    exec (.translationAudit read) s = nextSweep (safeCause 9 0x27 (some f) none false
      (revoke f { s with safe := { s.safe with translationOk := false } })) := by
  show execTranslationAudit read s = _
  unfold execTranslationAudit
  rw [hlocked, List.filter_eq_self.2 ?bad]
  case bad =>
    intro x hx
    rw [List.mem_singleton.1 hx]
    simp [hcls, hread, hne]
  exact if_neg (not_not_intro hrun)

theorem not_any_of_forall_mem {α : Type*} {l : List α} {q : α → Prop} [DecidablePred q] (h : ∀ x ∈ l, ¬ q x) :
    ¬ (l.any fun x => decide (q x)) = true := by
  rw [List.any_eq_true]
  exact fun ⟨x, hx, hq⟩ => h x hx (of_decide_eq_true hq)

theorem takeInverted_of_none {s : State} {f : Nat} (h : ∀ y ∈ s.svc.injected, ¬ (y.1 = 0 ∧ y.2.1 = f))
    (d : Duplex) : takeInverted f d s = (d, s) :=
  if_neg (not_any_of_forall_mem h)

/-- A held step whose halves have come, with no re-run of it and no inversion armed (17, Comparison). -/
theorem exec_duplexCheck {s : State} {f j i : Nat} {d : Duplex} (hheld : (j, i) ∈ (s.c3 f).held)
    (hnew : ∀ r ∈ (s.c3 f).reruns, (r.job, r.step) ≠ (j, i))
    (hplain : ∀ y ∈ s.svc.injected, ¬ (y.1 = 0 ∧ y.2.1 = f))
    (hmode : (s.c3 f).mode = .slack ∨ (s.c3 f).mode = .noSlack) :
    exec (.duplexCheck f j i d) s =
      if d.sig0.isSome ∧ d.sig0 = d.sig1 then next (releaseStep f j i s)
      else if (s.c3 f).mode = .noSlack ∨ (!d.inputsOk) = true then nextSweep (voteFailed f j i s)
      else next (startReruns f 16 (s.setC3 f { s.c3 f with
        reruns := (s.c3 f).reruns ++ [{ job := j, step := i, sig0 := d.sig0, sig1 := d.sig1 }] })) := by
  have hgo : ¬ ((!(s.c3 f).held.contains (j, i)) = true ∨
      ((s.c3 f).reruns.any fun r => decide (r.job = j ∧ r.step = i)) = true) := by
    refine not_or.2 ⟨not_bnot (List.contains_iff_mem.2 hheld), not_any_of_forall_mem fun r hr h => ?_⟩
    exact hnew r hr (Prod.ext h.1 h.2)
  have hduplex : ¬ ((s.c3 f).mode ≠ .slack ∧ (s.c3 f).mode ≠ .noSlack) := fun h => hmode.elim h.1 h.2
  show execDuplexCheck f j i d s = _
  rw [execDuplexCheck, if_neg hgo, if_neg hduplex, takeInverted_of_none hplain]

/-- A re-run that agrees with neither half loses the step. -/
theorem exec_slackRerunComplete_lost {s : State} {f j i : Nat} {sig : BitVec 64} {r : Rerun}
    (hrun : (s.c3 f).reruns.find? (fun r => r.running && decide (r.job = j ∧ r.step = i)) = some r)
    (h0 : r.sig0 ≠ some sig) (h1 : r.sig1 ≠ some sig) :
    exec (.slackRerunComplete f j i sig) s = nextSweep (voteFailed f j i s) := by
  show execSlackRerunComplete f j i sig s = _
  unfold execSlackRerunComplete
  dsimp only
  rw [hrun]
  exact if_pos ⟨h0, h1⟩

/-- A re-run that agrees with the first half releases the step; die B's core is counted against. -/
theorem exec_slackRerunComplete_first {s : State} {f j i : Nat} {sig : BitVec 64} {r : Rerun} {st : Step}
    (hrun : (s.c3 f).reruns.find? (fun r => r.running && decide (r.job = j ∧ r.step = i)) = some r)
    (h0 : r.sig0 = some sig) (hst : (s.job j).image.steps[i]? = some st) :
    let t := s.setC3 f { s.c3 f with votes := satInc (s.c3 f).votes }
    let u := t.setJob j { t.job j with voted := ((t.job j).voted ++ [i]).dedup }
    exec (.slackRerunComplete f j i sig) s
      = nextSweep (coreMismatch (s.halfSite j (s.c3 f).dieB st) (releaseStep f j i u)) := by
  show execSlackRerunComplete f j i sig s = _
  unfold execSlackRerunComplete
  dsimp only
  rw [hrun]
  dsimp only
  rw [if_neg fun h => h.1 h0, if_pos h0, hst]

/-- A running re-run stands among those of its flask. -/
theorem any_of_find_running {l : List Rerun} {j i : Nat} {r : Rerun}
    (h : l.find? (fun r => r.running && decide (r.job = j ∧ r.step = i)) = some r) :
    (l.any fun r => decide (r.job = j ∧ r.step = i)) = true :=
  have hr : (r.running && decide (r.job = j ∧ r.step = i)) = true :=
    List.find?_some (p := fun r : Rerun => r.running && decide (r.job = j ∧ r.step = i)) h
  List.any_eq_true.2 ⟨r, List.mem_of_find?_eq_some h, (Bool.and_eq_true_iff.1 hr).2⟩

/-- A checker test of an ACTIVE slack flask with no re-run, out of the safe state, runs (17, Comparison). -/
theorem checkerTest_runs {s : State} {f checker : Nat} (hactive : (s.flask f).state = .active)
    (hslack : (s.c3 f).mode = .slack) (hidle : (s.c3 f).reruns = []) (hsafe : s.safe.safeState = false)
    (hk : checker ≤ 2) :
    ¬ ((s.flask f).state ≠ .active ∨ (s.c3 f).mode ≠ .slack ∨ (s.c3 f).reruns ≠ [] ∨ 2 < checker ∨
      s.safe.safeState = true) := by
  simp [hactive, hslack, hidle, hsafe, hk]

/-- Settles O54: each event's guard passes, so it is its rule on the state, then settled. -/
theorem safetyEvents : Obligations.SafetyEvents := by
  refine ⟨?stale, ?notice, ?partition, ?translation, ?duplex, ?rerun, ?tests, ?eoi, ?clock, ?leak⟩
  case stale =>
    intro s c e x hnew hcheck hlimit hstale
    refine (exec_resultStale hnew hcheck hlimit hstale).trans ?_
    rfl
  case notice =>
    intro s hsafe hchan hn
    exact exec_safeStateNotice hsafe hchan hn
  case partition =>
    intro s tags hrun
    refine ⟨fun hok => exec_partitionAudit_ok hrun hok, ?_⟩
    intro f hf hcls honly
    exact exec_partitionAudit_changed hrun hf hcls honly
  case translation =>
    intro s read hrun
    refine ⟨fun hok => exec_translationAudit_ok hrun hok, ?_⟩
    intro f v w hlocked hcls hread hne
    exact exec_translationAudit_changed hrun hlocked hcls hread hne
  case duplex =>
    intro s f j i d hheld hnew hplain
    refine ⟨?_, ?_, ?_⟩
    · intro hmode hsome heq
      exact (exec_duplexCheck hheld hnew hplain hmode).trans
        (if_pos ⟨Option.isSome_iff_ne_none.2 hsome, heq⟩)
    · intro hslack hne hinputs
      have hgo : ¬ ((s.c3 f).mode = .noSlack ∨ (!d.inputsOk) = true) :=
        not_or.2 ⟨fun h => absurd (hslack.symm.trans h) nofun, not_bnot hinputs⟩
      exact (exec_duplexCheck hheld hnew hplain (.inl hslack)).trans
        ((if_neg fun h => hne h.2).trans (if_neg hgo))
    · intro hmode hne
      exact (exec_duplexCheck hheld hnew hplain (.inr hmode)).trans
        ((if_neg fun h => hne h.2).trans (if_pos (.inl hmode)))
  case rerun =>
    intro s f j i sig r hrun
    refine ⟨fun h0 h1 => exec_slackRerunComplete_lost hrun h0 h1, ?_, ?_⟩
    · intro h0 st hst
      exact exec_slackRerunComplete_first hrun h0 hst
    · exact if_pos (any_of_find_running hrun)
  case tests =>
    intro s f x hactive hslack hidle hsafe
    exact ⟨if_neg (checkerTest_runs hactive hslack hidle hsafe (Nat.zero_le 2)),
      if_neg (checkerTest_runs hactive hslack hidle hsafe one_le_two),
      if_neg (checkerTest_runs hactive hslack hidle hsafe le_rfl)⟩
  case eoi =>
    intro s f n hsince hmode
    show execEoiExpiry f s = _
    unfold execEoiExpiry
    rw [hsince]
    exact if_neg (not_not_intro hmode)
  case clock =>
    intro s hub hrun
    exact if_neg (not_not_intro hrun)
  case leak =>
    intro s k u less
    refine ⟨fun hk => if_pos ⟨rfl, hk⟩, fun hk => ?_, ?_⟩
    · show execErrorCounterLeak 1 k u s = _
      rw [execErrorCounterLeak, if_neg fun h => absurd h.1 one_ne_zero, if_pos ⟨rfl, hk⟩]
      rfl
    · show execErrorCounterLeak 2 k u s = _
      rw [execErrorCounterLeak, if_neg fun h => absurd h.1 two_ne_zero, if_neg fun h => absurd h.1 (by decide), if_pos rfl]
      rfl

end Sys2Proof.Machine

/-!
PROOFS. Firmware banks, reload and retirement (spec 18_service_and_update.md, Commands, Firmware banks, Reloading a flask,
Retiring and re-admitting).
-/

namespace Sys2Proof.Machine

/-- WRITE_IMAGE of a component off trial and with no switch begins to write its inactive bank. -/
theorem exec_writeImage {s : State} {p : Packet} {im : FwImage} (hacc : s.accepts p 0x0B01 16 true) (hcomp : p.u8 12 ≤ 9)
    (hflag : p.u8 13 ≤ 1) (himage : im.component = p.u8 12) (htrial : (s.comp (p.u8 12)).trial = false)
    (hswitch : (s.comp (p.u8 12)).switch = .none) :
    exec (.writeImage p im) s = next (waitReply (s.ticketOf p 0x0B01) ((s.taken p).setComp (p.u8 12)
      { (s.comp (p.u8 12)).setBank (1 - (s.comp (p.u8 12)).active) { (s.comp (p.u8 12)).idle with state := .writing } with
        writing := (s.comp (p.u8 12)).writing ++ [(s.ticketOf p 0x0B01, im)] })) := by
  have hrange : ¬ (9 < p.u8 12 ∨ 1 < p.u8 13) := not_or.2 ⟨not_lt.2 hcomp, not_lt.2 hflag⟩
  refine command_later hacc ((if_neg hrange).trans ((if_neg (not_not_intro himage)).trans ?_))
  exact (if_neg (ne_true_of_eq_false htrial)).trans (if_neg (not_not_intro hswitch))

/-- The image of the one write under way is in its bank, which is then verified or failed. -/
theorem exec_imageWriteComplete {s : State} {c : Nat} {t : Ticket} {im : FwImage} (hwriting : (s.comp c).writing = [(t, im)]) :
    exec (.imageWriteComplete c) s =
      let u := s.setComp c { (s.comp c).setBank (1 - (s.comp c).active)
        { state := if (s.imageFails im).isSome then .failed else .verified, version := im.version, secver := im.secver } with
        writing := [] }
      (s.imageFails im).elim (next (finish t 0 0x0B 0 (leBytes 4 im.version ++ leBytes 1 im.secver)
        (serviceLog { time := u.now, kind := 4, who := c, info := im.version } u)))
        fun d => next (finish t 4 0x0B d [] u) := by
  show execImageWriteComplete c s = _
  unfold execImageWriteComplete
  dsimp only
  rw [hwriting]
  dsimp only
  cases s.imageFails im <;> rfl

/-- ACTIVATE_BANK of an engine's verified bank starts a series of the flasks listed (18, Firmware banks). -/
theorem exec_activateBank_series {s : State} {p : Packet} (hacc : s.accepts p 0x0B02 24 true) (hrange : ActivateBankInRange p)
    (hengine : 3 ≤ p.u8 12) (hstart : p.u8 13 = 0) (hunlocked : s.bankLocked (p.u8 12) = false)
    (hswitch : (s.comp (p.u8 12)).switch = .none) (hidle : (s.comp (p.u8 12)).idle.state = .verified)
    (hlisted : ∀ f ∈ s.bankFlasks (p.u8 12), f ∈ Packet.flaskList p) (hsome : Packet.flaskList p ≠ [])
    (hcommits : ∀ f ∈ Packet.flaskList p, (s.flask f).commits = true ∧ s.anySeries f = false)
    (horder : (s.taken p).orderOk (Packet.flaskList p) = true) :
    exec (.activateBank p) s = next (waitReply (s.ticketOf p 0x0B02) (issueSeries (.bank (p.u8 12)) (Packet.flaskList p)
      (timeoutOf (p.u32 32)) (s.ticketOf p 0x0B02) (flipBank (p.u8 12) .running (s.taken p)))) := by
  have hlock : ¬ (s.taken p).bankLocked (p.u8 12) = true := by rw [State.taken_bankLocked, hunlocked]; decide
  have hstarted : ¬ p.u8 13 = 1 := by rw [hstart]; decide
  have hmembers : ¬ ((s.taken p).bankFlasks (p.u8 12)).any (fun f => !(Packet.flaskList p).contains f) = true := by
    simpa using hlisted
  have hstill : ¬ (Packet.flaskList p).any (fun f => !((s.taken p).flask f).commits) = true := by
    simpa using fun f hf => (hcommits f hf).1
  have hseries : ¬ (Packet.flaskList p).any (s.taken p).anySeries = true := by
    simpa using fun f hf => (hcommits f hf).2
  have hquiet : ¬ ((s.taken p).comp (p.u8 12)).switch ≠ .none := not_not_intro hswitch
  have hverified : ¬ ((s.taken p).comp (p.u8 12)).idle.state ≠ .verified := not_not_intro hidle
  refine command_later hacc ?_
  dsimp only
  rw [if_neg hrange.not_reserved, if_neg (Nat.not_lt.2 hengine), if_neg hlock, if_neg hstarted, if_neg hquiet,
    if_neg hverified, if_neg hmembers, if_neg hstill, if_neg hseries, if_neg (not_bnot horder), if_neg hsome]

theorem exec_confirmBank {s : State} {p : Packet} (hacc : s.accepts p 0x0B03 1 true) (hcomp : p.u8 12 ≤ 9)
    (htrial : (s.comp (p.u8 12)).trial = true) (hproven : (s.comp (p.u8 12)).proven = true)
    (hswitch : (s.comp (p.u8 12)).switch = .none) :
    exec (.confirmBank p) s = .next (answered p 0 0x0B 0 []
      (serviceLog { time := s.now, kind := 6, who := p.u8 12, info := (s.comp (p.u8 12)).live.version }
        ((s.taken p).setComp (p.u8 12) { s.comp (p.u8 12) with trial := false }))) := by
  have hdone : ¬ ((!((s.taken p).comp (p.u8 12)).proven) = true ∨ ((s.taken p).comp (p.u8 12)).switch ≠ .none) :=
    not_or.2 ⟨not_bnot hproven, not_not_intro hswitch⟩
  refine command_done (b := 0) hacc ?_ rfl
  exact (if_neg (not_lt.2 hcomp)).trans ((if_neg (not_bnot htrial)).trans (if_neg hdone))

/-- No component is on trial or in a switch, so the security version may be committed. -/
theorem commitSecurity_guard {s : State} (h : ∀ c, c ≤ 9 → (s.comp c).trial = false ∧ (s.comp c).switch = .none) :
    ¬ (compNums.any fun c => (s.comp c).trial || (s.comp c).switch ≠ .none) = true := by
  simpa [compNums, Nat.lt_succ_iff] using h

/-- A reload that passes its checks and loads its images waits for its swap boundary (18, Reloading a flask). -/
theorem exec_reloadFlask_paced {s t : State} {p : Packet} {ims : List PourImage} {js fr : List Nat}
    (hacc : s.accepts p 0x0B05 24 true) (hf : p.u8 12 ≤ 15) (hcount : 1 ≤ p.u8 13) (hcount8 : p.u8 13 ≤ 8)
    (htime : p.u32 32 ≤ 10000) (hactive : (s.flask (p.u8 12)).state = .active) (hpaced : (s.flask (p.u8 12)).mode = .paced)
    (hfresh : ∀ r ∈ s.ex.reloads, r.flask ≠ p.u8 12) (hc3 : s.safe.armed = false ∨ (s.flask (p.u8 12)).cls ≠ 3)
    (hseries : s.anySeries (p.u8 12) = false)
    (hload : loadAll (p.u8 12) (match s.jobsOf (p.u8 12), (s.flask (p.u8 12)).tenants with
      | j :: _, _ => (s.job j).owner
      | [], c :: _ => c
      | [], [] => p.ring) (ims.take (p.u8 13)) (s.taken p) [] [] = .ok (t, js, fr)) :
    exec (.reloadFlask p ims) s = .next (settle (sweepClosing (waitReply (s.ticketOf p 0x0B05) { t with ex := { t.ex with
      reloads := t.ex.reloads ++ [{ flask := p.u8 12, newJobs := js, timeoutMs := timeoutOf (p.u32 32), since := t.now
                                    ticket := s.ticketOf p 0x0B05 }] } }))) := by
  have hrange : ¬ (15 < p.u8 12 ∨ p.u8 13 = 0 ∨ 8 < p.u8 13 ∨ 10000 < timeoutOf (p.u32 32)) :=
    not_or.2 ⟨not_lt.2 hf, not_or.2 ⟨Nat.one_le_iff_ne_zero.1 hcount, not_or.2 ⟨not_lt.2 hcount8, not_lt.2 (timeoutOf_le htime)⟩⟩⟩
  have hlock : ¬ ((s.taken p).safe.armed = true ∧ ((s.taken p).flask (p.u8 12)).cls = 3) := fun ⟨harmed, hcls⟩ =>
    hc3.elim (fun h => Bool.false_ne_true (h.symm.trans harmed)) fun h => h hcls
  have hstate : ¬ (((s.taken p).flask (p.u8 12)).state ≠ .active ∨ ((s.taken p).flask (p.u8 12)).mode = .tile ∨
      ((s.taken p).ex.reloads.any fun r => decide (r.flask = p.u8 12)) = true) :=
    not_or.2 ⟨not_not_intro hactive, not_or.2 ⟨fun h => absurd (hpaced.symm.trans h) nofun, not_any_of_forall_mem hfresh⟩⟩
  refine then_later hacc ((if_neg hrange).trans ((if_neg hlock).trans ((if_neg hstate).trans
    ((if_neg (ne_true_of_eq_false ((State.taken_anySeries s p _).trans hseries))).trans ?_))))
  split
  case h_1 a d hfail => exact absurd (hfail.symm.trans hload) nofun
  case h_2 u ks x hloaded =>
    cases hloaded.symm.trans hload
    have hrunning : ¬ ((s.taken p).flask (p.u8 12)).mode = .free := fun h => absurd (hpaced.symm.trans h) nofun
    dsimp only
    rw [if_neg hrunning]

/-- RETIRE_DIE of a die that its rules let go and that no flask holds cores of takes it from the shadows. -/
theorem exec_retireDie {s : State} {p : Packet} (hacc : s.accepts p 0x0B06 1 true) (hn : p.u8 12 ≤ 3)
    (hin : (s.die (p.u8 12)).out = none) (hfresh : ∀ r ∈ s.svc.retiring, r.die ≠ p.u8 12)
    (hc3 : ∀ f ∈ flaskNums, (s.c3 f).mode = .none) (hcarry : s.canCarryWithout (p.u8 12) = true)
    (hevacuate : s.mayEvacuate (p.u8 12) = true)
    (hcores : ∀ f ∈ flaskNums, ∀ c ∈ (s.flask f).committed.cores, c.1 ≠ p.u8 12) :
    let t := overList (fun f s => let x := s.flask f
      s.setFlask f { x with shadow := { x.shadow with cores := x.shadow.cores.filter fun c => decide (c.1 ≠ p.u8 12) } })
      flaskNums (s.taken p)
    exec (.retireDie p) s = .next (settle (settleMoves (waitReply (s.ticketOf p 0x0B06) { t with svc := { t.svc with
      retiring := t.svc.retiring ++ [{ die := p.u8 12, flasks := [], ticket := s.ticketOf p 0x0B06 }] } }))) := by
  have hservice : ¬ (((s.taken p).die (p.u8 12)).out.isSome = true ∨
      ((s.taken p).svc.retiring.any fun r => decide (r.die = p.u8 12)) = true) :=
    not_or.2 ⟨Option.not_isSome_iff_eq_none.2 hin, not_any_of_forall_mem hfresh⟩
  have hplain : ¬ (flaskNums.any fun f => let y := (s.taken p).c3 f
      ((s.taken p).flask f).state ≠ .empty && decide (y.mode ≠ .none) && [y.dieA, y.dieB, y.dieC].contains (p.u8 12)) = true := by
    rw [List.any_eq_true]
    rintro ⟨f, hf, h⟩
    simp [hc3 f hf] at h
  have hholders : flaskNums.filter (fun f => ((s.taken p).flask f).committed.cores.any fun c => decide (c.1 = p.u8 12)) = [] :=
    List.filter_eq_nil_iff.2 fun f hf => not_any_of_forall_mem (hcores f hf)
  refine then_later hacc ((if_neg (not_lt.2 hn)).trans ((if_neg hservice).trans ((if_neg hplain).trans
    ((if_neg (not_bnot hcarry)).trans ((if_neg (not_bnot hevacuate)).trans ?_)))))
  dsimp only
  rw [hholders]
  rfl

/-- A site that a flask holds is only noted for its flask's boundary: the service block stands. -/
theorem retireSite_svc_of_held {s : State} {n k f : Nat} (hheld : s.holderOf n k = some f) :
    (retireSite n k s).svc = s.svc := by
  unfold retireSite
  rw [hheld]
  split <;> rfl

theorem slackOf_eq_none {s : State} {n k : Nat} (h : ∀ f ∈ flaskNums, (n, k) ∉ (s.c3 f).slackSites) :
    (flaskNums.find? fun f => (s.c3 f).slackSites.contains (n, k)) = none :=
  List.find?_eq_none.2 fun f hf => by simpa using h f hf

/-- READMIT of a kind other than dies takes out of the record the entries of that unit, kind and index. -/
theorem exec_readmit {s : State} {p : Packet} (hacc : s.accepts p 0x0B08 8 true) (hkind : p.u8 12 ≤ 7) :
    let hit := fun (r : Retired) => decide (r.unit = p.u8 13 ∧ r.kind = p.u8 12 ∧ r.index = p.u32 16)
    let gone := s.sup.record.filter hit
    let t := { s.taken p with sup := { s.sup with
      record := s.sup.record.filter fun r => !hit r, outNow := s.sup.outNow ++ gone
      recordFull := s.sup.recordFull && gone.isEmpty } }
    exec (.readmit p) s = .next (answered p 0 0x0B 0 (leBytes 2 gone.length)
      (gone.foldl (fun s r => serviceLog { time := s.now, kind := 3, who := r.unit, unit := r.index } s) t)) := by
  have hdie : p.u8 12 ≠ 8 := (Nat.lt_succ_of_le hkind).ne
  have hhit (r : Retired) : (decide (r.unit = p.u8 13) &&
      (decide (r.kind = p.u8 12 ∧ (p.u8 12 = 8 ∨ r.index = p.u32 16)) || decide (p.u8 12 = 8 ∧ (r.kind = 0 ∨ r.kind = 1)))) =
      decide (r.unit = p.u8 13 ∧ r.kind = p.u8 12 ∧ r.index = p.u32 16) := by
    simp [hdie]
  refine command_done (b := 0) hacc ?_ rfl
  simp only [hhit]
  rw [if_neg (not_lt.2 (hkind.trans (by decide))), if_neg (Nat.lt_of_le_of_lt hkind (by decide)).ne]
  rfl

/-- Settles O55: each command and event passes its checks, so its effect is the one stated. -/
theorem firmwareReloadRetirement : Obligations.FirmwareReloadRetirement := by
  refine ⟨?write, ?written, ?activate, ?confirm, ?commit, ?restart, ?reload, ?swap, ?die, ?site, ?readmit⟩
  case write => exact fun s p im hacc hcomp hflag himage htrial hswitch => exec_writeImage hacc hcomp hflag himage htrial hswitch
  case written =>
    intro s c t im hwriting
    refine ⟨fun hok => ?_, fun d hfail => ?_⟩
    · refine (exec_imageWriteComplete hwriting).trans ?_
      rw [hok]
      rfl
    · refine (exec_imageWriteComplete hwriting).trans ?_
      rw [hfail]
      rfl
  case activate =>
    intro s p hacc hstart hlen htime c x ms hnodup hflasks hswitch hidle
    have hrange (hcomp : p.u8 12 ≤ 9) : ActivateBankInRange p :=
      { component := hcomp, resume := hstart.trans_le zero_le_one, count := hlen, timeout := htime, flasks := hflasks, nodup := hnodup }
    refine ⟨fun hcomp => ?_, fun hengine hcomp hunlocked hlisted hsome hcommits horder => ?_⟩
    · exact exec_activateBank_at_restart hacc (hrange (hcomp.trans (by decide))) hcomp hstart hswitch hidle
    · exact exec_activateBank_series hacc (hrange hcomp) hengine hstart hunlocked hswitch hidle hlisted hsome hcommits horder
  case confirm =>
    intro s p hacc hcomp x htrial hproven hswitch
    exact exec_confirmBank hacc hcomp htrial hproven hswitch
  case commit =>
    intro s p hacc hkey hquiet least
    have hguard := commitSecurity_guard (s := s.taken p) hquiet
    refine ⟨fun hle => ?_, fun hlt => ?_⟩
    · refine command_done (b := 0) hacc ?_ rfl
      exact (if_neg (not_not_intro hkey)).trans ((if_neg hguard).trans (if_pos hle))
    · refine command_done (b := 0) hacc ?_ rfl
      exact (if_neg (not_not_intro hkey)).trans ((if_neg hguard).trans (if_neg (not_le.2 hlt)))
  case restart =>
    intro s hrestarting
    exact (if_neg (not_bnot hrestarting)).trans (if_pos ⟨rfl, rfl⟩)
  case reload =>
    intro s t p ims js fr hacc f x owner hf hcount hcount8 htime hactive hpaced hfresh hc3 hseries hload _
    exact exec_reloadFlask_paced hacc hf hcount hcount8 htime hactive hpaced hfresh hc3 hseries hload
  case swap =>
    intro s f r hfind
    refine ⟨fun hactive hready hcleared => ?_, ?_⟩
    · show execReloadSwap f s = _
      rw [execReloadSwap, hfind]
      exact if_pos ⟨hactive, hready, hcleared⟩
    · show execReloadTimeout f s = _
      rw [execReloadTimeout, hfind]
      rfl
  case die =>
    intro s p hacc n hn hin hfresh hc3 hcarry hevacuate hcores t
    exact exec_retireDie hacc hn hin hfresh hc3 hcarry hevacuate hcores
  case site =>
    intro s p hacc n k hn hk hfused hretired hslack
    have hrange : ¬ (3 < n ∨ 143 < k) := not_or.2 ⟨not_lt.2 hn, not_lt.2 hk⟩
    have hin : ¬ ((s.taken p).isFused n k = true ∨ (s.taken p).isRetired 0 n k = true) := by
      rw [State.taken_isFused, State.taken_isRetired, hfused, hretired]
      decide
    have hkeeps : ¬ ((flaskNums.find? fun f => ((s.taken p).c3 f).slackSites.contains (n, k)).isSome = true ∧
        (s.taken p).freeReserves n = []) := by
      rw [slackOf_eq_none (s := s.taken p) hslack]
      exact fun h => absurd h.1 nofun
    refine ⟨fun hfree => ?_, fun f hheld => ?_⟩
    · refine command_done (b := 0) hacc ((if_neg hrange).trans ((if_neg hin).trans ((if_neg hkeeps).trans ?_))) rfl
      rw [show (s.taken p).holderOf (p.u8 12) (p.u8 13) = none from hfree]
      rfl
    · refine command_later hacc ((if_neg hrange).trans ((if_neg hin).trans ((if_neg hkeeps).trans ?_)))
      rw [show (s.taken p).holderOf (p.u8 12) (p.u8 13) = some f from hheld]
      dsimp only
      rw [retireSite_svc_of_held (s := s.taken p) hheld]
  case readmit =>
    intro s p hacc hkind hit gone t
    exact exec_readmit hacc hkind

end Sys2Proof.Machine

/-!
PROOFS. Logs, the diagnostic port's settings, CALIBRATE_ENERGY and the development grade (spec 18_service_and_update.md,
Commands, Service log, Diagnostic port, Development grade).
-/

namespace Sys2Proof.Machine

/-- A count of 1 to 4,096 entries passes the range check of the two reading commands. -/
theorem entryCount_guard {n : Nat} (hlo : 1 ≤ n) (hhi : n ≤ 4096) : ¬ (n = 0 ∨ 4096 < n) :=
  not_or.2 ⟨Nat.one_le_iff_ne_zero.1 hlo, not_lt.2 hhi⟩

theorem exec_setDiagPort {s : State} {p : Packet} (hacc : s.accepts p 0x0B0B 36 true) (hflags : p.u8 12 ≤ 3)
    (hwrite : bitAt (p.u8 12) 1 = true → s.fuses.grade = .ld600) :
    exec (.setDiagPort p) s = .next (answered p 0 0x0B 0 [] { s.taken p with svc := { s.svc with
      diagEn := bitAt (p.u8 12) 0, diagWrite := bitAt (p.u8 12) 1, diagPort := p.u16 14
      diagAddr := (List.range 16).map (fun k => BitVec.ofNat 8 (p.u8 (16 + k)))
      diagPeer := (List.range 16).map (fun k => BitVec.ofNat 8 (p.u8 (32 + k))) } }) := by
  have hgrade : ¬ (bitAt (p.u8 12) 1 = true ∧ (s.taken p).fuses.grade ≠ .ld600) := fun ⟨hbit, hne⟩ => hne (hwrite hbit)
  exact command_done (b := 0) hacc ((if_neg (not_lt.2 hflags)).trans (if_neg hgrade)) rfl

theorem exec_calibrateEnergy {s : State} {p : Packet} (hacc : s.accepts p 0x0B0C 12 true) (hpark : s.pa.mode = .park)
    (hfree : s.svc.suite = none) (hstill : ∀ f ∈ flaskNums, (s.flask f).state ≠ .active) :
    exec (.calibrateEnergy p) s = .next (awaiting (s.ticketOf p 0x0B0C)
      { s.taken p with svc := { s.svc with suite := some (s.ticketOf p 0x0B0C, p.u64 16) } }) := by
  have hgo : ¬ ((s.taken p).pa.mode ≠ .park ∨ (s.taken p).svc.suite.isSome = true ∨
      (flaskNums.any fun f => decide (((s.taken p).flask f).state = .active)) = true) :=
    not_or.2 ⟨not_not_intro hpark, not_or.2 ⟨Option.not_isSome_iff_eq_none.2 hfree, not_any_of_forall_mem hstill⟩⟩
  exact command_later hacc (if_neg hgo)

/-- The end of the suite writes its record for the command that waits (18, Commands). -/
theorem exec_energySuiteComplete {s : State} {events : List Nat} {leak : List (Nat × List Nat)} {t : Ticket} {a : Nat}
    (hsuite : s.svc.suite = some (t, a)) :
    exec (.energySuiteComplete events leak) s = next (finish t 0 0x0B 0 (leBytes 4 2304)
      { s.hostWrite a (suiteRecord events leak s) with
        svc := { (s.hostWrite a (suiteRecord events leak s)).svc with suite := none } }) := by
  have hexec : exec (.energySuiteComplete events leak) s = execEnergySuiteComplete events leak s := rfl
  rw [hexec, execEnergySuiteComplete, hsuite]

/-- For any bytes: stated apart from `suiteRecord`, whose value is not to be computed here. -/
theorem energySuite_written (s : State) (bs : List Byte) (t : Ticket) (a : Nat) :
    next (finish t 0 0x0B 0 (leBytes 4 2304)
      { s.hostWrite a bs with svc := { (s.hostWrite a bs).svc with suite := none } })
      = .next (settle (finish t 0 0x0B 0 (leBytes 4 2304)
        { s with hostMem := Memory.write s.hostMem a bs, svc := { s.svc with suite := none } })) := rfl

theorem exec_setDevTrace {s : State} {p : Packet} (hacc : s.accepts p 0x0B0E 1 true) (hgrade : s.fuses.grade = .ld600)
    (hflags : p.u8 12 ≤ 3)
    (hroom : bitAt (p.u8 12) 0 = false ∨ s.svc.traceOn = true ∨ 65536 + s.quotaSum 2 ≤ s.capacity 2) :
    exec (.setDevTrace p) s = .next (answered p 0 0x0B 0 [] { s.taken p with svc := { s.svc with
      traceOn := bitAt (p.u8 12) 0, traceStream := bitAt (p.u8 12) 0 && bitAt (p.u8 12) 1
      trace := if s.svc.traceOn ∧ bitAt (p.u8 12) 0 then s.svc.trace else [] } }) := by
  have hfits : ¬ (bitAt (p.u8 12) 0 = true ∧ (!(s.taken p).svc.traceOn) = true ∧
      (s.taken p).capacity 2 < 65536 + (s.taken p).quotaSum 2) := by
    rintro ⟨hon, hoff, hfull⟩
    obtain h | h | h := hroom
    · exact Bool.false_ne_true (h.symm.trans hon)
    · exact not_bnot h hoff
    · exact not_lt.2 h hfull
  exact command_done (b := 0) hacc
    ((if_neg (not_not_intro hgrade)).trans ((if_neg (not_lt.2 hflags)).trans (if_neg hfits))) rfl

/-- Settles O56: each command passes its checks, so its effect is the one stated. -/
theorem serviceRecordsAndDevelopment : Obligations.ServiceRecordsAndDevelopment := by
  refine ⟨?logs, ?port, ?query, ?calibrate, ?suite, ?inject, ?trace⟩
  case logs =>
    intro s p hlo hhi
    exact ⟨fun hacc => command_done (b := 0) hacc (if_neg (entryCount_guard hlo hhi)) rfl,
      fun hacc => command_done (b := 0) hacc (if_neg (entryCount_guard hlo hhi)) rfl⟩
  case port => exact fun s p hacc hflags hwrite => exec_setDiagPort hacc hflags hwrite
  case query =>
    intro s p hacc
    refine ⟨fun hall => command_done (b := 0) hacc (if_pos hall) rfl, fun hcomp => ?_⟩
    have hone : ¬ p.u8 12 = 0xFF := (Nat.lt_of_le_of_lt hcomp (by decide)).ne
    exact command_done (b := 0) hacc ((if_neg hone).trans (if_neg (not_lt.2 hcomp))) rfl
  case calibrate => exact fun s p hacc hpark hfree hstill => exec_calibrateEnergy hacc hpark hfree hstill
  case suite =>
    intro s events leak t a hsuite
    exact (exec_energySuiteComplete hsuite).trans (energySuite_written s (suiteRecord events leak s) t a)
  case inject =>
    intro s p hacc hgrade hf u arm
    have hdevelopment : ¬ (s.taken p).fuses.grade ≠ .ld600 := not_not_intro hgrade
    have hrange (k : Nat) (hk : p.u8 12 = k) (hk4 : k ≤ 4) : ¬ (4 < p.u8 12 ∨ 15 < p.u8 13) :=
      not_or.2 ⟨not_lt.2 (hk.trans_le hk4), not_lt.2 hf⟩
    have hother (k j : Nat) (hk : p.u8 12 = k) (hne : k ≠ j) : ¬ p.u8 12 = j := fun h => hne (hk.symm.trans h)
    refine ⟨fun hk => ?_, fun m hk hmap => ?_, fun hk => ?_, fun hk => ?_, fun hk => ?_⟩
    · refine command_done (b := 0) hacc ((if_neg hdevelopment).trans ((if_neg (hrange 0 hk (by decide))).trans ?_)) rfl
      exact if_pos hk
    · refine command_done (b := 0) hacc ((if_neg hdevelopment).trans ((if_neg (hrange 1 hk (by decide))).trans ?_)) rfl
      refine (if_neg (hother 1 0 hk (by decide))).trans ((if_pos hk).trans ?_)
      rw [hmap]
      rfl
    · refine command_done (b := 0) hacc ((if_neg hdevelopment).trans ((if_neg (hrange 2 hk (by decide))).trans ?_)) rfl
      exact (if_neg (hother 2 0 hk (by decide))).trans ((if_neg (hother 2 1 hk (by decide))).trans (if_pos hk))
    · refine command_done (b := 0) hacc ((if_neg hdevelopment).trans ((if_neg (hrange 3 hk (by decide))).trans ?_)) rfl
      exact (if_neg (hother 3 0 hk (by decide))).trans ((if_neg (hother 3 1 hk (by decide))).trans
        ((if_neg (hother 3 2 hk (by decide))).trans (if_pos hk)))
    · refine command_done (b := 0) hacc ((if_neg hdevelopment).trans ((if_neg (hrange 4 hk (by decide))).trans ?_)) rfl
      exact (if_neg (hother 4 0 hk (by decide))).trans ((if_neg (hother 4 1 hk (by decide))).trans
        ((if_neg (hother 4 2 hk (by decide))).trans (if_neg (hother 4 3 hk (by decide)))))
  case trace => exact fun s p hacc hgrade hflags hroom => exec_setDevTrace hacc hgrade hflags hroom

end Sys2Proof.Machine
